-- ==== Sys2Proof/Word.lean ====
section
/-! DEFINITION. The words the cell link carries: bytes, 16-bit fields and the twelve payload bytes of an item (R166). -/

namespace Sys2Proof

/-- One byte of a frame. -/
abbrev Byte := BitVec 8

/-- A two-byte field: a tag, a cycle number, a path reference, a serial or a bit id. -/
abbrev Half := BitVec 16

/-- Item bytes 4 to 15 (R166). Byte 4 is bits 7..0, byte 15 is bits 95..88, so that a field of several bytes,
carried least significant byte first, is one run of bits. -/
abbrev Payload := BitVec 96

/-- A station address as it is judged: bits 0 to 5 of an item's address byte (R166, R170). -/
abbrev Station := BitVec 6

end Sys2Proof
end

