-- ==== Sys2Proof/Syntax.lean ====
section
/-! DEFINITION. The commands: one constructor of `Instr` for each row of spec/opcode_table.json, with the operands the row's rule reads. -/

namespace Sys2Proof

/-- The two link ports (00_scope): Port U faces the cell master, Port D the stations. -/
inductive Port where
  | u
  | d
  deriving DecidableEq, Repr

/-- The two nests of the shuttle table (R17). -/
inductive Nest where
  | a
  | b
  deriving DecidableEq, Repr

/-- A lane, LANE0 to LANE3 (R115). -/
abbrev LaneId := Fin 4

/-- A picker, PICKER0 or PICKER1 (R60). -/
abbrev PickerId := Fin 2

/-- A magazine bay, 0 to 7 (R77). -/
abbrev BayId := Fin 8

/-- A recipe slot, 0 to 7 (R1). -/
abbrev SlotId := Fin 8

/-- The bytes of an item besides its kind: the station address byte (bits 6 and 7 included), the tag and the payload (R166). -/
structure Wire where
  addr : Byte
  tag : Half
  payload : Payload
  deriving DecidableEq, Repr

/-- One item of a frame, sixteen bytes on the link (R166). -/
structure Item where
  addr : Byte
  kind : Byte
  tag : Half
  payload : Payload
  deriving DecidableEq, Repr

/-- The commands the DG740 takes, one constructor per row of the table. A row that is an item of a frame carries
that item's bytes besides its kind, which the constructor fixes; a timer's row names the record whose timer expires. -/
inductive Instr where
  /-- R133: a frame, as the bytes received, arrives at a port. -/
  | frameArrival (port : Port) (bytes : List Byte)
  /-- R137: a down item of the given kind that passes untouched. -/
  | itemPass (kind : Byte) (w : Wire)
  /-- R39 -/
  | cut (w : Wire)
  /-- R117: a SPIN item with a speed above 0. -/
  | spinStart (w : Wire)
  /-- R118: a SPIN item with speed 0. -/
  | spinStop (w : Wire)
  /-- R123 -/
  | feed (w : Wire)
  /-- R62 -/
  | grip (w : Wire)
  /-- R69 -/
  | openJaws (w : Wire)
  /-- R71 -/
  | lift (w : Wire)
  /-- R86 -/
  | place (w : Wire)
  /-- R28 -/
  | shuttle (w : Wire)
  /-- R144: the HALT frame that has arrived at Port U is walked and sent. -/
  | haltFrame
  /-- R141: the walked order frame takes the pending items and leaves at Port D. -/
  | insertion
  /-- R146: the walked return frame takes answers and notices and leaves at Port U. -/
  | returnFill
  /-- R46 -/
  | cutDone (w : Wire)
  /-- R116 -/
  | laneState (w : Wire)
  /-- R64 -/
  | gripState (w : Wire)
  /-- R26 -/
  | tableState (w : Wire)
  /-- R81 -/
  | bayState (w : Wire)
  /-- R91 -/
  | placeDone (w : Wire)
  /-- R54 -/
  | cutTimerExpiry (lane : LaneId)
  /-- R73 -/
  | jawTimerExpiry (picker : PickerId)
  /-- R94: the placement is named by its board. -/
  | placeTimerExpiry (nest : Nest) (board : Nat)
  /-- R118 -/
  | spinDownTimerExpiry (lane : LaneId)
  /-- R126 -/
  | recoveryTimerExpiry (lane : LaneId)
  /-- R121 -/
  | coolDownTimerExpiry (lane : LaneId)
  /-- R122 -/
  | restoreTimerExpiry (lane : LaneId)
  /-- R143 -/
  | cycleWatchdogExpiry
  /-- R152: the STOPSENSE input takes a level; high (the chain closed) is true. -/
  | stopsenseChange (high : Bool)
  /-- R152 -/
  | filterTimerExpiry
  /-- R163: the supply is stable; the straps ADDR5 to ADDR0 are read. -/
  | powerOnReset (straps : Station)
  /-- R163 -/
  | nresetAssert
  /-- R163: NRESET is released; the straps ADDR5 to ADDR0 are read. -/
  | pinReset (straps : Station)
  /-- R160 -/
  | statusRead (w : Wire)
  /-- R151 -/
  | run (w : Wire)
  /-- R151 -/
  | halt (w : Wire)
  /-- R164 -/
  | reset (w : Wire)
  /-- R161 -/
  | roleSet (w : Wire)
  /-- R162 -/
  | timingSet (w : Wire)
  /-- R155 -/
  | alertMask (w : Wire)
  /-- R157 -/
  | lock (w : Wire)
  /-- R129 -/
  | laneConfig (w : Wire)
  /-- R130 -/
  | governorSet (w : Wire)
  /-- R108 -/
  | lifeSet (w : Wire)
  /-- R111 -/
  | wearPreset (w : Wire)
  /-- R110 -/
  | bitChange (w : Wire)
  /-- R127 -/
  | laneClear (w : Wire)
  /-- R131 -/
  | laneRead (w : Wire)
  /-- R4 -/
  | recipeOpen (w : Wire)
  /-- R6 -/
  | recipeBoards (w : Wire)
  /-- R8 -/
  | recipeTabs (w : Wire)
  /-- R9 -/
  | recipeFinish (w : Wire)
  /-- R11 -/
  | recipeDrop (w : Wire)
  /-- R14 -/
  | recipeRead (w : Wire)
  /-- R22 -/
  | nestLoad (w : Wire)
  /-- R25 -/
  | nestUnload (w : Wire)
  /-- R32 -/
  | nestClear (w : Wire)
  /-- R33 -/
  | nestRead (w : Wire)
  /-- R34 -/
  | boardRead (w : Wire)
  /-- R34 -/
  | tabRead (w : Wire)
  /-- R74 -/
  | pickerClear (w : Wire)
  /-- R79 -/
  | bayConfig (w : Wire)
  /-- R84 -/
  | bayPreset (w : Wire)
  /-- R98 -/
  | bayRead (w : Wire)
  /-- R170: an item of kind 5Fh to 7Fh. -/
  | undefinedRequest (kind : Byte) (w : Wire)
  /-- R163: supply is applied and the power-on reset begins. -/
  | supplyApplied
  deriving DecidableEq, Repr

end Sys2Proof
end

