-- ==== Sys2Proof/Config.lean ====
section
/-! DEFINITION. What the part fixes (sizes and bounds the spec gives as numbers) and the free values the spec leaves open. -/

namespace Sys2Proof.Config

/-- R133: a frame holds at most 24 items. -/
def maxItems : Nat := 24

/-- R145: the answer queue holds 16 answers. -/
def answerCap : Nat := 16

/-- R145: the notice queue holds 32 notices. -/
def noticeCap : Nat := 32

/-- R2: the board template pool. -/
def boardPool : Nat := 256

/-- R2: the tab template pool. -/
def tabPool : Nat := 1024

/-- R100: a wear accumulator saturates here. -/
def wearMax : Nat := 16777215

/-- FREE VALUE (log 3). The span k an UNFITTABLE notice carries when the bays of the board's variant give no one value
(R89 names k, which depends on a bay's pitch, R85): nothing is known of it. -/
opaque unfittableSpan : Nat → Byte

end Sys2Proof.Config
end

