-- ==== Sys2Proof/Machine/State.lean ====
section
/-! DEFINITION. The state of the DG740 as plain data, the reasons a step can stop, and the machine after power-on reset. -/

namespace Sys2Proof.Machine

/-! ### Stations, results and notices -/

/-- The eight roles (R138). -/
inductive Role where
  | lane (i : LaneId)
  | picker (p : PickerId)
  | elevator
  | table
  deriving DecidableEq, Repr

/-- The refusal codes, in the order R166 numbers them from 1. -/
inductive RefusalCode where
  | halted | laneInactive | laneFault | laneWithheld | laneBusy | spinBlocked | noNest | nestNotAtWork | nestFault
  | noTab | tabNotIntact | boardState | holdRequired | badAddress | wrongRole | shuttleBlocked | pickerBusy
  | pickerFault | pickerEmpty | noBoard | notPlaced | noDestination | notFreed | noSlot
  deriving DecidableEq, Repr

/-- The result codes, in the order R169 numbers them from 0 (R159). -/
inductive Result where
  | done | clamped | badArgument | locked | inUse | state | noSpace | inconsistent | stillFaulted
  deriving DecidableEq, Repr

/-- One value for each of the two nests. -/
structure PerNest (α : Type) where
  a : α
  b : α
  deriving DecidableEq, Repr

/-! ### The recipe store (R1) -/

inductive RecipeState where
  | empty | building | ready
  deriving DecidableEq, Repr

/-- R5, as stored. The position in the slot's list is the board index. -/
structure BoardTemplate where
  variant : Nat
  height : Nat
  hold : Nat
  deriving DecidableEq, Repr

/-- R7, as stored; an absent cap is the fed-in 0. The position in the slot's list is the tab number. -/
structure TabTemplate where
  board : Nat
  cap : Option Nat
  deriving DecidableEq, Repr

/-- R1. The board count and the tab count are the lengths of the two lists (log 22); both lists are empty while EMPTY. -/
structure RecipeSlot where
  state : RecipeState
  boards : List (Option BoardTemplate)
  tabs : List (Option TabTemplate)
  suspectOption : Bool
  useCount : Nat
  tabLists : List (List Nat)
  deriving DecidableEq, Repr

/-! ### The nest records (R17 to R19) -/

inductive NestState where
  | empty | loaded | cleared
  deriving DecidableEq, Repr

inductive BoardState where
  | attached | held | freed | inTransit | placing | stacked | rejected | lost
  deriving DecidableEq, Repr

inductive TabState where
  | intact | cutting | cut | faulted
  deriving DecidableEq, Repr

/-- A board's destination: the run written into the PLACE item (R88). -/
structure Destination where
  bay : BayId
  first : Nat
  span : Nat
  deriving DecidableEq, Repr

/-- R18 -/
structure BoardRec where
  state : BoardState
  uncut : Nat
  hold : Nat
  variant : Nat
  height : Nat
  tabs : List Nat
  bad : Bool
  suspect : Bool
  picker : Option PickerId
  dest : Option Destination
  freedAt : Option Half
  placedAt : Option Half
  deriving DecidableEq, Repr

/-- R19 -/
structure TabRec where
  board : Nat
  state : TabState
  lane : Option LaneId
  cutAt : Option Half
  faults : Nat
  deriving DecidableEq, Repr

/-- R17, but for the two settings, which stand in `Timing`. Board count and tab count are the lengths of the lists; the
slot and the serial are 0 while the nest is EMPTY, as NEST-READ reads them (R33). -/
structure NestRec where
  state : NestState
  vacuumFlag : Bool
  slot : SlotId
  serial : Half
  boards : List BoardRec
  tabs : List TabRec
  lastVacuum : Option Nat
  lowRun : Option Nat
  deriving DecidableEq, Repr

/-- The work position of the table (2.6). -/
inductive WorkPos where
  | a | b | moving | unknown
  deriving DecidableEq, Repr

/-! ### Lanes (R36, R100, R115, R119, R141) -/

inductive LaneState where
  | inactive | ready | cutting | error | recovering | parked
  deriving DecidableEq, Repr

inductive Spindle where
  | stopped | runningUp | atSpeed | spinningDown
  deriving DecidableEq, Repr

/-- The error causes, in the order R115 lists them. -/
inductive Cause where
  | overload | driveFault | cutTimeout | bitBroken | spindown
  deriving DecidableEq, Repr

/-- A lane's cause set (R115). -/
structure Causes where
  overload : Bool
  driveFault : Bool
  cutTimeout : Bool
  bitBroken : Bool
  spindown : Bool
  deriving DecidableEq, Repr

inductive RecoveryMode where
  | latch | auto
  deriving DecidableEq, Repr

/-- The cut gate's lane binding (R36). -/
structure Binding where
  nest : Nest
  tab : Nat
  feed : Nat
  path : Half
  cycle : Half
  govAbort : Bool
  deriving DecidableEq, Repr

inductive GovMode where
  | yield | trip
  deriving DecidableEq, Repr

inductive GovState where
  | normal | stepped | fallback
  deriving DecidableEq, Repr

/-- R119. A timer field holds the time its timer runs out, or none while it is stopped. -/
structure Governor where
  mode : GovMode
  level : Nat
  mask : Nat
  coolDown : Nat
  restore : Nat
  state : GovState
  override : Nat
  overRun : Option Nat
  coolTimer : Option Nat
  restoreTimer : Option Nat
  deriving DecidableEq, Repr

inductive Behaviour where
  | note | stopNew | park | ignore
  deriving DecidableEq, Repr

/-- The life record (R100). Withheld, park hold and the alert contribution are derived (R104), in Flags.lean. -/
structure Life where
  bitId : Half
  wear : Nat
  warn : Nat
  limit : Nat
  behaviour : Behaviour
  warned : Bool
  reached : Bool
  deriving DecidableEq, Repr

/-- What the insertion unit holds for a lane (R141). -/
structure Pend where
  abort : Bool
  stop : Bool
  feed : Option Nat
  deriving DecidableEq, Repr

/-- R115, with the lane's binding, cut timer, governor, life record and pending items beside it. -/
structure Lane where
  state : LaneState
  spindle : Spindle
  commanded : Option Nat
  lastSpeed : Option Nat
  lastLoad : Option Nat
  lastFault : Option Bool
  causes : Causes
  bitChangeDue : Bool
  recoveryMode : RecoveryMode
  autoWait : Nat
  recoveryTimer : Option Nat
  spinDownTimeout : Nat
  spinDownTimer : Option Nat
  cutTimeout : Nat
  cutTimer : Option Nat
  binding : Option Binding
  gov : Governor
  life : Life
  pend : Pend
  deriving DecidableEq, Repr

/-! ### Pickers (R60) -/

inductive PickerState where
  | empty | closing | holding | opening | jammed
  deriving DecidableEq, Repr

inductive Jaws where
  | opened | closed
  deriving DecidableEq, Repr

/-- A board of a nest. -/
structure BoardRef where
  nest : Nest
  board : Nat
  deriving DecidableEq, Repr

structure Picker where
  state : PickerState
  board : Option BoardRef
  sentFor : Option BoardRef
  jawTimer : Option Nat
  lastJaws : Option Jaws
  lastSensed : Option Bool
  deriving DecidableEq, Repr

/-! ### Magazine bays (R77, R78, R90) -/

inductive FillDir where
  | up | down
  deriving DecidableEq, Repr

/-- A bay's kind with the configuration that kind has (R77). -/
inductive BayKind where
  | none
  | normal (variant slots pitch : Nat) (dir : FillDir)
  | reject (capacity : Nat)
  deriving DecidableEq, Repr

inductive BayState where
  | inactive | absent | ready | full | uncertain
  deriving DecidableEq, Repr

inductive Presence where
  | present | notPresent | unknown
  deriving DecidableEq, Repr

/-- The board an OCCUPIED slot refers to (R78). -/
structure SlotRef where
  nest : Nest
  board : Nat
  serial : Half
  deriving DecidableEq, Repr

/-- R78 -/
inductive SlotState where
  | empty
  | reserved (ref : BoardRef)
  | occupied (ref : Option SlotRef)
  | skipped
  deriving DecidableEq, Repr

/-- R78: the entries by physical slot index, and the fill cursor as a fill position. -/
structure SlotTable where
  slots : List SlotState
  cursor : Nat
  deriving DecidableEq, Repr

structure Bay where
  kind : BayKind
  state : BayState
  presence : Presence
  table : Option SlotTable
  reserved : Nat
  placed : Nat
  deriving DecidableEq, Repr

/-- A placement record (R90); `sensed` is the sensed early field; the place timer runs while the record stands. -/
structure Placement where
  ref : BoardRef
  dest : Destination
  cycle : Half
  sensed : Option Half
  deadline : Nat
  deriving DecidableEq, Repr

/-! ### The line supervisor (R150, R152, R156, R157) -/

inductive LineState where
  | idle | running | held
  deriving DecidableEq, Repr

/-- The filtered level of STOPSENSE (R152). -/
inductive Filtered where
  | opened | closed | unknown
  deriving DecidableEq, Repr

/-- The four sources of the hold-cause set (R150). -/
structure HoldSet where
  stopsense : Bool
  uplinkPort : Bool
  uplinkWatchdog : Bool
  downlink : Bool
  deriving DecidableEq, Repr

/-- A running filter timer: the level it runs for (true is high, CLOSED) and the time it runs out. -/
structure FilterTimer where
  high : Bool
  ends : Nat
  deriving DecidableEq, Repr

/-- `watchdogHold` is the watchdog part of UPLINK; the other three sources are states of the ports and of the filter
(Flags.lean). The mask has one bit per alert condition, in the order of R167. -/
structure Line where
  state : LineState
  watchdogHold : Bool
  watchdog : Option Nat
  filtered : Filtered
  filterTimer : Option FilterTimer
  mask : Byte
  recipeLock : Bool
  limitLock : Bool
  ownAddr : Station
  deriving DecidableEq, Repr

/-- The eight settings of R162. -/
structure Timing where
  watchdog : Nat
  stopFilter : Nat
  jaw : Nat
  place : Nat
  vacMask : PerNest Nat
  vacLimit : PerNest Nat
  deriving DecidableEq, Repr

/-! ### The return path (R145, R169) -/

inductive GripReason where
  | notSensed | boardLost | timeout
  deriving DecidableEq, Repr

inductive PlaceReason where
  | notSensed | timeout | removed | stray
  deriving DecidableEq, Repr

inductive LimitCause where
  | report | limitWrite | preset | behaviour
  deriving DecidableEq, Repr

/-- The notices of R169. `bayFull` and `noRoom` are the two forms of code 0Ch. -/
inductive Notice where
  | refused (kind : Byte) (code : RefusalCode) (tag : Half)
  | lateReport (lane : LaneId) (nest tab outcome : Byte) (cycle : Half)
  | boardDropped (ref : BoardRef) (tab : Nat) (lane : LaneId) (cycle : Half)
  | nestCleared (nest : Nest) (serial : Half) (stacked rejected lost : Nat)
  | nestFault (nest : Nest) (vacuum limit : Nat)
  | tableMoved (nest : Nest) (position : WorkPos) (cycle : Half)
  | gripFailed (picker : PickerId) (ref : BoardRef) (reason : GripReason) (cycle : Option Half)
  | gripLost (picker : PickerId) (ref : BoardRef) (state : BoardState) (cycle : Half)
  | gripUntracked (picker : PickerId) (cycle : Half)
  | pickerJammed (picker : PickerId) (jaws : Option Jaws) (sensed : Option Bool)
  | placeFailed (ref : BoardRef) (bay : BayId) (first : Nat) (reason : PlaceReason) (state : BoardState)
  | bayFull (bay : BayId) (limit filled : Nat)
  | noRoom (ref : BoardRef) (bay : Option BayId)
  | unfittable (ref : BoardRef) (variant : Nat) (span : Byte)
  | strayPlace (bay first : Byte) (sensed : Bool) (cycle : Half)
  | wearWarn (lane : LaneId) (bitId : Half) (wear warn : Nat)
  | wearLimit (lane : LaneId) (bitId : Half) (wear limit : Nat) (behaviour : Behaviour) (cause : LimitCause)
  | laneError (lane : LaneId) (cause : Cause) (causes : Causes)
  | laneRestored (lane : LaneId) (state : LaneState)
  | degraded (port : Port) (count : Nat)
  | portRecovered (port : Port) (count : Nat)
  | portDown (port : Port)
  | overflow (lost : Nat)
  | lineChange (state : LineState) (holds : HoldSet)
  | badReport (station : Station) (kind : Byte) (tag : Half)
  deriving DecidableEq, Repr

/-- A notice in the queue, with the tag it goes up under (R146). -/
structure Posted where
  tag : Half
  notice : Notice
  deriving DecidableEq, Repr

/-- An answer in the queue (R169): its fields are already laid out as bytes. -/
structure Answer where
  tag : Half
  kind : Byte
  result : Result
  fields : List Byte
  deriving DecidableEq, Repr

structure ReturnPath where
  answers : List Answer
  notices : List Posted
  overflow : Bool
  lost : Nat
  answerLost : Bool
  deriving DecidableEq, Repr

/-! ### Ports and frames in passage (R134, R135) -/

inductive PortState where
  | up | down
  deriving DecidableEq, Repr

structure PortRec where
  state : PortState
  errors : Nat
  degraded : Bool
  run : Nat
  deriving DecidableEq, Repr

/-- A good ORDER or HALT frame on the down path: the items not yet walked and the items as they will leave. -/
structure DownFrame where
  isHalt : Bool
  cycle : Half
  todo : List Item
  out : List Item
  deriving DecidableEq, Repr

/-- A good RETURN frame on the up path: its items, which travel on as written, and the reports not yet taken. -/
structure UpFrame where
  cycle : Half
  items : List Item
  todo : List Item
  deriving DecidableEq, Repr

/-- The input pins, and whether the supply is stable and NRESET asserted (R152, R156, R163). -/
structure Pins where
  straps : Station
  stopSense : Bool
  supplyStable : Bool
  nreset : Bool
  deriving DecidableEq, Repr

/-- The machine. `pending` is the queue of commands; `now` the clock in ms (log 1); `free` the counter the free values
are applied to (log 3); `sentD` and `sentU` the frames that have left the two ports, oldest first (log 5). -/
structure State where
  pending : List Instr
  now : Nat
  free : Nat
  pins : Pins
  portU : PortRec
  portD : PortRec
  down : List DownFrame
  up : List UpFrame
  sentD : List (List Byte)
  sentU : List (List Byte)
  lastOrder : Half
  roles : Vector (Option Station) 8
  recipes : Vector RecipeSlot 8
  nests : PerNest NestRec
  table : WorkPos
  lanes : Vector Lane 4
  pickers : Vector Picker 2
  bays : Vector Bay 8
  placements : List Placement
  ret : ReturnPath
  line : Line
  timing : Timing
  deriving DecidableEq, Repr

/-- No command of this block faults: the spec gives every command an effect in every state. -/
inductive Fault where
  deriving DecidableEq, Repr

/-- The one refusal a step can answer with. -/
inductive Refusal where
  /-- Raised by `exec` for a row that has no meaning yet; safe, as the machine stops. No row is left so. -/
  | notModelled (mnemonic : String)
  deriving DecidableEq, Repr

/-! ### Power-on values -/

/-- R16 -/
def RecipeSlot.cleared : RecipeSlot :=
  { state := .empty, boards := [], tabs := [], suspectOption := false, useCount := 0, tabLists := [] }

/-- R35; the last vacuum is absent after any reset. -/
def NestRec.cleared : NestRec :=
  { state := .empty, vacuumFlag := false, slot := 0, serial := 0, boards := [], tabs := [], lastVacuum := none, lowRun := none }

def Causes.none : Causes :=
  { overload := false, driveFault := false, cutTimeout := false, bitBroken := false, spindown := false }

/-- R132 -/
def Governor.initial : Governor :=
  { mode := .yield, level := 4, mask := 50, coolDown := 1000, restore := 5000, state := .normal, override := 100,
    overRun := none, coolTimer := none, restoreTimer := none }

/-- R114 -/
def Life.initial : Life :=
  { bitId := 0, wear := 0, warn := Config.wearMax, limit := Config.wearMax, behaviour := .stopNew, warned := false, reached := false }

def Pend.none : Pend := { abort := false, stop := false, feed := Option.none }

/-- R132, R59, R149 -/
def Lane.initial : Lane :=
  { state := .inactive, spindle := .stopped, commanded := none, lastSpeed := none, lastLoad := none, lastFault := none,
    causes := Causes.none, bitChangeDue := false, recoveryMode := .latch, autoWait := 2000, recoveryTimer := none,
    spinDownTimeout := 4000, spinDownTimer := none, cutTimeout := 10000, cutTimer := none, binding := none,
    gov := Governor.initial, life := Life.initial, pend := Pend.none }

/-- R76 -/
def Picker.cleared : Picker :=
  { state := .empty, board := none, sentFor := none, jawTimer := none, lastJaws := none, lastSensed := none }

/-- R99 -/
def Bay.initial : Bay :=
  { kind := .none, state := .inactive, presence := .unknown, table := none, reserved := 0, placed := 0 }

/-- R149 -/
def ReturnPath.cleared : ReturnPath :=
  { answers := [], notices := [], overflow := false, lost := 0, answerLost := false }

/-- R149 -/
def PortRec.initial : PortRec := { state := .up, errors := 0, degraded := false, run := 0 }

/-- R162 -/
def Timing.initial : Timing :=
  { watchdog := 20, stopFilter := 5, jaw := 1500, place := 5000, vacMask := ⟨200, 200⟩, vacLimit := ⟨40, 40⟩ }

/-- The machine right after power-on reset (R16, R35, R59, R76, R99, R114, R132, R138, R149, R165). The pins' levels are the
model's (log 4): the straps read 0, so the own address is 62 (R156), and STOPSENSE is low, so the filter runs for OPEN. -/
def State.reset : State :=
  { pending := [], now := 0, free := 0,
    pins := { straps := 0, stopSense := false, supplyStable := true, nreset := false },
    portU := PortRec.initial, portD := PortRec.initial, down := [], up := [], sentD := [], sentU := [], lastOrder := 0,
    roles := Vector.replicate 8 none,
    recipes := Vector.replicate 8 RecipeSlot.cleared,
    nests := ⟨NestRec.cleared, NestRec.cleared⟩,
    table := .unknown,
    lanes := Vector.replicate 4 Lane.initial,
    pickers := Vector.replicate 2 Picker.cleared,
    bays := Vector.replicate 8 Bay.initial,
    placements := [], ret := ReturnPath.cleared,
    line := { state := .idle, watchdogHold := false, watchdog := none, filtered := .unknown,
              filterTimer := some { high := false, ends := 5 }, mask := 0xFF, recipeLock := false, limitLock := false, ownAddr := 62 },
    timing := Timing.initial }

end Sys2Proof.Machine
end

