-- ==== Sys2Proof/Machine/Layout.lean ====
section
/-! DEFINITION. Byte layouts (chapter 10): frames, items and the check word; the codes of named values; notices and answers as items. -/

namespace Sys2Proof.Machine

/-! ### Bytes of numbers -/

/-- The `k` low bytes of a number, least significant first (R166, R167). -/
def leBytes : Nat → Nat → List Byte
  | 0, _ => []
  | k + 1, v => BitVec.ofNat 8 v :: leBytes k (v / 256)

/-- The number whose bytes, least significant first, are given. -/
def ofLeBytes : List Byte → Nat
  | [] => 0
  | b :: bs => b.toNat + 256 * ofLeBytes bs

/-- R167: yes and set are 1, no and clear are 0. -/
def boolByte (b : Bool) : Byte := if b then 1 else 0

/-- R167: a field that may be absent is preceded by a presence byte, and holds 0 when absent. -/
def optBytes (k : Nat) : Option Nat → List Byte
  | none => 0 :: leBytes k 0
  | some v => 1 :: leBytes k v

/-- R167: a set carries bit n for the nth value of its list. -/
def setByte (l : List Bool) : Byte :=
  BitVec.ofNat 8 (l.foldr (fun b acc => (if b then 1 else 0) + 2 * acc) 0)

/-! ### Item kinds (R166, R168) -/

namespace Kind

def cut : Byte := 0x10
def spin : Byte := 0x11
def feed : Byte := 0x12
def grip : Byte := 0x13
def openJaws : Byte := 0x14
def lift : Byte := 0x15
def place : Byte := 0x16
def shuttle : Byte := 0x17
def abort : Byte := 0x18
def void : Byte := 0x1F
def cutDone : Byte := 0x20
def laneState : Byte := 0x21
def gripState : Byte := 0x22
def tableState : Byte := 0x23
def bayState : Byte := 0x24
def placeDone : Byte := 0x25
def answer : Byte := 0x2E
def notice : Byte := 0x2F
def statusRead : Byte := 0x40
def run : Byte := 0x41
def halt : Byte := 0x42
def reset : Byte := 0x43
def roleSet : Byte := 0x44
def timingSet : Byte := 0x45
def alertMask : Byte := 0x46
def lock : Byte := 0x47
def laneConfig : Byte := 0x48
def governorSet : Byte := 0x49
def lifeSet : Byte := 0x4A
def wearPreset : Byte := 0x4B
def bitChange : Byte := 0x4C
def laneClear : Byte := 0x4D
def laneRead : Byte := 0x4E
def recipeOpen : Byte := 0x4F
def recipeBoards : Byte := 0x50
def recipeTabs : Byte := 0x51
def recipeFinish : Byte := 0x52
def recipeDrop : Byte := 0x53
def recipeRead : Byte := 0x54
def nestLoad : Byte := 0x55
def nestUnload : Byte := 0x56
def nestClear : Byte := 0x57
def nestRead : Byte := 0x58
def boardRead : Byte := 0x59
def tabRead : Byte := 0x5A
def pickerClear : Byte := 0x5B
def bayConfig : Byte := 0x5C
def bayPreset : Byte := 0x5D
def bayRead : Byte := 0x5E

/-- R137: the gated kinds, CUT to SHUTTLE. -/
def isGated (k : Byte) : Bool := decide (0x10 ≤ k.toNat) && decide (k.toNat ≤ 0x17)

/-- R140: the report kinds. -/
def isReport (k : Byte) : Bool := decide (0x20 ≤ k.toNat) && decide (k.toNat ≤ 0x25)

/-- R170: a kind taken as a request with no defined name. -/
def isUndefinedRequest (k : Byte) : Bool := decide (0x5F ≤ k.toNat) && decide (k.toNat ≤ 0x7F)

/-- R170: a kind that is a request at the own address, defined or not. -/
def isRequest (k : Byte) : Bool := decide (0x40 ≤ k.toNat) && decide (k.toNat ≤ 0x7F)

end Kind

/-! ### Items -/

/-- The item of a kind that carries these bytes. -/
def itemOf (kind : Byte) (w : Wire) : Item := { addr := w.addr, kind := kind, tag := w.tag, payload := w.payload }

/-- Item byte `n`, for n from 4 to 15. -/
def payloadByte (p : Payload) (n : Nat) : Byte := p.extractLsb' (8 * (n - 4)) 8

/-- The two-byte field at item bytes `n` and `n + 1`. -/
def payloadHalf (p : Payload) (n : Nat) : Half := p.extractLsb' (8 * (n - 4)) 16

/-- A payload whose first bytes are the given ones and whose others are 0. -/
def payloadOf (bs : List Byte) : Payload := BitVec.ofNat 96 (ofLeBytes bs)

/-- R166, R170: bits 0 to 5 of the address byte. -/
def stationOf (addr : Byte) : Station := addr.setWidth 6

/-- The address byte of an item the DG740 builds: bits 6 and 7 are 0. -/
def addrByte (a : Station) : Byte := a.setWidth 8

/-- R166: the sixteen bytes of an item. -/
def itemBytes (it : Item) : List Byte :=
  [it.addr, it.kind] ++ leBytes 2 it.tag.toNat ++ leBytes 12 it.payload.toNat

/-- The item sixteen bytes carry. -/
def itemOfBytes (bs : List Byte) : Item :=
  { addr := bs.getD 0 0, kind := bs.getD 1 0, tag := BitVec.ofNat 16 (ofLeBytes ((bs.drop 2).take 2)),
    payload := payloadOf ((bs.drop 4).take 12) }

/-! ### The check word (R133, R166) -/

/-- One bit enters the register. -/
def crcBit (r : BitVec 32) (b : Bool) : BitVec 32 :=
  if r.msb != b then (r <<< 1) ^^^ 0x04C11DB7#32 else r <<< 1

/-- One byte enters the register, most significant bit first. -/
def crcByte (r : BitVec 32) (b : Byte) : BitVec 32 :=
  [7, 6, 5, 4, 3, 2, 1, 0].foldl (fun r i => crcBit r (b.getLsbD i)) r

/-- The check word over the given bytes. -/
def crc32 (bs : List Byte) : BitVec 32 := ~~~(bs.foldl crcByte 0xFFFFFFFF#32)

/-- The check word's bytes, most significant first. -/
def checkBytes (c : BitVec 32) : List Byte := (leBytes 4 c.toNat).reverse

/-! ### Frames -/

namespace FrameKind

def order : Byte := 0x01
def ret : Byte := 0x02
def halt : Byte := 0x03

end FrameKind

/-- A frame as its header and items give it. -/
structure LinkFrame where
  kind : Byte
  cycle : Half
  items : List Item
  deriving DecidableEq, Repr

/-- Header and items, in the order they are sent (R166). -/
def frameBody (f : LinkFrame) : List Byte :=
  [f.kind, BitVec.ofNat 8 f.items.length] ++ leBytes 2 f.cycle.toNat ++ f.items.flatMap itemBytes

/-- A frame as it leaves a port: its item count brought up to date and its check word worked out afresh (R133). -/
def frameBytes (f : LinkFrame) : List Byte := frameBody f ++ checkBytes (crc32 (frameBody f))

/-- The first `n` items of a run of bytes. -/
def parseItems : Nat → List Byte → List Item
  | 0, _ => []
  | n + 1, bs => itemOfBytes (bs.take 16) :: parseItems n (bs.drop 16)

/-- R133, step 1: the frame some bytes carry, or none when they fail the check. -/
def parseFrame (bs : List Byte) : Option LinkFrame :=
  let n := (bs.getD 1 0).toNat
  let body := bs.take (4 + 16 * n)
  if n ≤ Config.maxItems ∧ bs.length = 8 + 16 * n ∧ checkBytes (crc32 body) = bs.drop (4 + 16 * n) then
    some { kind := bs.getD 0 0, cycle := BitVec.ofNat 16 (ofLeBytes ((bs.drop 2).take 2)), items := parseItems n (bs.drop 4) }
  else none

/-! ### Codes of named values (R166, R167, R169) -/

def RefusalCode.code : RefusalCode → Byte
  | .halted => 1 | .laneInactive => 2 | .laneFault => 3 | .laneWithheld => 4 | .laneBusy => 5 | .spinBlocked => 6
  | .noNest => 7 | .nestNotAtWork => 8 | .nestFault => 9 | .noTab => 10 | .tabNotIntact => 11 | .boardState => 12
  | .holdRequired => 13 | .badAddress => 14 | .wrongRole => 15 | .shuttleBlocked => 16 | .pickerBusy => 17
  | .pickerFault => 18 | .pickerEmpty => 19 | .noBoard => 20 | .notPlaced => 21 | .noDestination => 22
  | .notFreed => 23 | .noSlot => 24

def Result.code : Result → Byte
  | .done => 0 | .clamped => 1 | .badArgument => 2 | .locked => 3 | .inUse => 4 | .state => 5 | .noSpace => 6
  | .inconsistent => 7 | .stillFaulted => 8

def nestCode : Nest → Byte
  | .a => 0 | .b => 1

def portCode : Port → Byte
  | .u => 0 | .d => 1

def RecipeState.code : RecipeState → Byte
  | .empty => 0 | .building => 1 | .ready => 2

def NestState.code : NestState → Byte
  | .empty => 0 | .loaded => 1 | .cleared => 2

def BoardState.code : BoardState → Byte
  | .attached => 0 | .held => 1 | .freed => 2 | .inTransit => 3 | .placing => 4 | .stacked => 5 | .rejected => 6 | .lost => 7

def TabState.code : TabState → Byte
  | .intact => 0 | .cutting => 1 | .cut => 2 | .faulted => 3

def WorkPos.code : WorkPos → Byte
  | .a => 0 | .b => 1 | .moving => 2 | .unknown => 3

def LaneState.code : LaneState → Byte
  | .inactive => 0 | .ready => 1 | .cutting => 2 | .error => 3 | .recovering => 4 | .parked => 5

def Spindle.code : Spindle → Byte
  | .stopped => 0 | .runningUp => 1 | .atSpeed => 2 | .spinningDown => 3

def Cause.code : Cause → Byte
  | .overload => 0 | .driveFault => 1 | .cutTimeout => 2 | .bitBroken => 3 | .spindown => 4

def Causes.byte (c : Causes) : Byte := setByte [c.overload, c.driveFault, c.cutTimeout, c.bitBroken, c.spindown]

def RecoveryMode.code : RecoveryMode → Byte
  | .latch => 0 | .auto => 1

def GovMode.code : GovMode → Byte
  | .yield => 0 | .trip => 1

def GovState.code : GovState → Byte
  | .normal => 0 | .stepped => 1 | .fallback => 2

def Behaviour.code : Behaviour → Byte
  | .note => 0 | .stopNew => 1 | .park => 2 | .ignore => 3

def PickerState.code : PickerState → Byte
  | .empty => 0 | .closing => 1 | .holding => 2 | .opening => 3 | .jammed => 4

def Jaws.num : Jaws → Nat
  | .opened => 0 | .closed => 1

def BayKind.code : BayKind → Byte
  | .none => 0 | .normal .. => 1 | .reject _ => 2

def FillDir.code : FillDir → Byte
  | .up => 0 | .down => 1

def BayState.code : BayState → Byte
  | .inactive => 0 | .absent => 1 | .ready => 2 | .full => 3 | .uncertain => 4

/-- Log 15: presence is a named value whose third name is unknown. -/
def Presence.code : Presence → Byte
  | .present => 0 | .notPresent => 1 | .unknown => 2

def SlotState.code : SlotState → Byte
  | .empty => 0 | .reserved _ => 1 | .occupied _ => 2 | .skipped => 3

def LineState.code : LineState → Byte
  | .idle => 0 | .running => 1 | .held => 2

def Filtered.code : Filtered → Byte
  | .opened => 0 | .closed => 1 | .unknown => 2

def PortState.code : PortState → Byte
  | .up => 0 | .down => 1

def HoldSet.byte (h : HoldSet) : Byte := setByte [h.stopsense, h.uplinkPort, h.uplinkWatchdog, h.downlink]

def GripReason.code : GripReason → Byte
  | .notSensed => 0 | .boardLost => 1 | .timeout => 2

def PlaceReason.code : PlaceReason → Byte
  | .notSensed => 0 | .timeout => 1 | .removed => 2 | .stray => 3

def LimitCause.code : LimitCause → Byte
  | .report => 0 | .limitWrite => 1 | .preset => 2 | .behaviour => 3

/-! ### Notices (R169) -/

def boolNat (b : Bool) : Nat := if b then 1 else 0

def laneByte (i : LaneId) : Byte := BitVec.ofNat 8 i.val

def pickerByte (p : PickerId) : Byte := BitVec.ofNat 8 p.val

def bayByte (b : BayId) : Byte := BitVec.ofNat 8 b.val

def halfBytes (h : Half) : List Byte := leBytes 2 h.toNat

def optHalfBytes (h : Option Half) : List Byte := optBytes 2 (h.map BitVec.toNat)

/-- A board by its nest and its index. -/
def refBytes (r : BoardRef) : List Byte := nestCode r.nest :: leBytes 1 r.board

/-- The notice's code and its fields, in the order of R169's table. -/
def Notice.bytes : Notice → List Byte
  | .refused kind code tag => [0x01, kind, code.code] ++ halfBytes tag
  | .lateReport lane nest tab outcome cycle => [0x02, laneByte lane, nest, tab, outcome] ++ halfBytes cycle
  | .boardDropped ref tab lane cycle => [0x03] ++ refBytes ref ++ leBytes 1 tab ++ [laneByte lane] ++ halfBytes cycle
  | .nestCleared nest serial stacked rejected lost =>
      [0x04, nestCode nest] ++ halfBytes serial ++ leBytes 1 stacked ++ leBytes 1 rejected ++ leBytes 1 lost
  | .nestFault nest vacuum limit => [0x05, nestCode nest] ++ leBytes 1 vacuum ++ leBytes 1 limit
  | .tableMoved nest position cycle => [0x06, nestCode nest, position.code] ++ halfBytes cycle
  | .gripFailed picker ref reason cycle => [0x07, pickerByte picker] ++ refBytes ref ++ [reason.code] ++ optHalfBytes cycle
  | .gripLost picker ref state cycle => [0x08, pickerByte picker] ++ refBytes ref ++ [state.code] ++ halfBytes cycle
  | .gripUntracked picker cycle => [0x09, pickerByte picker] ++ halfBytes cycle
  | .pickerJammed picker jaws sensed =>
      [0x0A, pickerByte picker] ++ optBytes 1 (jaws.map Jaws.num) ++ optBytes 1 (sensed.map boolNat)
  | .placeFailed ref bay first reason state =>
      [0x0B] ++ refBytes ref ++ [bayByte bay] ++ leBytes 1 first ++ [reason.code, state.code]
  | .bayFull bay limit filled => [0x0C, 0, bayByte bay] ++ leBytes 2 limit ++ leBytes 2 filled
  | .noRoom ref bay => [0x0C, 1] ++ refBytes ref ++ [match bay with | some b => bayByte b | none => 0xFF]
  | .unfittable ref variant span => [0x0D] ++ refBytes ref ++ leBytes 1 variant ++ [span]
  | .strayPlace bay first sensed cycle => [0x0E, bay, first, boolByte sensed] ++ halfBytes cycle
  | .wearWarn lane bitId wear warn => [0x0F, laneByte lane] ++ halfBytes bitId ++ leBytes 3 wear ++ leBytes 3 warn
  | .wearLimit lane bitId wear limit behaviour cause =>
      [0x10, laneByte lane] ++ halfBytes bitId ++ leBytes 3 wear ++ leBytes 3 limit ++ [behaviour.code, cause.code]
  | .laneError lane cause causes => [0x11, laneByte lane, cause.code, causes.byte]
  | .laneRestored lane state => [0x12, laneByte lane, state.code]
  | .degraded port count => [0x13, portCode port] ++ leBytes 1 count
  | .portRecovered port count => [0x14, portCode port] ++ leBytes 1 count
  | .portDown port => [0x15, portCode port]
  | .overflow lost => [0x16] ++ leBytes 2 lost
  | .lineChange state holds => [0x17, state.code, holds.byte]
  | .badReport station kind tag => [0x18, addrByte station, kind] ++ halfBytes tag

/-- R146, R169: the NOTICE item a queued notice goes up as. -/
def noticeItem (own : Station) (p : Posted) : Item :=
  { addr := addrByte own, kind := Kind.notice, tag := p.tag, payload := payloadOf p.notice.bytes }

/-! ### Answers (R169) -/

/-- The number of parts an answer goes up as: nine field bytes a part, and one part at least. -/
def answerParts (a : Answer) : Nat := max 1 ((a.fields.length + 8) / 9)

/-- Part `k` of an answer. -/
def answerPart (own : Station) (a : Answer) (k : Nat) : Item :=
  { addr := addrByte own, kind := Kind.answer, tag := a.tag,
    payload := payloadOf ([a.kind, a.result.code, BitVec.ofNat 8 (k + 16 * answerParts a)] ++ (a.fields.drop (9 * k)).take 9) }

/-- The parts of an answer, next to each other. -/
def answerItems (own : Station) (a : Answer) : List Item := (List.range (answerParts a)).map (answerPart own a)

end Sys2Proof.Machine
end

