-- ==== Sys2Proof/Machine/Flags.lean ====
section
/-! DEFINITION. What is derived from the records: hold causes, alert conditions and the ALERT output, held actions, effective limits, pool counts. -/

namespace Sys2Proof.Machine

/-- R163: a power-on reset or a pin reset is in progress. -/
def State.inReset (s : State) : Bool := !s.pins.supplyStable || s.pins.nreset

/-- R150: the four sources of the hold-cause set. -/
def State.holdSet (s : State) : HoldSet :=
  { stopsense := decide (s.line.filtered = .opened), uplinkPort := decide (s.portU.state = .down),
    uplinkWatchdog := s.line.watchdogHold, downlink := decide (s.portD.state = .down) }

def HoldSet.isEmpty (h : HoldSet) : Bool := !h.stopsense && !h.uplinkPort && !h.uplinkWatchdog && !h.downlink

/-! ### Lanes -/

def Causes.isEmpty (c : Causes) : Bool :=
  !c.overload && !c.driveFault && !c.cutTimeout && !c.bitBroken && !c.spindown

def Causes.has (c : Causes) : Cause → Bool
  | .overload => c.overload | .driveFault => c.driveFault | .cutTimeout => c.cutTimeout
  | .bitBroken => c.bitBroken | .spindown => c.spindown

def Causes.add (c : Causes) : Cause → Causes
  | .overload => { c with overload := true } | .driveFault => { c with driveFault := true }
  | .cutTimeout => { c with cutTimeout := true } | .bitBroken => { c with bitBroken := true }
  | .spindown => { c with spindown := true }

/-- R125: BIT-BROKEN and SPINDOWN always latch. -/
def Causes.latching (c : Causes) : Bool := c.bitBroken || c.spindown

/-- R104: the lane counts toward the WEAR-LIMIT alert condition. -/
def Life.alerts (l : Life) : Bool := l.reached && (decide (l.behaviour = .note) || decide (l.behaviour = .stopNew))

/-- R104 -/
def Life.withheld (l : Life) : Bool := l.reached && (decide (l.behaviour = .stopNew) || decide (l.behaviour = .park))

/-- R104 -/
def Life.parkHold (l : Life) : Bool := l.reached && decide (l.behaviour = .park)

/-- R112 -/
def Life.remaining (l : Life) : Nat := l.limit - l.wear

/-- R119: the percentage a limit level gives. -/
def levelPercent (level : Nat) : Nat := 60 + 10 * level

/-- R119: in FALLBACK the percentage of the level one below, and 60 at level 0. -/
def Governor.effectiveLimit (g : Governor) : Nat :=
  if g.state = .fallback then levelPercent (g.level - 1) else levelPercent g.level

/-- R119, R126: the load is back down, at or below the effective limit less 10; an absent load is. -/
def Governor.backDown (g : Governor) (load : Option Nat) : Bool := decide (load.getD 0 ≤ g.effectiveLimit - 10)

/-! ### Recipes and nests -/

/-- R2: the free count of the board pool is its size less the reservations of all slots. -/
def State.freeBoards (s : State) : Nat := Config.boardPool - (s.recipes.toList.map fun r => r.boards.length).sum

/-- R2 -/
def State.freeTabs (s : State) : Nat := Config.tabPool - (s.recipes.toList.map fun r => r.tabs.length).sum

/-- R7: the defined tab templates that name a board. -/
def RecipeSlot.derivedTabs (r : RecipeSlot) (board : Nat) : Nat :=
  r.tabs.countP fun t => match t with | some x => x.board = board | none => false

/-- R18: STACKED, REJECTED and LOST are the terminal states. -/
def BoardState.terminal : BoardState → Bool
  | .stacked | .rejected | .lost => true
  | _ => false

/-- R26: the nest a work position names. -/
def WorkPos.nest? : WorkPos → Option Nest
  | .a => some .a
  | .b => some .b
  | _ => none

/-- R104, R106 and the alert conditions of R153, in the order of R167. -/
def State.alertConditions (s : State) : List Bool :=
  [ s.lanes.toList.any fun l => !l.causes.isEmpty,
    s.nests.a.vacuumFlag || s.nests.b.vacuumFlag,
    s.lanes.toList.any fun l => l.life.alerts,
    decide (s.line.state = .held),
    s.bays.toList.any fun b => decide (b.state = .full),
    s.portU.degraded || s.portD.degraded,
    s.ret.overflow,
    s.ret.answerLost ]

def State.alertByte (s : State) : Byte := setByte s.alertConditions

/-- R154: the ALERT output is asserted while a condition whose mask entry is on is set, and released through a reset. -/
def State.alertOut (s : State) : Bool := !s.inReset && decide (s.alertByte &&& s.line.mask ≠ 0)

end Sys2Proof.Machine
end

