-- ==== Sys2Proof/Machine/Operands.lean ====
section
/-! DEFINITION. The operands a payload carries (R166, R168), field by field, and the named values their codes stand for. -/

namespace Sys2Proof.Machine

/-! ### Named values of codes -/

def nestOfByte (b : Byte) : Option Nest :=
  if b = 0 then some .a else if b = 1 then some .b else none

def laneOfByte (b : Byte) : Option LaneId :=
  if h : b.toNat < 4 then some ⟨b.toNat, h⟩ else none

def pickerOfByte (b : Byte) : Option PickerId :=
  if h : b.toNat < 2 then some ⟨b.toNat, h⟩ else none

def bayOfByte (b : Byte) : Option BayId :=
  if h : b.toNat < 8 then some ⟨b.toNat, h⟩ else none

def slotOfNat (n : Nat) : Option SlotId :=
  if h : n < 8 then some ⟨n, h⟩ else none

def boolOfByte (b : Byte) : Option Bool :=
  if b = 0 then some false else if b = 1 then some true else none

def roleOfByte (b : Byte) : Option Role :=
  match b.toNat with
  | 0 => some (.lane 0) | 1 => some (.lane 1) | 2 => some (.lane 2) | 3 => some (.lane 3)
  | 4 => some (.picker 0) | 5 => some (.picker 1) | 6 => some .elevator | 7 => some .table
  | _ => none

def workPosOfByte (b : Byte) : Option WorkPos :=
  if b = 0 then some .a else if b = 1 then some .b else if b = 2 then some .moving else none

def jawsOfByte (b : Byte) : Option Jaws :=
  if b = 0 then some .opened else if b = 1 then some .closed else none

def recoveryOfByte (b : Byte) : Option RecoveryMode :=
  if b = 0 then some .latch else if b = 1 then some .auto else none

def govModeOfByte (b : Byte) : Option GovMode :=
  if b = 0 then some .yield else if b = 1 then some .trip else none

def behaviourOfByte (b : Byte) : Option Behaviour :=
  if b = 0 then some .note else if b = 1 then some .stopNew else if b = 2 then some .park
  else if b = 3 then some .ignore else none

/-- The outcome of a CUT-DONE (R166). -/
inductive CutOutcome where
  | complete | aborted | bitBroken
  deriving DecidableEq, Repr

def outcomeOfByte (b : Byte) : Option CutOutcome :=
  if b = 1 then some .complete else if b = 2 then some .aborted else if b = 3 then some .bitBroken else none

/-! ### Fields of payloads. Numbers are read as naturals, named fields as their bytes. -/

/-- The number at item byte `n`. -/
def byteNat (p : Payload) (n : Nat) : Nat := (payloadByte p n).toNat

/-- The number at item bytes `n` and `n + 1`. -/
def halfNat (p : Payload) (n : Nat) : Nat := (payloadHalf p n).toNat

/-- The three-byte number at item byte `n` (R167: W and L). -/
def wearNat (p : Payload) (n : Nat) : Nat := (p.extractLsb' (8 * (n - 4)) 24).toNat

namespace Operand

-- CUT, GRIP, CUT-DONE: byte 4 the nest, byte 5 the tab or board
def nest (p : Payload) : Byte := payloadByte p 4
def index (p : Payload) : Nat := byteNat p 5
-- CUT
def cutFeed (p : Payload) : Nat := halfNat p 6
def cutPath (p : Payload) : Half := payloadHalf p 8
-- SPIN
def spinSpeed (p : Payload) : Nat := halfNat p 4
-- FEED
def feedPercent (p : Payload) : Nat := byteNat p 4
-- CUT-DONE
def cutOutcome (p : Payload) : Byte := payloadByte p 6
def cutLoad (p : Payload) : Nat := byteNat p 7
def cutLength (p : Payload) : Nat := halfNat p 8
-- LANE-STATE
def reportSpeed (p : Payload) : Nat := halfNat p 4
def reportLoad (p : Payload) : Nat := byteNat p 6
def reportFault (p : Payload) : Option Bool := boolOfByte (payloadByte p 7)
-- GRIP-STATE
def gripJaws (p : Payload) : Option Jaws := jawsOfByte (payloadByte p 4)
def gripSensed (p : Payload) : Option Bool := boolOfByte (payloadByte p 5)
-- TABLE-STATE
def vacuumA (p : Payload) : Nat := byteNat p 4
def vacuumB (p : Payload) : Nat := byteNat p 5
def position (p : Payload) : Option WorkPos := workPosOfByte (payloadByte p 6)
-- BAY-STATE
def present (p : Payload) (b : BayId) : Bool := (payloadByte p 4).getLsbD b.val
-- PLACE-DONE
def placeBay (p : Payload) : Byte := payloadByte p 4
def placeFirst (p : Payload) : Byte := payloadByte p 5
def placeSensed (p : Payload) : Option Bool := boolOfByte (payloadByte p 6)

-- requests: byte 4 names the record, where the request names one
def lane (p : Payload) : Option LaneId := laneOfByte (payloadByte p 4)
def picker (p : Payload) : Option PickerId := pickerOfByte (payloadByte p 4)
def bay (p : Payload) : Option BayId := bayOfByte (payloadByte p 4)
def slot (p : Payload) : Option SlotId := slotOfNat (byteNat p 4)
def nestNamed (p : Payload) : Option Nest := nestOfByte (payloadByte p 4)
-- STATUS-READ, LANE-READ, RECIPE-READ, BAY-READ, BOARD-READ: the part or selector
def statusPart (p : Payload) : Byte := payloadByte p 4
def part (p : Payload) : Byte := payloadByte p 5
def boardPart (p : Payload) : Byte := payloadByte p 6
def selected (p : Payload) : Nat := byteNat p 6
-- ROLE-SET
def role (p : Payload) : Option Role := roleOfByte (payloadByte p 4)
def roleAddress (p : Payload) : Byte := payloadByte p 5
-- TIMING-SET
def settingName (p : Payload) : Byte := payloadByte p 4
def settingValue (p : Payload) : Nat := halfNat p 5
-- ALERT-MASK and LOCK
def mask (p : Payload) : Byte := payloadByte p 4
def recipeLock (p : Payload) : Option Bool := boolOfByte (payloadByte p 4)
def limitLock (p : Payload) : Option Bool := boolOfByte (payloadByte p 5)
-- LANE-CONFIG
def activation (p : Payload) : Option Bool := boolOfByte (payloadByte p 5)
def recoveryMode (p : Payload) : Option RecoveryMode := recoveryOfByte (payloadByte p 6)
def cutTimeout (p : Payload) : Nat := halfNat p 7
def spinDownTimeout (p : Payload) : Nat := halfNat p 9
def autoWait (p : Payload) : Nat := halfNat p 11
-- GOVERNOR-SET
def govMode (p : Payload) : Option GovMode := govModeOfByte (payloadByte p 5)
def govLevel (p : Payload) : Nat := byteNat p 6
def loadMask (p : Payload) : Nat := halfNat p 7
def coolDown (p : Payload) : Nat := halfNat p 9
def restore (p : Payload) : Nat := halfNat p 11
-- LIFE-SET, WEAR-PRESET, BIT-CHANGE
def behaviour (p : Payload) : Option Behaviour := behaviourOfByte (payloadByte p 5)
def warnLevel (p : Payload) : Nat := wearNat p 6
def lifeLimit (p : Payload) : Nat := wearNat p 9
def presetValue (p : Payload) : Nat := (p.extractLsb' 8 32).toNat
def bitId (p : Payload) : Half := payloadHalf p 5
-- RECIPE-OPEN
def openBoards (p : Payload) : Nat := byteNat p 5
def openTabs (p : Payload) : Nat := halfNat p 6
def openOption (p : Payload) : Option Bool := boolOfByte (payloadByte p 8)
-- NEST-LOAD
def loadSlot (p : Payload) : Option SlotId := slotOfNat (byteNat p 5)
def loadSerial (p : Payload) : Half := payloadHalf p 6
def loadMarked (p : Payload) (i : Nat) : Bool := decide (i < 64) && (p.extractLsb' 32 64).getLsbD i
-- BAY-CONFIG and BAY-PRESET
def bayKind (p : Payload) : Byte := payloadByte p 5
def bayVariant (p : Payload) : Nat := byteNat p 6
def baySlots (p : Payload) : Nat := byteNat p 7
def bayPitch (p : Payload) : Nat := byteNat p 8
def bayDir (p : Payload) : Byte := payloadByte p 9
def bayCapacity (p : Payload) : Nat := halfNat p 6
def fillCount (p : Payload) : Nat := halfNat p 5

/-! The packed templates of RECIPE-BOARDS and RECIPE-TABS: byte 4 holds the slot and the count, bytes 5 to 15 one string of 88 bits. -/

def packedSlot (p : Payload) : Option SlotId := slotOfNat (p.extractLsb' 0 4).toNat
def packedCount (p : Payload) : Nat := (p.extractLsb' 4 3).toNat

/-- `w` bits of the string from bit `lo`; bit 0 of the string is bit 0 of byte 5. -/
def stringBits (p : Payload) (lo w : Nat) : Nat := (p.extractLsb' (8 + lo) w).toNat

end Operand

/-- A board template as an item carries it (R168). -/
structure RawBoard where
  index : Nat
  hold : Nat
  variant : Nat
  height : Nat
  deriving DecidableEq, Repr

/-- A tab template as an item carries it (R168). -/
structure RawTab where
  number : Nat
  board : Nat
  cap : Nat
  deriving DecidableEq, Repr

def rawBoard (p : Payload) (k : Nat) : RawBoard :=
  { index := Operand.stringBits p (26 * k) 6, hold := Operand.stringBits p (26 * k + 6) 3,
    variant := Operand.stringBits p (26 * k + 9) 8, height := Operand.stringBits p (26 * k + 17) 9 }

def rawTab (p : Payload) (k : Nat) : RawTab :=
  { number := Operand.stringBits p (22 * k) 8, board := Operand.stringBits p (22 * k + 8) 6,
    cap := Operand.stringBits p (22 * k + 14) 8 }

/-- The templates an item carries: those up to the stated count, three or four at the most. -/
def rawBoards (p : Payload) : List RawBoard := (List.range (min 3 (Operand.packedCount p))).map (rawBoard p)

def rawTabs (p : Payload) : List RawTab := (List.range (min 4 (Operand.packedCount p))).map (rawTab p)

/-! ### Rewriting and building payloads -/

/-- The payload with the `k` bytes at item byte `n` rewritten to a number, every other byte unchanged. -/
def withField (p : Payload) (n k v : Nat) : Payload :=
  let lo := 2 ^ (8 * (n - 4))
  let hi := 2 ^ (8 * (n - 4) + 8 * k)
  BitVec.ofNat 96 (p.toNat % lo + (v % 2 ^ (8 * k)) * lo + (p.toNat / hi) * hi)

/-- R43: the CUT item with its feed field rewritten. -/
def withFeed (it : Item) (feed : Nat) : Item := { it with payload := withField it.payload 6 2 feed }

/-- R117: the SPIN item with its speed rewritten. -/
def withSpeed (it : Item) (speed : Nat) : Item := { it with payload := withField it.payload 4 2 speed }

/-- R123: the FEED item with its percent rewritten. -/
def withPercent (it : Item) (percent : Nat) : Item := { it with payload := withField it.payload 4 1 percent }

/-- R88: the PLACE item with the run written into its bay, first slot and span fields. -/
def withRun (it : Item) (d : Destination) : Item :=
  { it with payload := withField (withField (withField it.payload 4 1 d.bay.val) 5 1 d.first) 6 1 d.span }

/-- R139: the item voided in place. -/
def voidItem (it : Item) (code : RefusalCode) : Item :=
  { it with kind := Kind.void, payload := payloadOf ([it.kind, code.code] ++ halfBytes it.tag) }

/-- An order item the DG740 builds for a station: tag FFFFh (R141), payload bytes it does not name 0 (R166). -/
def builtItem (a : Station) (kind : Byte) (fields : List Byte) : Item :=
  { addr := addrByte a, kind := kind, tag := 0xFFFF, payload := payloadOf fields }

end Sys2Proof.Machine
end

