-- ==== Sys2Proof/Machine/Ops.lean ====
section
/-! DEFINITION. The named operations on the records that several commands share. -/

namespace Sys2Proof.Machine

/-! ### Records by index -/

def PerNest.get {α : Type} (p : PerNest α) : Nest → α
  | .a => p.a
  | .b => p.b

def PerNest.set {α : Type} (p : PerNest α) : Nest → α → PerNest α
  | .a, v => { p with a := v }
  | .b, v => { p with b := v }

def State.lane (s : State) (i : LaneId) : Lane := s.lanes[i]

def setLane (i : LaneId) (l : Lane) (s : State) : State := { s with lanes := s.lanes.set i.val l i.isLt }

def modLane (i : LaneId) (f : Lane → Lane) (s : State) : State := setLane i (f (s.lane i)) s

def State.nest (s : State) (n : Nest) : NestRec := s.nests.get n

def setNest (n : Nest) (r : NestRec) (s : State) : State := { s with nests := s.nests.set n r }

def modNest (n : Nest) (f : NestRec → NestRec) (s : State) : State := setNest n (f (s.nest n)) s

def State.boardAt (s : State) (r : BoardRef) : Option BoardRec := (s.nest r.nest).boards[r.board]?

/-- The board a tab holds to the frame. -/
def State.boardOfTab (s : State) (n : Nest) (tab : Nat) : BoardRef :=
  { nest := n, board := (((s.nest n).tabs[tab]?).map TabRec.board).getD 0 }

def modBoard (r : BoardRef) (f : BoardRec → BoardRec) (s : State) : State :=
  modNest r.nest (fun n => { n with boards := n.boards.modify r.board f }) s

def modTab (n : Nest) (t : Nat) (f : TabRec → TabRec) (s : State) : State :=
  modNest n (fun r => { r with tabs := r.tabs.modify t f }) s

def State.picker (s : State) (p : PickerId) : Picker := s.pickers[p]

def setPicker (p : PickerId) (r : Picker) (s : State) : State := { s with pickers := s.pickers.set p.val r p.isLt }

def modPicker (p : PickerId) (f : Picker → Picker) (s : State) : State := setPicker p (f (s.picker p)) s

def State.bay (s : State) (b : BayId) : Bay := s.bays[b]

def setBay (b : BayId) (r : Bay) (s : State) : State := { s with bays := s.bays.set b.val r b.isLt }

def modBay (b : BayId) (f : Bay → Bay) (s : State) : State := setBay b (f (s.bay b)) s

def State.recipe (s : State) (i : SlotId) : RecipeSlot := s.recipes[i]

def setRecipe (i : SlotId) (r : RecipeSlot) (s : State) : State := { s with recipes := s.recipes.set i.val r i.isLt }

def modRecipe (i : SlotId) (f : RecipeSlot → RecipeSlot) (s : State) : State := setRecipe i (f (s.recipe i)) s

/-- The index R167 gives a role. -/
def Role.index : Role → Fin 8
  | .lane 0 => 0 | .lane 1 => 1 | .lane 2 => 2 | .lane 3 => 3
  | .picker 0 => 4 | .picker 1 => 5 | .elevator => 6 | .table => 7

def allRoles : List Role :=
  [.lane 0, .lane 1, .lane 2, .lane 3, .picker 0, .picker 1, .elevator, .table]

/-- R138: the station address a role maps to. -/
def State.addrOf (s : State) (r : Role) : Option Station := s.roles[r.index]

/-- R138: the role whose entry holds an address. -/
def State.roleAt (s : State) (a : Station) : Option Role := allRoles.find? fun r => s.addrOf r == some a

/-- A number brought to the nearer end of its range (00_scope, clamping). -/
def clampTo (lo hi n : Nat) : Nat := max lo (min n hi)

/-! ### The return path -/

/-- R145: the notice queue takes a notice, or counts it lost when it holds 32. -/
def ReturnPath.post (r : ReturnPath) (p : Posted) : ReturnPath :=
  if r.notices.length < Config.noticeCap then { r with notices := r.notices ++ [p] }
  else { r with overflow := true, lost := min 65535 (r.lost + 1) }

/-- A notice is queued under a tag (R146). -/
def post (tag : Half) (n : Notice) (s : State) : State := { s with ret := s.ret.post { tag := tag, notice := n } }

/-- R158: an answer is queued. -/
def queueAnswer (a : Answer) (s : State) : State := { s with ret := { s.ret with answers := s.ret.answers ++ [a] } }

/-- R145, R146: a notice leaves the queue; an OVERFLOW notice takes its room while the overflow mark is set. -/
def ReturnPath.leave (r : ReturnPath) (rest : List Posted) : ReturnPath :=
  if r.overflow then
    { r with notices := rest ++ [{ tag := 0, notice := .overflow r.lost }], overflow := false, lost := 0 }
  else { r with notices := rest }

/-- R146, R169: answers, oldest first and whole, while the room takes them. -/
def takeAnswers (own : Station) : List Answer → Nat → List Item × List Answer
  | [], _ => ([], [])
  | a :: as, room =>
    if answerParts a ≤ room then
      let r := takeAnswers own as (room - answerParts a)
      (answerItems own a ++ r.1, r.2)
    else ([], a :: as)

/-- R146: notices, oldest first, while there is room. -/
def takeNotices (own : Station) : Nat → ReturnPath → List Item × ReturnPath
  | 0, r => ([], r)
  | room + 1, r =>
    match r.notices with
    | [] => ([], r)
    | p :: rest =>
      let t := takeNotices own room (r.leave rest)
      (noticeItem own p :: t.1, t.2)

/-- R146: the items of a return frame topped up with answers and then notices, and the queues after it. -/
def fillReturn (own : Station) (items : List Item) (r : ReturnPath) : List Item × ReturnPath :=
  let a := takeAnswers own r.answers (Config.maxItems - items.length)
  let filled := items ++ a.1
  let n := takeNotices own (Config.maxItems - filled.length) { r with answers := a.2 }
  (filled ++ n.1, n.2)

/-- A frame leaves Port D. -/
def sendDown (f : LinkFrame) (s : State) : State := { s with sentD := s.sentD ++ [frameBytes f] }

/-- A frame leaves Port U. -/
def sendUp (f : LinkFrame) (s : State) : State := { s with sentU := s.sentU ++ [frameBytes f] }

/-! ### The line (R150) -/

/-- R150: the line state that a hold-cause set gives. -/
def lineUnder (holds : HoldSet) (l : LineState) : LineState :=
  if holds.isEmpty then (if l = .held then .idle else l) else .held

/-- R150: the line state judged afresh when a source has been raised or withdrawn since `before`. -/
def judgeLine (before : HoldSet) (s : State) : State :=
  if s.holdSet = before then s
  else
    let l := lineUnder s.holdSet s.line.state
    let s' := { s with line := { s.line with state := l } }
    if l ≠ s.line.state ∨ l = .held then post 0 (.lineChange l s.holdSet) s' else s'

/-! ### Timers -/

/-- A timer's expiry: nothing for a stopped timer and during a reset (R163); otherwise the clock stands at the timer's end
at the least (log 1) and the expiry acts. -/
def expire (timer : Option Nat) (act : State → State) (s : State) : State :=
  match timer with
  | none => s
  | some ends => if s.inReset then s else act { s with now := max s.now ends }

/-! ### Pending items of the insertion unit (R141) -/

def giveAbort (i : LaneId) (s : State) : State :=
  modLane i (fun l => { l with pend := { l.pend with abort := true } }) s

def giveStop (i : LaneId) (s : State) : State :=
  modLane i (fun l => { l with pend := { l.pend with stop := true } }) s

/-- R31, R27, R66: a pending ABORT for every lane bound to a tab that is picked out. -/
def abortBound (pick : Binding → Bool) (s : State) : State :=
  { s with lanes := s.lanes.map fun l =>
      if l.binding.any pick then { l with pend := { l.pend with abort := true } } else l }

/-! ### Lanes -/

/-- R118: a SPIN stop reaches the lane. -/
def stopSpindle (i : LaneId) (s : State) : State :=
  modLane i (fun l =>
    if l.spindle = .runningUp ∨ l.spindle = .atSpeed then
      { l with spindle := .spinningDown, spinDownTimer := some (s.now + l.spinDownTimeout) }
    else l) s

/-- R105: the lane enters PARKED; a spindle RUNNING-UP or AT-SPEED is given a pending SPIN-stop. -/
def Lane.park (l : Lane) : Lane :=
  { l with state := .parked,
           pend := if l.spindle = .runningUp ∨ l.spindle = .atSpeed then { l.pend with stop := true } else l.pend }

/-- R105: a change that would take the lane into READY takes it into PARKED while the park hold stands. -/
def Lane.toReady (l : Lane) : Lane := if l.life.parkHold then l.park else { l with state := .ready }

/-- R105: the life record takes new values, and the park hold is applied or released. -/
def Lane.withLife (l : Lane) (life : Life) : Lane :=
  let l' := { l with life := life }
  if !l.life.parkHold && life.parkHold && decide (l.state = .ready) then l'.park
  else if l.life.parkHold && !life.parkHold && decide (l.state = .parked) then { l' with state := .ready }
  else l'

/-- R125: where a lane with causes stands once it is not CUTTING. -/
def Lane.placeByCauses (now : Nat) (l : Lane) : Lane :=
  if l.recoveryMode = .auto ∧ l.causes.latching = false then
    { l with state := .recovering,
             recoveryTimer := if l.state = .recovering then l.recoveryTimer else some (now + l.autoWait) }
  else { l with state := .error, recoveryTimer := none }

/-- R51: OVERLOAD on a CUTTING lane sets the binding's governor abort. -/
def Lane.govAbort (l : Lane) : Lane := { l with binding := l.binding.map fun b => { b with govAbort := true } }

/-- R124, for a cause not yet in the set: everything but the notice. -/
def Lane.newCause (now : Nat) (c : Cause) (l : Lane) : Lane :=
  let l := { l with causes := l.causes.add c, bitChangeDue := l.bitChangeDue || decide (c = Cause.bitBroken) }
  let l := if l.spindle ≠ .stopped then { l with pend := { l.pend with stop := true } } else l
  if l.state = .cutting then
    let l := { l with pend := { l.pend with abort := true } }
    if c = .overload then l.govAbort else l
  else l.placeByCauses now

/-- R124, for a cause already in the set. -/
def Lane.sameCause (now : Nat) (c : Cause) (l : Lane) : Lane :=
  let l := { l with recoveryTimer := l.recoveryTimer.map fun _ => now + l.autoWait }
  if l.state = .cutting then
    let l := { l with pend := { l.pend with abort := true } }
    if c = .overload then l.govAbort else l
  else l

/-- R124: an error cause is raised for a lane. -/
def raiseCause (tag : Half) (i : LaneId) (c : Cause) (s : State) : State :=
  let l := s.lane i
  if l.state = .inactive then s
  else if l.causes.has c then setLane i (l.sameCause s.now c) s
  else post tag (.laneError i c (l.causes.add c)) (setLane i (l.newCause s.now c) s)

/-- R52: the cut ends; `matched` tells a report from an expiry. -/
def Lane.endCut (now : Nat) (matched : Bool) (l : Lane) : Lane :=
  let l := { l with binding := none, cutTimer := none,
                    pend := { l.pend with feed := none, abort := l.pend.abort && !matched } }
  if l.causes.isEmpty then l.toReady else l.placeByCauses now

/-- R126, conditions 1 to 3, which LANE-CLEAR checks too (R127). -/
def Lane.clearable (l : Lane) : Bool :=
  (l.lastFault != some true) && l.gov.backDown l.lastLoad && decide (l.spindle = .stopped)

/-- R126, R127: the causes are emptied and the lane goes to READY or PARKED. -/
def Lane.restored (l : Lane) : Lane :=
  Lane.toReady { l with causes := Causes.none, recoveryTimer := none }

/-- R123: the governor takes a new override; a CUTTING lane is given a pending FEED when it changed. -/
def Lane.withGov (l : Lane) (g : Governor) : Lane :=
  { l with gov := g,
           pend := if g.override ≠ l.gov.override ∧ l.state = .cutting then { l.pend with feed := some g.override } else l.pend }

/-- The life record changes and both flags are judged (R102, R103, R105, R107); `cause` is the WEAR-LIMIT cause of a limit
reached by the change. -/
def rewear (tag : Half) (cause : LimitCause) (i : LaneId) (f : Life → Life) (s : State) : State :=
  let old := (s.lane i).life
  let l := f old
  let new := { l with warned := decide (l.warn ≤ l.wear), reached := decide (l.limit ≤ l.wear) }
  let s := setLane i ((s.lane i).withLife new) s
  let s := if new.warned && !old.warned then post tag (.wearWarn i new.bitId new.wear new.warn) s else s
  if new.reached && new.behaviour != .ignore then
    if !old.reached then post tag (.wearLimit i new.bitId new.wear new.limit new.behaviour cause) s
    else if new.behaviour != old.behaviour then
      post tag (.wearLimit i new.bitId new.wear new.limit new.behaviour .behaviour) s
    else s
  else s

/-! ### Nests -/

/-- R27, R28: the nest is engaged: a tab CUTTING, a board HELD or FREED, or a board bound to a picker in CLOSING. -/
def State.engaged (s : State) (n : Nest) : Bool :=
  (s.nest n).tabs.any (fun t => decide (t.state = .cutting)) ||
  (s.nest n).boards.any (fun b => decide (b.state = .held) || decide (b.state = .freed) ||
    match b.picker with | some p => decide ((s.picker p).state = .closing) | none => false)

def NestRec.tally (r : NestRec) (st : BoardState) : Nat := r.boards.countP fun b => decide (b.state = st)

/-- R23: a board of the nest has just reached an end; the nest becomes CLEARED when every board has. -/
def settleNest (tag : Half) (n : Nest) (s : State) : State :=
  let r := s.nest n
  if r.state = .loaded ∧ r.boards.all (fun b => b.state.terminal) = true then
    post tag (.nestCleared n r.serial (r.tally .stacked) (r.tally .rejected) (r.tally .lost))
      (setNest n { r with state := .cleared } s)
  else s

/-! ### Custody -/

/-- R61: both sides of a picker's binding are unbound together. -/
def unbind (p : PickerId) (s : State) : State :=
  let s' := match (s.picker p).board with
    | some r => modBoard r (fun b => { b with picker := none }) s
    | none => s
  modPicker p (fun k => { k with board := none }) s'

/-- The picker enters a state other than CLOSING: its sent-for board is absent (R60). -/
def Picker.enter (k : Picker) (st : PickerState) : Picker := { k with state := st, sentFor := none }

/-! ### Bays and placements -/

/-- The physical slots of a run, first position first (R85). -/
def runSlots (dir : FillDir) (first span : Nat) : List Nat :=
  (List.range span).map fun j => match dir with | .up => first + j | .down => first - j

/-- R78: the slot at a fill position, and the fill position of a slot. -/
def slotAt (dir : FillDir) (slots pos : Nat) : Nat :=
  match dir with
  | .up => pos
  | .down => slots - 1 - pos

/-- The slot table with every named slot in a state. -/
def SlotTable.mark (t : SlotTable) (slots : List Nat) (v : SlotState) : SlotTable :=
  { t with slots := slots.foldl (fun l j => l.set j v) t.slots }

/-- Every slot of a run takes a state, in a NORMAL bay with a table. -/
def Bay.markRun (b : Bay) (d : Destination) (v : SlotState) : Bay :=
  match b.kind with
  | .normal _ _ _ dir => { b with table := b.table.map fun t => t.mark (runSlots dir d.first d.span) v }
  | _ => b

/-- R96: the REJECT bay's reserved count falls by one; a FULL bay whose sum is below capacity again is READY. -/
def Bay.dropReserved (b : Bay) (capacity : Nat) : Bay :=
  { b with reserved := b.reserved - 1,
           state := if b.state = .full ∧ b.reserved - 1 + b.placed < capacity then .ready else b.state }

/-- R93: a run's reservation ends without a board. -/
def Bay.releaseRun (b : Bay) (d : Destination) : Bay :=
  match b.kind with
  | .normal .. => b.markRun d .skipped
  | .reject capacity => b.dropReserved capacity
  | .none => b

/-- The limit a BAY-FULL notice carries, and how far the bay is filled (R96). -/
def Bay.limits (b : Bay) : Nat × Nat :=
  match b.kind with
  | .normal _ slots _ _ => (slots, (b.table.map SlotTable.cursor).getD 0)
  | .reject capacity => (capacity, b.placed)
  | .none => (0, 0)

/-- R96: the bay becomes FULL and queues its notice. -/
def becomeFull (tag : Half) (b : BayId) (s : State) : State :=
  post tag (.bayFull b (s.bay b).limits.1 (s.bay b).limits.2) (modBay b (fun r => { r with state := .full }) s)

/-- R80, R99: the bay with its runtime state rebuilt from its presence, under a kind. -/
def Bay.configured (b : Bay) (kind : BayKind) : Bay :=
  { kind := kind, presence := b.presence, table := none, reserved := 0, placed := 0,
    state := if kind = .none then .inactive else if b.presence = .present then .uncertain else .absent }

/-- The placement record of a board (R90). -/
def State.placementOf (s : State) (r : BoardRef) : Option Placement := s.placements.find? fun p => p.ref == r

/-- The placement record of a board is closed, and with it its timer (R90). -/
def closePlacement (r : BoardRef) (s : State) : State :=
  { s with placements := s.placements.filter fun p => p.ref != r }

/-- R92, steps 1 to 3: the placement is complete. -/
def completePlacement (tag : Half) (p : Placement) (cycle : Half) (s : State) : State :=
  let s := closePlacement p.ref s
  let n := s.nest p.ref.nest
  let s := modBay p.dest.bay (fun b =>
    match b.kind with
    | .reject capacity => { b with reserved := b.reserved - 1, placed := min capacity (b.placed + 1) }
    | _ => b.markRun p.dest (.occupied (some { nest := p.ref.nest, board := p.ref.board, serial := n.serial }))) s
  let finish : BoardState := match (s.bay p.dest.bay).kind with | .reject _ => .rejected | _ => .stacked
  settleNest tag p.ref.nest (modBoard p.ref (fun b => { b with state := finish, placedAt := some cycle }) s)

/-- R93, step 3: what becomes of the board of a placement that ends without a board. -/
def BoardRec.unplaced (b : BoardRec) : BoardRec :=
  match b.state with
  | .inTransit => { b with dest := none }
  | .placing => { b with state := .lost }
  | _ => b

/-- The state of a board, LOST where there is no such record. -/
def State.boardStateAt (s : State) (r : BoardRef) : BoardState := ((s.boardAt r).map BoardRec.state).getD .lost

/-- R93: the placement ends without a board. -/
def endPlacement (tag : Half) (p : Placement) (reason : PlaceReason) (s : State) : State :=
  let s := modBay p.dest.bay (fun b => b.releaseRun p.dest) (closePlacement p.ref s)
  let s := settleNest tag p.ref.nest (modBoard p.ref BoardRec.unplaced s)
  post tag (.placeFailed p.ref p.dest.bay p.dest.first reason (s.boardStateAt p.ref)) s

end Sys2Proof.Machine
end

