-- ==== Sys2Proof/Machine/Walk.lean ====
section
/-! DEFINITION. The classifier (R136 to R140): how an item of a frame in passage reaches its judge, and how a request is answered. -/

namespace Sys2Proof.Machine

/-- What R137 makes of an item's station address, in the order of its tests. -/
inductive Route where
  | through | own | broadcast | role (r : Role) | unmapped
  deriving DecidableEq, Repr

/-- R137, R170: bits 6 and 7 of the address byte are ignored. -/
def State.route (s : State) (addr : Byte) : Route :=
  let a := stationOf addr
  if a = 63 then .through
  else if a = s.line.ownAddr then .own
  else if a = 0 then .broadcast
  else match s.roleAt a with
    | some r => .role r
    | none => .unmapped

/-- A judge's verdict on a gated item: the state and the item as it goes on, or the refusal code, the state and the notices
that follow the REFUSED notice. -/
inductive Verdict where
  | pass (s : State) (it : Item)
  | void (code : RefusalCode) (s : State) (after : List Notice)

/-- R139: a refused item is voided in place and its REFUSED notice queued. -/
def settle (it : Item) : Verdict → State × Item
  | .pass s it' => (s, it')
  | .void code s after =>
    (after.foldl (fun s n => post it.tag n s) (post it.tag (.refused it.kind code it.tag) s), voidItem it code)

/-- R137 for an item of a gated kind; `belongs` says which record of a role the kind belongs to. -/
def gate {α : Type} (it : Item) (belongs : Role → Option α) (judge : α → State → Verdict) (s : State) : State × Item :=
  match s.route it.addr with
  | .through | .own | .unmapped => (s, it)
  | .broadcast => settle it (.void .badAddress s [])
  | .role r =>
    match belongs r with
    | some x => settle it (judge x s)
    | none => settle it (.void .wrongRole s [])

/-- R137: CUT, SPIN and FEED belong to the lanes. -/
def Role.lane? : Role → Option LaneId
  | .lane i => some i
  | _ => none

/-- R137: GRIP, OPEN, LIFT and PLACE belong to the pickers. -/
def Role.picker? : Role → Option PickerId
  | .picker p => some p
  | _ => none

/-- R137: SHUTTLE belongs to the table. -/
def Role.table? : Role → Option Unit
  | .table => some ()
  | _ => none

/-- R140: BAY-STATE and PLACE-DONE belong to the elevator. -/
def Role.elevator? : Role → Option Unit
  | .elevator => some ()
  | _ => none

/-- The frame at the front of the down path is an order frame and this is its next item (R136). -/
def State.nextDown (s : State) (it : Item) : Prop :=
  ∃ f rest, s.down = f :: rest ∧ f.isHalt = false ∧ f.todo.head? = some it

/-- The frame at the front of the up path has this report next. -/
def State.nextUp (s : State) (it : Item) : Prop :=
  ∃ f rest, s.up = f :: rest ∧ f.todo.head? = some it

/-- R136: the next item of the order frame in walk is judged; `f` takes the frame's cycle number and gives the records and
the item as it leaves. An item that is not the next one of an order frame in walk is not acted on (log 2). -/
def walkItem (it : Item) (f : Half → State → State × Item) (s : State) : State :=
  match s.down with
  | [] => s
  | fr :: rest =>
    if fr.isHalt = false ∧ fr.todo.head? = some it then
      let r := f fr.cycle s
      { r.1 with down := { fr with todo := fr.todo.tail, out := fr.out ++ [r.2] } :: rest }
    else s

/-- A gated item of the order frame in walk. -/
def walkGated {α : Type} (kind : Byte) (w : Wire) (belongs : Role → Option α)
    (judge : Half → Item → α → State → Verdict) (s : State) : State :=
  walkItem (itemOf kind w) (fun cycle s => gate (itemOf kind w) belongs (judge cycle (itemOf kind w)) s) s

/-- What a request answers: its result and the fields it carries, as bytes. -/
abbrev Reply := Result × List Byte

/-- R147, R158: the request is executed and answered, or lost to a full answer queue. -/
def request (kind : Byte) (tag : Half) (act : State → State × Reply) (s : State) : State :=
  if Config.answerCap ≤ s.ret.answers.length then { s with ret := { s.ret with answerLost := true } }
  else
    let r := act s
    queueAnswer { tag := tag, kind := kind, result := r.2.1, fields := r.2.2 } r.1

/-- A request item of the order frame in walk: executed at the own address, and forwarded unchanged whatever its address. -/
def walkRequest (kind : Byte) (w : Wire) (act : State → State × Reply) (s : State) : State :=
  walkItem (itemOf kind w) (fun _ s =>
    match s.route w.addr with
    | .own => (request kind w.tag act s, itemOf kind w)
    | _ => (s, itemOf kind w)) s

/-- R140: the next report of the return frame in walk is taken when its station's role is one it belongs to; `take` has the
frame's cycle number. A report that is not the next one of a return frame in walk is not acted on (log 2). -/
def walkReport {α : Type} (kind : Byte) (w : Wire) (belongs : Role → Option α)
    (take : α → Half → State → State) (s : State) : State :=
  match s.up with
  | [] => s
  | fr :: rest =>
    if fr.todo.head? = some (itemOf kind w) then
      let s' := match (s.roleAt (stationOf w.addr)).bind belongs with
        | some x => take x fr.cycle s
        | none => s
      { s' with up := { fr with todo := fr.todo.tail } :: rest }
    else s

/-- R170: a report with an undefined named value is not taken in any part. -/
def badReport (kind : Byte) (w : Wire) (s : State) : State :=
  post w.tag (.badReport (stationOf w.addr) kind w.tag) s

/-- R137: the items that pass untouched, or unchanged and unexecuted: all but a gated item that is judged or voided and a
request at the own address. -/
def passesUntouched (s : State) (it : Item) : Bool :=
  match s.route it.addr with
  | .through | .unmapped => true
  | .own => !Kind.isRequest it.kind
  | .broadcast | .role _ => !Kind.isGated it.kind

/-- A refused request changes nothing and answers with no fields (R159, R169). -/
def refuse (r : Result) (s : State) : State × Reply := (s, (r, []))

/-- R159: DONE, or CLAMPED when a value was brought into range. -/
def doneOr (wasClamped : Bool) : Result := if wasClamped then .clamped else .done

/-- The time left on a timer in ms, 0 when stopped (R131). -/
def State.timeLeft (s : State) : Option Nat → Nat
  | none => 0
  | some ends => ends - s.now

end Sys2Proof.Machine
end

