-- ==== Sys2Proof/Machine/Bays.lean ====
section
/-! DEFINITION. The bay allocator (chapter 5): PLACE items, placement and magazine reports, the place timer, the bay requests. -/

namespace Sys2Proof.Machine

def allBays : List BayId := [0, 1, 2, 3, 4, 5, 6, 7]

/-! ### The slot search (R85 to R89) -/

/-- R85: the span of a board at a pitch, height / pitch rounded up. -/
def spanOf (height pitch : Nat) : Nat := (height + pitch - 1) / pitch

/-- R85 for one bay: what it makes of a board of a height. -/
inductive Fit where
  | unfittable
  | room (d : Destination)
  | noRoom
  deriving DecidableEq, Repr

/-- R85 -/
def fitIn (id : BayId) (slots pitch : Nat) (dir : FillDir) (cursor height : Nat) : Fit :=
  let k := spanOf height pitch
  if slots < k then .unfittable
  else if cursor + k ≤ slots then .room { bay := id, first := slotAt dir slots cursor, span := k }
  else .noRoom

/-- R87, variant route: the bays in order; a bay with no room becomes FULL on the way. -/
def searchVariant (tag : Half) (variant height : Nat) : List BayId → State → State × Option Destination
  | [], s => (s, none)
  | id :: rest, s =>
    let b := s.bay id
    match b.kind, b.state, b.table with
    | .normal v slots pitch dir, .ready, some t =>
      if v = variant then
        match fitIn id slots pitch dir t.cursor height with
        | .room d => (s, some d)
        | .noRoom => searchVariant tag variant height rest (becomeFull tag id s)
        | .unfittable => searchVariant tag variant height rest s
      else searchVariant tag variant height rest s
    | _, _, _ => searchVariant tag variant height rest s

/-- R77: the REJECT bay, if one is configured. -/
def State.rejectBay (s : State) : Option BayId :=
  allBays.find? fun id => match (s.bay id).kind with | .reject _ => true | _ => false

/-- R87, reject route. -/
def searchReject (s : State) : Option Destination :=
  match s.rejectBay with
  | some id => if (s.bay id).state = .ready then some { bay := id, first := 0, span := 1 } else none
  | none => none

/-- R87, R13: the board goes to the REJECT bay. -/
def goesToReject (s : State) (n : Nest) (b : BoardRec) : Bool :=
  b.bad || (b.suspect && (s.recipe (s.nest n).slot).suspectOption)

/-- R88, step 2: the run is reserved. -/
def Bay.reserve (b : Bay) (d : Destination) (r : BoardRef) : Bay :=
  match b.kind with
  | .reject _ => { b with reserved := b.reserved + 1 }
  | _ =>
    let b := b.markRun d (.reserved r)
    { b with table := b.table.map fun t => { t with cursor := t.cursor + d.span } }

/-- R88, R84: the bay takes no more boards. -/
def Bay.atLimit (b : Bay) : Bool :=
  match b.kind with
  | .normal _ slots _ _ => decide ((b.table.map SlotTable.cursor) = some slots)
  | .reject capacity => decide (b.reserved + b.placed = capacity)
  | .none => false

/-- R88, steps 2 to 4. -/
def reservePlace (tag cycle : Half) (r : BoardRef) (d : Destination) (s : State) : State :=
  let s := modBay d.bay (fun b => b.reserve d r) s
  let s := if (s.bay d.bay).atLimit then becomeFull tag d.bay s else s
  let s := modBoard r (fun b => { b with dest := some d }) s
  { s with placements := s.placements ++
      [{ ref := r, dest := d, cycle := cycle, sensed := none, deadline := s.now + s.timing.place }] }

/-- The spans a board of a height has in the bays configured NORMAL for its variant, with each bay's slot count. -/
def State.spansFor (s : State) (variant height : Nat) : List (Nat × Nat) :=
  allBays.filterMap fun id =>
    match (s.bay id).kind with
    | .normal v slots pitch _ => if v = variant then some (spanOf height pitch, slots) else none
    | _ => none

/-- R89: the span k of an UNFITTABLE notice: the one value the bays of the variant give, and a free value where they give
none or several (log 3). -/
def unfittableSpan (s : State) (spans : List (Nat × Nat)) : Byte :=
  match spans with
  | [] => Config.unfittableSpan s.free
  | (k, _) :: rest => if rest.all (fun x => decide (x.1 = k)) then BitVec.ofNat 8 k else Config.unfittableSpan s.free

/-- R89: the notice of a PLACE whose variant route finds no room. -/
def variantFailure (s : State) (r : BoardRef) (b : BoardRec) : Notice :=
  let spans := s.spansFor b.variant b.height
  if spans.all (fun x => decide (x.2 < x.1)) then .unfittable r b.variant (unfittableSpan s spans) else .noRoom r none

/-- R86, checks 1 to 4: the board to be placed, or the refusal. -/
def checkPlace (s : State) (p : PickerId) : Except RefusalCode (BoardRef × BoardRec) :=
  if s.line.state ≠ .running then .error .halted
  else match (s.picker p).state with
    | .jammed => .error .pickerFault
    | .empty | .closing | .opening => .error .pickerEmpty
    | .holding =>
      match (s.picker p).board with
      | none => .error .boardState
      | some r =>
        match s.boardAt r with
        | none => .error .boardState
        | some b => if b.state = .inTransit ∧ b.dest = none then .ok (r, b) else .error .boardState

def judgePlace (cycle : Half) (it : Item) (p : PickerId) (s : State) : Verdict :=
  match checkPlace s p with
  | .error c => .void c s []
  | .ok (r, b) =>
    if goesToReject s r.nest b then
      match searchReject s with
      | some d => .pass (reservePlace it.tag cycle r d s) (withRun it d)
      | none => .void .noSlot s [.noRoom r s.rejectBay]
    else
      let x := searchVariant it.tag b.variant b.height allBays s
      match x.2 with
      | some d => .pass (reservePlace it.tag cycle r d x.1) (withRun it d)
      | none => .void .noSlot { x.1 with free := x.1.free + 1 } [variantFailure x.1 r b]

def execPlace (w : Wire) (s : State) : Host.Outcome State Fault Refusal :=
  .next (walkGated Kind.place w Role.picker? judgePlace s)

/-! ### PLACE-DONE (R91 to R95) -/

/-- R91: the placement a report matches. -/
def matchPlacement (s : State) (id : BayId) (first : Nat) : Option Placement :=
  match (s.bay id).kind with
  | .normal .. => s.placements.find? fun p => p.dest.bay == id && p.dest.first == first
  | .reject _ =>
    if first = 0 then
      (s.placements.find? fun p => p.dest.bay == id && decide (s.boardStateAt p.ref = .placing)).or
        (s.placements.find? fun p => p.dest.bay == id)
    else none
  | .none => none

/-- R92: the record of a board still IN-TRANSIT is marked sensed early. -/
def markSensed (r : BoardRef) (cycle : Half) (s : State) : State :=
  { s with placements := s.placements.map fun p => if p.ref = r then { p with sensed := some cycle } else p }

/-- R92, R93: a matched report. -/
def takeMatched (tag cycle : Half) (p : Placement) (sensed : Bool) (s : State) : State :=
  if sensed = false then endPlacement tag p .notSensed s
  else if s.boardStateAt p.ref = .placing then completePlacement tag p cycle s
  else markSensed p.ref cycle s

/-- R95: the slot table after a stray board is sensed in a slot that is EMPTY at or after the cursor. -/
def SlotTable.strayAt (t : SlotTable) (dir : FillDir) (slots slot : Nat) : SlotTable :=
  let pos := slotAt dir slots slot
  let between := (List.range (pos - t.cursor)).map fun j => slotAt dir slots (t.cursor + j)
  { (t.mark between .skipped).mark [slot] (.occupied none) with cursor := pos + 1 }

/-- R95: a stray board sensed in a slot of a NORMAL bay with a table. -/
def strayInSlot (tag : Half) (id : BayId) (slots : Nat) (dir : FillDir) (t : SlotTable) (slot : Nat) (s : State) : State :=
  let occupy := modBay id fun b => { b with table := b.table.map fun t => t.mark [slot] (.occupied none) }
  match t.slots[slot]? with
  | none => s
  | some (.occupied _) => s
  | some .skipped => occupy s
  | some .empty =>
    let s := modBay id (fun b => { b with table := some (t.strayAt dir slots slot) }) s
    if (s.bay id).atLimit = true ∧ (s.bay id).state ≠ .full then becomeFull tag id s else s
  | some (.reserved r) =>
    match s.placementOf r with
    | some p => occupy (endPlacement tag p .stray s)
    | none => occupy s

/-- R95: a stray board sensed in the REJECT bay. -/
def strayInReject (tag : Half) (id : BayId) (capacity : Nat) (s : State) : State :=
  let s := modBay id (fun b => { b with placed := min capacity (b.placed + 1) }) s
  if capacity ≤ (s.bay id).reserved + (s.bay id).placed ∧ (s.bay id).state ≠ .full then becomeFull tag id s else s

/-- R95: what a sensed stray report does in a bay. -/
def strayInBay (tag : Half) (id : BayId) (first : Nat) (s : State) : State :=
  let b := s.bay id
  if b.state = .ready ∨ b.state = .full then
    match b.kind, b.table with
    | .reject capacity, _ => strayInReject tag id capacity s
    | .normal _ slots _ dir, some t => strayInSlot tag id slots dir t first s
    | _, _ => s
  else s

/-- R95: a report that matches no open placement. -/
def strayPlace (w : Wire) (sensed : Bool) (cycle : Half) (s : State) : State :=
  let s := post w.tag (.strayPlace (Operand.placeBay w.payload) (Operand.placeFirst w.payload) sensed cycle) s
  match bayOfByte (Operand.placeBay w.payload) with
  | some id => if sensed then strayInBay w.tag id (Operand.placeFirst w.payload).toNat s else s
  | none => s

/-- R91: a PLACE-DONE report. -/
def takePlaceDone (w : Wire) (_ : Unit) (cycle : Half) (s : State) : State :=
  match Operand.placeSensed w.payload with
  | none => badReport Kind.placeDone w s
  | some sensed =>
    match (bayOfByte (Operand.placeBay w.payload)).bind fun id => matchPlacement s id (Operand.placeFirst w.payload).toNat with
    | some p => takeMatched w.tag cycle p sensed s
    | none => strayPlace w sensed cycle s

def execPlaceDone (w : Wire) (s : State) : Host.Outcome State Fault Refusal :=
  .next (walkReport Kind.placeDone w Role.elevator? (takePlaceDone w) s)

/-! ### The place timer (R94) -/

def execPlaceTimerExpiry (nest : Nest) (board : Nat) (s : State) : Host.Outcome State Fault Refusal :=
  .next (match s.placementOf { nest := nest, board := board } with
    | some p => expire (some p.deadline) (endPlacement 0 p .timeout) s
    | none => s)

/-! ### BAY-STATE (R81 to R83) -/

/-- R82: a magazine is inserted. -/
def Bay.inserted (b : Bay) : Bay :=
  match b.kind with
  | .normal _ slots _ _ => { b with state := .ready, table := some { slots := List.replicate slots .empty, cursor := 0 } }
  | .reject _ => { b with state := .ready, placed := 0 }
  | .none => b

/-- R83: what becomes of a board whose magazine is removed; the removal strips destinations from boards IN-TRANSIT and
PLACING (log 24). -/
def BoardRec.stripped (b : BoardRec) : BoardRec :=
  match b.state with
  | .inTransit => { b with dest := none }
  | .placing => { b with state := .lost, dest := none }
  | _ => b

/-- R83, step 1: one open placement of a removed magazine ends. -/
def removePlacement (tag : Half) (s : State) (p : Placement) : State :=
  let s := modBoard p.ref BoardRec.stripped (closePlacement p.ref s)
  settleNest tag p.ref.nest
    (post tag (.placeFailed p.ref p.dest.bay p.dest.first .removed (s.boardStateAt p.ref)) s)

/-- R83: the magazine of a bay is removed. -/
def removeMagazine (tag : Half) (id : BayId) (s : State) : State :=
  let s := (s.placements.filter fun p => p.dest.bay == id).foldl (removePlacement tag) s
  modBay id (fun b => { b with state := .absent, table := none, reserved := 0 }) s

/-- R81: a bay's reported presence is compared with the recorded one, recorded, and acted on. -/
def bayReport (tag : Half) (present : Bool) (id : BayId) (s : State) : State :=
  let b := s.bay id
  let s := modBay id (fun b => { b with presence := if present then .present else .notPresent }) s
  if b.kind = .none then s
  else match b.presence, present with
    | .notPresent, true => modBay id Bay.inserted s
    | .present, false => removeMagazine tag id s
    | .unknown, true => modBay id (fun b => { b with state := .uncertain }) s
    | _, _ => s

/-- R81: a BAY-STATE report. -/
def takeBayState (w : Wire) (_ : Unit) (_cycle : Half) (s : State) : State :=
  allBays.foldl (fun s id => bayReport w.tag (Operand.present w.payload id) id s) s

def execBayState (w : Wire) (s : State) : Host.Outcome State Fault Refusal :=
  .next (walkReport Kind.bayState w Role.elevator? (takeBayState w) s)

/-! ### BAY-CONFIG and BAY-PRESET (R79, R80, R84) -/

/-- R79: the kind a BAY-CONFIG carries, and whether a value in it was clamped. -/
def configKind (p : Payload) : Option (BayKind × Bool) :=
  match (Operand.bayKind p).toNat with
  | 0 => some (.none, false)
  | 1 =>
    let slots := clampTo 1 120 (Operand.baySlots p)
    let pitch := clampTo 10 200 (Operand.bayPitch p)
    let moved := slots != Operand.baySlots p || pitch != Operand.bayPitch p
    if Operand.bayVariant p = 0 then none
    else if Operand.bayDir p = 0 then some (.normal (Operand.bayVariant p) slots pitch .up, moved)
    else if Operand.bayDir p = 1 then some (.normal (Operand.bayVariant p) slots pitch .down, moved)
    else none
  | 2 =>
    let capacity := clampTo 1 500 (Operand.bayCapacity p)
    some (.reject capacity, capacity != Operand.bayCapacity p)
  | _ => none

def BayKind.isReject : BayKind → Bool
  | .reject _ => true
  | _ => false

/-- R79: another bay is already REJECT. -/
def State.otherReject (s : State) (id : BayId) : Bool := allBays.any fun j => decide (j ≠ id) && (s.bay j).kind.isReject

/-- R79, R84: the bay has an open placement. -/
def Bay.inUse (b : Bay) : Bool :=
  decide (0 < b.reserved) ||
    match b.table with
    | some t => t.slots.any fun x => match x with | .reserved _ => true | _ => false
    | none => false

/-- R79, R80 -/
def requestBayConfig (p : Payload) (s : State) : State × Reply :=
  match Operand.bay p, configKind p with
  | some id, some (kind, moved) =>
    if kind.isReject = true ∧ s.otherReject id = true then refuse .state s
    else if (s.bay id).inUse then refuse .inUse s
    else
      let b := (s.bay id).configured kind
      (setBay id b s, (doneOr moved, [b.state.code]))
  | _, _ => refuse .badArgument s

def execBayConfig (w : Wire) (s : State) : Host.Outcome State Fault Refusal :=
  .next (walkRequest Kind.bayConfig w (requestBayConfig w.payload) s)

/-- R77: the most boards or slots a bay takes. -/
def BayKind.limit : BayKind → Nat
  | .normal _ slots _ _ => slots
  | .reject capacity => capacity
  | .none => 0

/-- R84: the bay with its magazine filled to a count, not yet judged FULL. -/
def Bay.preset (b : Bay) (c : Nat) : Bay :=
  match b.kind with
  | .normal _ slots _ dir =>
    let t : SlotTable := { slots := List.replicate slots .empty, cursor := c }
    { b with state := .ready, table := some (t.mark ((List.range c).map (slotAt dir slots)) (.occupied none)) }
  | .reject _ => { b with state := .ready, placed := c }
  | .none => b

/-- R84 -/
def requestBayPreset (tag : Half) (p : Payload) (s : State) : State × Reply :=
  match Operand.bay p with
  | none => refuse .badArgument s
  | some id =>
    let b := s.bay id
    if b.state = .inactive ∨ b.state = .absent then refuse .state s
    else if b.inUse then refuse .inUse s
    else
      let c := min (Operand.fillCount p) b.kind.limit
      let s := modBay id (fun b => b.preset c) s
      let s := if c = b.kind.limit then becomeFull tag id s else s
      (s, (doneOr (c != Operand.fillCount p), [(s.bay id).state.code]))

def execBayPreset (w : Wire) (s : State) : Host.Outcome State Fault Refusal :=
  .next (walkRequest Kind.bayPreset w (requestBayPreset w.tag w.payload) s)

/-! ### BAY-READ (R98) -/

/-- R98: the number of open placements in a bay. -/
def State.openIn (s : State) (id : BayId) : Nat := s.placements.countP fun p => p.dest.bay == id

def SlotTable.tally (t : SlotTable) (code : Byte) : Nat := t.slots.countP fun x => decide (x.code = code)

/-- R98: the counts of a bay's slots in each state, all 0 without a table. -/
def Bay.slotCounts (b : Bay) : List Byte :=
  match b.table with
  | some t => [0, 1, 2, 3].flatMap fun c => leBytes 1 (t.tally c)
  | none => leBytes 4 0

/-- R98, SUMMARY -/
def baySummary (s : State) (id : BayId) : List Byte :=
  let b := s.bay id
  [b.kind.code, b.state.code, b.presence.code] ++
    (match b.kind with
    | .normal variant slots pitch dir =>
      leBytes 1 variant ++ leBytes 1 slots ++ leBytes 1 pitch ++ [dir.code] ++
        leBytes 1 ((b.table.map SlotTable.cursor).getD 0) ++ b.slotCounts
    | .reject capacity => leBytes 2 capacity ++ leBytes 2 b.reserved ++ leBytes 2 b.placed
    | .none => []) ++ leBytes 1 (s.openIn id)

/-- R98, SLOT -/
def slotFields (s : State) (dir : FillDir) (t : SlotTable) (slot : Nat) : List Byte :=
  let x := t.slots.getD slot .empty
  [x.code] ++ leBytes 1 (slotAt dir t.slots.length slot) ++
    match x with
    | .empty | .skipped | .occupied none => 0 :: leBytes 2 0
    | .occupied (some r) => [1, nestCode r.nest] ++ leBytes 1 r.board ++ halfBytes r.serial
    | .reserved r =>
      1 :: refBytes r ++
        match s.placementOf r with
        | some p => halfBytes p.cycle ++ leBytes 2 (s.timeLeft (some p.deadline))
        | none => leBytes 4 0

/-- R98 -/
def requestBayRead (p : Payload) (s : State) : State × Reply :=
  match Operand.bay p with
  | none => refuse .badArgument s
  | some id =>
    match (Operand.part p).toNat with
    | 0 => (s, (.done, baySummary s id))
    | 1 =>
      match (s.bay id).kind with
      | .normal _ slots _ dir =>
        if slots ≤ Operand.selected p then refuse .badArgument s
        else match (s.bay id).table with
          | some t => (s, (.done, slotFields s dir t (Operand.selected p)))
          | none => refuse .state s
      | _ => refuse .state s
    | _ => refuse .badArgument s

def execBayRead (w : Wire) (s : State) : Host.Outcome State Fault Refusal :=
  .next (walkRequest Kind.bayRead w (requestBayRead w.payload) s)

end Sys2Proof.Machine
end

