-- ==== Sys2Proof/Machine/BitLife.lean ====
section
/-! DEFINITION. Bit-life accounting (chapter 6): LIFE-SET, WEAR-PRESET and BIT-CHANGE. The wear step stands in CutGate.lean. -/

namespace Sys2Proof.Machine

/-- R109: the fields of a LIFE-SET answer. -/
def lifeSetFields (i : LaneId) (l : Life) : List Byte :=
  [laneByte i] ++ leBytes 3 l.warn ++ leBytes 3 l.limit ++
    [l.behaviour.code, boolByte l.warned, boolByte l.reached, boolByte l.withheld, boolByte l.parkHold] ++ leBytes 3 l.remaining

/-- R108, step 3: LIMIT-LOCK forbids raising a level or changing the behaviour. -/
def Life.lockForbids (l : Life) (warn limit : Nat) (b : Behaviour) : Bool :=
  decide (b ≠ l.behaviour) || decide (l.limit < limit) || decide (l.warn < warn)

/-- R108, R109 -/
def requestLifeSet (tag : Half) (p : Payload) (s : State) : State × Reply :=
  match Operand.lane p, Operand.behaviour p with
  | some i, some b =>
    let limit := clampTo 1 Config.wearMax (Operand.lifeLimit p)
    let warn := min (clampTo 1 Config.wearMax (Operand.warnLevel p)) limit
    if s.line.limitLock = true ∧ (s.lane i).life.lockForbids warn limit b = true then refuse .locked s
    else
      let s' := rewear tag .limitWrite i (fun l => { l with warn := warn, limit := limit, behaviour := b }) s
      let moved := limit != Operand.lifeLimit p || warn != Operand.warnLevel p
      (s', (doneOr moved, lifeSetFields i (s'.lane i).life))
  | _, _ => refuse .badArgument s

def execLifeSet (w : Wire) (s : State) : Host.Outcome State Fault Refusal :=
  .next (walkRequest Kind.lifeSet w (requestLifeSet w.tag w.payload) s)

/-- R111: the fields of a WEAR-PRESET answer. -/
def presetFields (l : Life) : List Byte :=
  leBytes 3 l.wear ++ [boolByte l.warned, boolByte l.reached] ++ leBytes 3 l.remaining

/-- R111 -/
def requestWearPreset (tag : Half) (p : Payload) (s : State) : State × Reply :=
  match Operand.lane p with
  | none => refuse .badArgument s
  | some i =>
    let v := min (Operand.presetValue p) Config.wearMax
    if v < (s.lane i).life.wear then refuse .state s
    else
      let s' := rewear tag .preset i (fun l => { l with wear := v }) s
      (s', (doneOr (v != Operand.presetValue p), presetFields (s'.lane i).life))

def execWearPreset (w : Wire) (s : State) : Host.Outcome State Fault Refusal :=
  .next (walkRequest Kind.wearPreset w (requestWearPreset w.tag w.payload) s)

/-- R110, steps 2 to 6: a fresh bit. -/
def Lane.freshBit (l : Lane) (bit : Half) : Lane :=
  { l.withLife { l.life with bitId := bit, wear := 0, warned := false, reached := false } with bitChangeDue := false }

/-- R110 -/
def requestBitChange (p : Payload) (s : State) : State × Reply :=
  match Operand.lane p with
  | none => refuse .badArgument s
  | some i =>
    let l := s.lane i
    if l.spindle ≠ .stopped ∨ l.state = .cutting then refuse .state s
    else (setLane i (l.freshBit (Operand.bitId p)) s,
      (.done, halfBytes l.life.bitId ++ leBytes 3 l.life.wear ++ halfBytes (Operand.bitId p)))

def execBitChange (w : Wire) (s : State) : Host.Outcome State Fault Refusal :=
  .next (walkRequest Kind.bitChange w (requestBitChange w.payload) s)

end Sys2Proof.Machine
end

