-- ==== Sys2Proof/Machine/Custody.lean ====
section
/-! DEFINITION. The custody unit (chapter 4): GRIP, OPEN and LIFT items, grip reports, the jaw timers, PICKER-CLEAR. -/

namespace Sys2Proof.Machine

/-! ### GRIP (R62, R63) -/

/-- R62: the board a GRIP may close on, or the refusal. DEDUCED: a nest that is not LOADED gives NO-NEST while the work position
is MOVING or UNKNOWN, too (log 27). -/
def checkGrip (s : State) (p : PickerId) (nest : Byte) (board : Nat) : Except RefusalCode BoardRef :=
  match (s.picker p).state with
  | .jammed => .error .pickerFault
  | .closing | .holding | .opening => .error .pickerBusy
  | .empty =>
    match nestOfByte nest with
    | none => .error .noNest
    | some n =>
      if (s.nest n).state ≠ .loaded then .error .noNest
      else if s.table.nest? ≠ some n then .error .nestNotAtWork
      else match (s.nest n).boards[board]? with
        | none => .error .noBoard
        | some b =>
          if b.state = .attached ∧ b.picker = none then .ok { nest := n, board := board } else .error .boardState

/-- R63 -/
def closeJaws (p : PickerId) (r : BoardRef) (s : State) : State :=
  modBoard r (fun b => { b with picker := some p })
    (modPicker p (fun k => { k with state := .closing, board := some r, sentFor := some r,
                                    jawTimer := some (s.now + s.timing.jaw) }) s)

def judgeGrip (_cycle : Half) (it : Item) (p : PickerId) (s : State) : Verdict :=
  match checkGrip s p (Operand.nest it.payload) (Operand.index it.payload) with
  | .error c => .void c s []
  | .ok r => .pass (closeJaws p r s) it

def execGrip (w : Wire) (s : State) : Host.Outcome State Fault Refusal :=
  .next (walkGated Kind.grip w Role.picker? judgeGrip s)

/-! ### OPEN (R69, R70) -/

/-- R70, step 1: the board that is released. -/
def BoardRec.released (b : BoardRec) : BoardRec :=
  match b.state with
  | .held => { b with state := .attached }
  | .inTransit => { b with state := .placing }
  | _ => b

/-- R92: an OPEN has made the board PLACING; a placement sensed early completes at once. -/
def completeSensed (tag : Half) (r : BoardRef) (s : State) : State :=
  match s.placementOf r with
  | some p =>
    match p.sensed with
    | some cycle => if s.boardStateAt r = .placing then completePlacement tag p cycle s else s
    | none => s
  | none => s

/-- R70: the OPEN is carried out. -/
def openPicker (tag : Half) (p : PickerId) (s : State) : State :=
  let held := (s.picker p).board
  let s := match held with
    | some r => modBoard r BoardRec.released s
    | none => s
  let s := unbind p s
  let s := modPicker p (fun k => { k.enter .opening with jawTimer := some (s.now + s.timing.jaw) }) s
  match held with
  | some r => completeSensed tag r s
  | none => s

/-- R69: the refusal of an OPEN, if there is one. -/
def checkOpen (s : State) (p : PickerId) : Option RefusalCode :=
  let k := s.picker p
  match k.state with
  | .jammed => some .pickerFault
  | .holding =>
    match k.board.bind s.boardAt with
    | some b =>
      match b.state with
      | .held => if b.uncut < b.hold then some .holdRequired else none
      | .freed => some .notPlaced
      | .inTransit => if b.dest.isNone then some .noDestination else none
      | _ => none
    | none => none
  | _ => none

def judgeOpen (_cycle : Half) (it : Item) (p : PickerId) (s : State) : Verdict :=
  match checkOpen s p with
  | some c => .void c s []
  | none =>
    match (s.picker p).state with
    | .closing | .holding => .pass (openPicker it.tag p s) it
    | _ => .pass s it

def execOpenJaws (w : Wire) (s : State) : Host.Outcome State Fault Refusal :=
  .next (walkGated Kind.openJaws w Role.picker? judgeOpen s)

/-! ### LIFT (R71) -/

/-- R71: the board a LIFT raises, or the refusal. -/
def checkLift (s : State) (p : PickerId) : Except RefusalCode BoardRef :=
  if s.line.state ≠ .running then .error .halted
  else match (s.picker p).state with
    | .jammed => .error .pickerFault
    | .empty | .closing | .opening => .error .pickerEmpty
    | .holding =>
      match (s.picker p).board with
      | some r => if (s.boardAt r).map BoardRec.state = some .freed then .ok r else .error .notFreed
      | none => .error .notFreed

def judgeLift (_cycle : Half) (it : Item) (p : PickerId) (s : State) : Verdict :=
  match checkLift s p with
  | .error c => .void c s []
  | .ok r => .pass (modBoard r (fun b => { b with state := .inTransit }) s) it

def execLift (w : Wire) (s : State) : Host.Outcome State Fault Refusal :=
  .next (walkGated Kind.lift w Role.picker? judgeLift s)

/-! ### GRIP-STATE reports (R64 to R68) -/

/-- The picker becomes EMPTY with its jaw timer stopped. -/
def emptyPicker (p : PickerId) (s : State) : State :=
  modPicker p (fun k => { k.enter .empty with jawTimer := none }) s

/-- R65: a report for a picker in CLOSING. -/
def closingReport (tag : Half) (p : PickerId) (cycle : Half) (jaws : Jaws) (sensed : Bool) (s : State) : State :=
  let k := s.picker p
  match jaws, k.board with
  | .opened, _ => s
  | .closed, some r =>
    if sensed then
      modBoard r (fun b => { b with state := .held }) (modPicker p (fun k => { k.enter .holding with jawTimer := none }) s)
    else post tag (.gripFailed p r .notSensed (some cycle)) (emptyPicker p (unbind p s))
  | .closed, none =>
    match k.sentFor with
    | some r => post tag (.gripFailed p r .boardLost (some cycle)) (emptyPicker p s)
    | none => emptyPicker p s

/-- R67, step 3: the run reserved under a lost board's destination is SKIPPED and its record closed (R90). -/
def dropReservation (r : BoardRef) (s : State) : State :=
  match s.placementOf r with
  | some p => modBay p.dest.bay (fun b => b.releaseRun p.dest) (closePlacement r s)
  | none => s

/-- R66, R67: a grip loss. -/
def gripLoss (tag : Half) (p : PickerId) (cycle : Half) (r : BoardRef) (b : BoardRec) (s : State) : State :=
  match b.state with
  | .held =>
    let s := emptyPicker p (unbind p (modBoard r (fun b => { b with state := .attached }) s))
    let s := if b.uncut < b.hold then
        abortBound (fun x => decide (s.boardOfTab x.nest x.tab = r)) s
      else s
    post tag (.gripLost p r .attached cycle) s
  | .freed | .inTransit =>
    let s := emptyPicker p (unbind p (modBoard r (fun b => { b with state := .lost }) s))
    settleNest tag r.nest (post tag (.gripLost p r .lost cycle) (dropReservation r s))
  | _ => s

/-- R66: a report for a picker in HOLDING. -/
def holdingReport (tag : Half) (p : PickerId) (cycle : Half) (jaws : Jaws) (sensed : Bool) (s : State) : State :=
  if jaws = .closed ∧ sensed = true then s
  else match (s.picker p).board with
    | some r =>
      match s.boardAt r with
      | some b => gripLoss tag p cycle r b s
      | none => s
    | none => s

/-- R64: a GRIP-STATE report. -/
def takeGripState (w : Wire) (p : PickerId) (cycle : Half) (s : State) : State :=
  match Operand.gripJaws w.payload, Operand.gripSensed w.payload with
  | some jaws, some sensed =>
    let before := s.picker p
    let s := modPicker p (fun k => { k with lastJaws := some jaws, lastSensed := some sensed }) s
    match before.state with
    | .empty =>
      if jaws = .closed ∧ sensed = true ∧ ¬(before.lastJaws = some .closed ∧ before.lastSensed = some true) then
        post w.tag (.gripUntracked p cycle) s
      else s
    | .closing => closingReport w.tag p cycle jaws sensed s
    | .holding => holdingReport w.tag p cycle jaws sensed s
    | .opening => if jaws = .opened then emptyPicker p s else s
    | .jammed => s
  | _, _ => badReport Kind.gripState w s

def execGripState (w : Wire) (s : State) : Host.Outcome State Fault Refusal :=
  .next (walkReport Kind.gripState w Role.picker? (takeGripState w) s)

/-! ### The jaw timer (R73) and PICKER-CLEAR (R74) -/

/-- R73 -/
def jawExpired (p : PickerId) (s : State) : State :=
  let k := s.picker p
  match k.state with
  | .closing =>
    let s := emptyPicker p (unbind p s)
    match k.sentFor with
    | some r => post 0 (.gripFailed p r .timeout none) s
    | none => s
  | .opening =>
    post 0 (.pickerJammed p k.lastJaws k.lastSensed) (modPicker p (fun k => { k.enter .jammed with jawTimer := none }) s)
  | _ => modPicker p (fun k => { k with jawTimer := none }) s

def execJawTimerExpiry (picker : PickerId) (s : State) : Host.Outcome State Fault Refusal :=
  .next (expire (s.picker picker).jawTimer (jawExpired picker) s)

/-- R74: the fields of a PICKER-CLEAR answer. -/
def Picker.clearFields (k : Picker) : List Byte :=
  [k.state.code] ++ (match k.board with | some r => 1 :: refBytes r | none => 0 :: leBytes 2 0) ++
    optBytes 1 (k.lastJaws.map Jaws.num) ++ optBytes 1 (k.lastSensed.map boolNat)

/-- R74 -/
def requestPickerClear (p : Payload) (s : State) : State × Reply :=
  match Operand.picker p with
  | none => refuse .badArgument s
  | some i =>
    let k := s.picker i
    match k.state with
    | .jammed =>
      if k.lastJaws = some .opened ∧ k.lastSensed = some false then
        (setPicker i (k.enter .empty) s, (.done, (k.enter .empty).clearFields))
      else (s, (.state, k.clearFields))
    | .empty => (s, (.done, k.clearFields))
    | _ => (s, (.state, k.clearFields))

def execPickerClear (w : Wire) (s : State) : Host.Outcome State Fault Refusal :=
  .next (walkRequest Kind.pickerClear w (requestPickerClear w.payload) s)

end Sys2Proof.Machine
end

