-- ==== Sys2Proof/Machine/CutGate.lean ====
section
/-! DEFINITION. The cut gate (chapter 3): CUT items, cut reports and the cut timer. -/

namespace Sys2Proof.Machine

/-! ### Judging a CUT item (R39 to R41) -/

/-- What an admitted CUT names: its nest, tab record and board record. -/
structure CutTarget where
  nest : Nest
  tab : TabRec
  board : BoardRec
  deriving DecidableEq, Repr

/-- R41: the board need not be held, or is. -/
def holdRule (b : BoardRec) : Bool := decide (b.hold ≤ b.uncut - 1) || decide (b.state = .held)

/-- R40, R41: checks 6 to 9, on the tab and its board. -/
def checkTab (r : NestRec) (n : Nest) (tab : Nat) : Except RefusalCode CutTarget :=
  match r.tabs[tab]? with
  | none => .error .noTab
  | some t =>
    if t.state ≠ .intact ∧ t.state ≠ .faulted then .error .tabNotIntact
    else match r.boards[t.board]? with
      | none => .error .boardState
      | some b =>
        if b.state ≠ .attached ∧ b.state ≠ .held then .error .boardState
        else if holdRule b = false then .error .holdRequired
        else .ok { nest := n, tab := t, board := b }

/-- R40: check 5, on the nest, and then checks 6 to 9. -/
def checkNest (s : State) (nest : Byte) (tab : Nat) : Except RefusalCode CutTarget :=
  match nestOfByte nest with
  | none => .error .noNest
  | some n =>
    if (s.nest n).state ≠ .loaded then .error .noNest
    else if s.table.nest? ≠ some n then .error .nestNotAtWork
    else if (s.nest n).vacuumFlag then .error .nestFault
    else checkTab (s.nest n) n tab

/-- R39: checks 1 to 4, on the line, the lane and its spindle. -/
def checkLane (s : State) (l : Lane) : Option RefusalCode :=
  if s.line.state ≠ .running then some .halted
  else if l.state = .inactive then some .laneInactive
  else if l.state = .error ∨ l.state = .recovering then some .laneFault
  else if l.state = .parked ∨ l.life.withheld = true ∨ l.bitChangeDue = true then some .laneWithheld
  else if l.state = .cutting then some .laneBusy
  else if l.spindle ≠ .atSpeed then some .spinBlocked
  else none

/-- R39 to R41: the nine admission checks in order. -/
def checkCut (s : State) (i : LaneId) (p : Payload) : Except RefusalCode CutTarget :=
  match checkLane s (s.lane i) with
  | some c => .error c
  | none => checkNest s (Operand.nest p) (Operand.index p)

/-! ### Admission (R43, R44) -/

/-- R44: the feed clamp. -/
def appliedFeed (requested override : Nat) (cap : Option Nat) : Nat :=
  let scaled := clampTo 1 200 requested * override / 100
  max 1 (match cap with | some c => min c scaled | none => scaled)

/-- R13: a tab's feed cap, read from the recipe slot the nest was loaded from. -/
def State.feedCap (s : State) (n : Nest) (tab : Nat) : Option Nat :=
  match (s.recipe (s.nest n).slot).tabs[tab]? with
  | some (some t) => t.cap
  | _ => none

/-- R43, steps 1 to 5. -/
def admitCut (i : LaneId) (t : CutTarget) (tab feed : Nat) (path cycle : Half) (s : State) : State :=
  let s := modTab t.nest tab (fun r => { r with state := .cutting, lane := some i }) s
  let s := modBoard { nest := t.nest, board := t.tab.board } (fun b => { b with uncut := b.uncut - 1 }) s
  modLane i (fun l => { l with
    state := .cutting, cutTimer := some (s.now + l.cutTimeout),
    binding := some { nest := t.nest, tab := tab, feed := feed, path := path, cycle := cycle, govAbort := false } }) s

/-- R39 to R44: the verdict on a CUT item for a lane. -/
def judgeCut (cycle : Half) (it : Item) (i : LaneId) (s : State) : Verdict :=
  let tab := Operand.index it.payload
  match checkCut s i it.payload with
  | .error c => .void c s []
  | .ok t =>
    let feed := appliedFeed (Operand.cutFeed it.payload) (s.lane i).gov.override (s.feedCap t.nest tab)
    .pass (admitCut i t tab feed (Operand.cutPath it.payload) cycle s) (withFeed it feed)

def execCut (w : Wire) (s : State) : Host.Outcome State Fault Refusal :=
  .next (walkGated Kind.cut w Role.lane? judgeCut s)

/-! ### Outcomes (R46 to R53) -/

/-- R47: every tab of the board's tab list is CUT. -/
def NestRec.allCut (r : NestRec) (b : BoardRec) : Bool :=
  b.tabs.all fun t => decide ((r.tabs[t]?).map TabRec.state = some .cut)

/-- R48: a board cut free while unheld drops a picker that was CLOSING on it. -/
def dropClosing (b : BoardRec) (s : State) : State :=
  match b.picker with
  | some p => if (s.picker p).state = .closing then unbind p s else s
  | none => s

/-- R48: the board comes off the frame. -/
def freeBoard (tag : Half) (r : BoardRef) (tab : Nat) (i : LaneId) (cycle : Half) (b : BoardRec) (s : State) : State :=
  match b.state with
  | .held => modBoard r (fun b => { b with state := .freed, freedAt := some cycle }) s
  | .attached =>
    let s := dropClosing b s
    let s := modBoard r (fun b => { b with state := .lost, freedAt := some cycle }) s
    settleNest tag r.nest (post tag (.boardDropped r tab i cycle) s)
  | _ => s

/-- R51: a board whose cut ends with governor abort yes is suspect. -/
def markSuspect (r : BoardRef) (yes : Bool) (s : State) : State :=
  if yes then modBoard r (fun b => { b with suspect := true }) s else s

/-- R52: the cut ends. -/
def endCut (i : LaneId) (matched : Bool) (s : State) : State := modLane i (fun l => l.endCut s.now matched) s

/-- R47: a matched COMPLETE. -/
def cutComplete (tag cycle : Half) (i : LaneId) (b : Binding) (s : State) : State :=
  let r := s.boardOfTab b.nest b.tab
  let s := modTab b.nest b.tab (fun t => { t with state := .cut, lane := none, cutAt := some cycle }) s
  let s := markSuspect r b.govAbort s
  let s := match s.boardAt r with
    | some x => if (s.nest b.nest).allCut x then freeBoard tag r b.tab i cycle x s else s
    | none => s
  endCut i true s

/-- R49, R50, R54: the tab is FAULTED and holds its board again. -/
def faultTab (n : Nest) (tab : Nat) (countIt : Bool) (s : State) : State :=
  let r := s.boardOfTab n tab
  let s := modTab n tab (fun t =>
    { t with state := .faulted, lane := none, faults := if countIt then min 255 (t.faults + 1) else t.faults }) s
  modBoard r (fun b => { b with uncut := b.uncut + 1 }) s

/-- R49: a matched ABORTED. -/
def cutAborted (i : LaneId) (b : Binding) (s : State) : State :=
  endCut i true (markSuspect (s.boardOfTab b.nest b.tab) b.govAbort (faultTab b.nest b.tab true s))

/-- R50: a matched BIT-BROKEN. -/
def cutBroke (tag : Half) (i : LaneId) (b : Binding) (s : State) : State :=
  endCut i true (raiseCause tag i .bitBroken (markSuspect (s.boardOfTab b.nest b.tab) true (faultTab b.nest b.tab false s)))

/-- R46: the binding and outcome a report matches, if it does. -/
def matchCut (l : Lane) (p : Payload) : Option (Binding × CutOutcome) :=
  match l.state, l.binding, outcomeOfByte (Operand.cutOutcome p) with
  | .cutting, some b, some o =>
    if nestOfByte (Operand.nest p) = some b.nest ∧ Operand.index p = b.tab then some (b, o) else none
  | _, _, _ => none

/-- R101: the wear increment. -/
def wearIncrement (length load : Nat) : Nat := (length * (64 + min load 200) + 64) / 128

/-- R46, step 1, and R101: the wear step. -/
def wearStep (tag : Half) (i : LaneId) (p : Payload) (s : State) : State :=
  rewear tag .report i (fun l =>
    { l with wear := min Config.wearMax (l.wear + wearIncrement (Operand.cutLength p) (Operand.cutLoad p)) }) s

/-- R46, R53: a CUT-DONE from a lane. -/
def takeCutDone (w : Wire) (i : LaneId) (cycle : Half) (s : State) : State :=
  let s := wearStep w.tag i w.payload s
  match matchCut (s.lane i) w.payload with
  | some (b, .complete) => cutComplete w.tag cycle i b s
  | some (b, .aborted) => cutAborted i b s
  | some (b, .bitBroken) => cutBroke w.tag i b s
  | none =>
    post w.tag (.lateReport i (Operand.nest w.payload) (payloadByte w.payload 5) (Operand.cutOutcome w.payload) cycle) s

def execCutDone (w : Wire) (s : State) : Host.Outcome State Fault Refusal :=
  .next (walkReport Kind.cutDone w Role.lane? (takeCutDone w) s)

/-! ### The cut timer (R54) -/

/-- R54: the lane's cut timer has run out. -/
def cutTimedOut (i : LaneId) (s : State) : State :=
  match (s.lane i).binding with
  | none => modLane i (fun l => { l with cutTimer := none }) s
  | some b =>
    let s := markSuspect (s.boardOfTab b.nest b.tab) b.govAbort (faultTab b.nest b.tab false s)
    endCut i false (giveAbort i (raiseCause 0 i .cutTimeout s))

def execCutTimerExpiry (lane : LaneId) (s : State) : Host.Outcome State Fault Refusal :=
  .next (expire (s.lane lane).cutTimer (cutTimedOut lane) s)

end Sys2Proof.Machine
end

