-- ==== Sys2Proof/Machine/Lanes.lean ====
section
/-! DEFINITION. The lane supervisor (chapter 7): SPIN and FEED items, lane reports, the governor, recovery, and the lane requests. -/

namespace Sys2Proof.Machine

/-! ### SPIN and FEED items -/

/-- R117: the refusal of a SPIN start, if there is one. -/
def checkStart (s : State) (l : Lane) : Option RefusalCode :=
  if s.line.state ≠ .running then some .halted
  else if l.state = .inactive then some .laneInactive
  else if l.state = .error ∨ l.state = .recovering then some .laneFault
  else if l.state = .parked then some .laneWithheld
  else if l.state = .cutting then some .laneBusy
  else none

/-- R117: a forwarded start. -/
def startSpindle (i : LaneId) (speed : Nat) (s : State) : State :=
  modLane i (fun l => { l with spindle := .runningUp, commanded := some speed, spinDownTimer := none }) s

def judgeStart (_cycle : Half) (it : Item) (i : LaneId) (s : State) : Verdict :=
  match checkStart s (s.lane i) with
  | some c => .void c s []
  | none =>
    let speed := clampTo 10 600 (Operand.spinSpeed it.payload)
    .pass (startSpindle i speed s) (if speed = Operand.spinSpeed it.payload then it else withSpeed it speed)

/-- R117: a SPIN item with a speed above 0. -/
def execSpinStart (w : Wire) (s : State) : Host.Outcome State Fault Refusal :=
  .next (if Operand.spinSpeed w.payload = 0 then s else walkGated Kind.spin w Role.lane? judgeStart s)

def judgeStop (_cycle : Half) (it : Item) (i : LaneId) (s : State) : Verdict := .pass (stopSpindle i s) it

/-- R118: a SPIN item with speed 0. -/
def execSpinStop (w : Wire) (s : State) : Host.Outcome State Fault Refusal :=
  .next (if Operand.spinSpeed w.payload = 0 then walkGated Kind.spin w Role.lane? judgeStop s else s)

/-- R123: the percent a FEED item is forwarded with. -/
def forwardedPercent (percent override : Nat) : Nat := max 1 (clampTo 1 100 percent * override / 100)

def judgeFeed (_cycle : Half) (it : Item) (i : LaneId) (s : State) : Verdict :=
  .pass (modLane i (fun l => { l with pend := { l.pend with feed := none } }) s)
    (withPercent it (forwardedPercent (Operand.feedPercent it.payload) (s.lane i).gov.override))

def execFeed (w : Wire) (s : State) : Host.Outcome State Fault Refusal :=
  .next (walkGated Kind.feed w Role.lane? judgeFeed s)

/-! ### Lane reports (R116 to R122) -/

/-- R117, R118: the spindle judged on a reported speed. -/
def Lane.spindleReport (l : Lane) (speed : Nat) : Lane :=
  match l.spindle with
  | .runningUp => if (l.commanded.getD 0) * 95 ≤ speed * 100 then { l with spindle := .atSpeed } else l
  | .spinningDown => if speed ≤ 5 then { l with spindle := .stopped, spinDownTimer := none } else l
  | _ => l

/-- R119, steps 1 to 3: the over-run start after a reported load, and whether the lane is over. -/
def Governor.overRunAfter (g : Governor) (now load : Nat) : Option Nat × Bool :=
  if load ≤ g.effectiveLimit then (none, false)
  else match g.overRun with
    | none => (some now, false)
    | some t => if g.mask ≤ now - t then (none, true) else (some t, false)

/-- R120, R122: the lane is found over. -/
def laneOver (tag : Half) (i : LaneId) (s : State) : State :=
  let l := s.lane i
  if l.gov.state = .normal ∧ l.gov.mode = .yield then
    setLane i (l.withGov { l.gov with state := .stepped, override := 85, coolTimer := some (s.now + l.gov.coolDown) }) s
  else raiseCause tag i .overload s

/-- R119: the governor judges a reported load; in STEPPED the cool-down alone decides. -/
def govern (tag : Half) (i : LaneId) (load : Nat) (s : State) : State :=
  let g := (s.lane i).gov
  if g.state = .stepped then s
  else
    let r := g.overRunAfter s.now load
    let s := modLane i (fun l => { l with gov := { l.gov with overRun := r.1 } }) s
    if r.2 then laneOver tag i s else s

/-- R116: a LANE-STATE report. -/
def takeLaneState (w : Wire) (i : LaneId) (_cycle : Half) (s : State) : State :=
  match Operand.reportFault w.payload with
  | none => badReport Kind.laneState w s
  | some fault =>
    let speed := Operand.reportSpeed w.payload
    let load := Operand.reportLoad w.payload
    let s := modLane i (fun l => { l with lastSpeed := some speed, lastLoad := some load, lastFault := some fault }) s
    if (s.lane i).state = .inactive then s
    else
      let s := modLane i (fun l => l.spindleReport speed) s
      let s := if fault then raiseCause w.tag i .driveFault s else s
      govern w.tag i load s

def execLaneState (w : Wire) (s : State) : Host.Outcome State Fault Refusal :=
  .next (walkReport Kind.laneState w Role.lane? (takeLaneState w) s)

/-! ### Timers -/

/-- R118: the spin-down timer has run out. -/
def spinDownExpired (i : LaneId) (s : State) : State :=
  let s := modLane i (fun l => { l with spinDownTimer := none }) s
  if (s.lane i).spindle = .spinningDown then raiseCause 0 i .spindown s else s

def execSpinDownTimerExpiry (lane : LaneId) (s : State) : Host.Outcome State Fault Refusal :=
  .next (expire (s.lane lane).spinDownTimer (spinDownExpired lane) s)

/-- R126: the auto wait has run out. -/
def recoveryExpired (i : LaneId) (s : State) : State :=
  let l := s.lane i
  if l.state = .recovering then
    if l.clearable = true ∧ l.causes.latching = false then
      post 0 (.laneRestored i l.restored.state) (setLane i l.restored s)
    else setLane i { l with recoveryTimer := some (s.now + l.autoWait) } s
  else setLane i { l with recoveryTimer := none } s

def execRecoveryTimerExpiry (lane : LaneId) (s : State) : Host.Outcome State Fault Refusal :=
  .next (expire (s.lane lane).recoveryTimer (recoveryExpired lane) s)

/-- R121: the rung below on the ladder of overrides. -/
def rungBelow (override : Nat) : Nat :=
  if override = 85 then 70 else if override = 70 then 55 else if override = 55 then 40 else 25

/-- R121, R122: the governor after its cool-down has run out. -/
def Governor.cooled (g : Governor) (now : Nat) (load : Option Nat) : Governor :=
  if g.effectiveLimit < load.getD 0 then
    if g.override = 25 then
      { g with state := .fallback, override := 100, coolTimer := none, restoreTimer := some (now + g.restore), overRun := none }
    else { g with override := rungBelow g.override, coolTimer := some (now + g.coolDown) }
  else if g.backDown load then { g with state := .normal, override := 100, coolTimer := none }
  else { g with coolTimer := some (now + g.coolDown) }

def coolDownExpired (i : LaneId) (s : State) : State :=
  let l := s.lane i
  if l.gov.state = .stepped then setLane i (l.withGov (l.gov.cooled s.now l.lastLoad)) s
  else setLane i { l with gov := { l.gov with coolTimer := none } } s

def execCoolDownTimerExpiry (lane : LaneId) (s : State) : Host.Outcome State Fault Refusal :=
  .next (expire (s.lane lane).gov.coolTimer (coolDownExpired lane) s)

/-- R122: the governor after its restore timer has run out. -/
def Governor.restoredBy (g : Governor) (now : Nat) (load : Option Nat) : Governor :=
  if g.backDown load then { g with state := .normal, restoreTimer := none }
  else { g with restoreTimer := some (now + g.restore) }

def restoreExpired (i : LaneId) (s : State) : State :=
  let l := s.lane i
  if l.gov.state = .fallback then setLane i { l with gov := l.gov.restoredBy s.now l.lastLoad } s
  else setLane i { l with gov := { l.gov with restoreTimer := none } } s

def execRestoreTimerExpiry (lane : LaneId) (s : State) : Host.Outcome State Fault Refusal :=
  .next (expire (s.lane lane).gov.restoreTimer (restoreExpired lane) s)

/-! ### Lane requests -/

/-- R129: the activation is no and the lane may not be deactivated. -/
def Lane.keepsActive (l : Lane) : Bool :=
  !(decide (l.state = .inactive) ||
    ((decide (l.state = .ready) || decide (l.state = .parked)) && decide (l.spindle = .stopped)))

/-- R129, steps 1 to 3, on values already clamped. -/
def Lane.configured (l : Lane) (now : Nat) (active : Bool) (cutT spinT wait : Nat) (mode : RecoveryMode) : Lane :=
  let l := { l with cutTimeout := cutT, spinDownTimeout := spinT, autoWait := wait, recoveryMode := mode }
  let l :=
    if l.state = .error ∧ mode = .auto ∧ l.causes.latching = false then
      { l with state := .recovering, recoveryTimer := some (now + wait) }
    else if l.state = .recovering ∧ mode = .latch then { l with state := .error, recoveryTimer := none }
    else l
  if active then (if l.state = .inactive then l.toReady else l) else { l with state := .inactive }

/-- R129: the fields of a LANE-CONFIG answer. -/
def Lane.configFields (l : Lane) : List Byte :=
  [boolByte (decide (l.state ≠ .inactive))] ++ leBytes 2 l.cutTimeout ++ leBytes 2 l.spinDownTimeout ++
    [l.recoveryMode.code] ++ leBytes 2 l.autoWait ++ [l.state.code]

/-- R129 -/
def requestLaneConfig (p : Payload) (s : State) : State × Reply :=
  match Operand.lane p, Operand.activation p, Operand.recoveryMode p with
  | some i, some active, some mode =>
    let l := s.lane i
    if s.line.limitLock = true ∧ mode ≠ l.recoveryMode then refuse .locked s
    else if active = false ∧ l.keepsActive = true then refuse .state s
    else
      let cutT := clampTo 100 60000 (Operand.cutTimeout p)
      let spinT := clampTo 500 20000 (Operand.spinDownTimeout p)
      let wait := clampTo 100 60000 (Operand.autoWait p)
      let l' := l.configured s.now active cutT spinT wait mode
      let moved := cutT != Operand.cutTimeout p || spinT != Operand.spinDownTimeout p || wait != Operand.autoWait p
      (setLane i l' s, (doneOr moved, l'.configFields))
  | _, _, _ => refuse .badArgument s

def execLaneConfig (w : Wire) (s : State) : Host.Outcome State Fault Refusal :=
  .next (walkRequest Kind.laneConfig w (requestLaneConfig w.payload) s)

/-- R130: the governor with new settings; a change of mode puts it in NORMAL. -/
def Governor.configured (g : Governor) (mode : GovMode) (level mask cool restore : Nat) : Governor :=
  let g' := { g with mode := mode, level := level, mask := mask, coolDown := cool, restore := restore }
  if mode = g.mode then g'
  else { g' with state := .normal, override := 100, overRun := none, coolTimer := none, restoreTimer := none }

/-- R130: the fields of a GOVERNOR-SET answer. -/
def Governor.configFields (g : Governor) : List Byte :=
  [g.mode.code] ++ leBytes 1 g.level ++ leBytes 2 g.mask ++ leBytes 2 g.coolDown ++ leBytes 2 g.restore ++
    [g.state.code] ++ leBytes 1 g.override ++ leBytes 1 g.effectiveLimit

/-- R130 -/
def requestGovernorSet (p : Payload) (s : State) : State × Reply :=
  match Operand.lane p, Operand.govMode p with
  | some i, some mode =>
    let l := s.lane i
    let level := Operand.govLevel p
    if 7 < level then refuse .badArgument s
    else if s.line.limitLock = true ∧ (mode ≠ l.gov.mode ∨ l.gov.level < level) then refuse .locked s
    else
      let mask := clampTo 5 500 (Operand.loadMask p)
      let cool := clampTo 100 10000 (Operand.coolDown p)
      let restore := clampTo 500 60000 (Operand.restore p)
      let l' := l.withGov (l.gov.configured mode level mask cool restore)
      let moved := mask != Operand.loadMask p || cool != Operand.coolDown p || restore != Operand.restore p
      (setLane i l' s, (doneOr moved, l'.gov.configFields))
  | _, _ => refuse .badArgument s

def execGovernorSet (w : Wire) (s : State) : Host.Outcome State Fault Refusal :=
  .next (walkRequest Kind.governorSet w (requestGovernorSet w.payload) s)

/-- R127: the fields of a LANE-CLEAR answer. -/
def Lane.clearFields (l : Lane) : List Byte := [l.state.code, l.causes.byte]

/-- R127 -/
def requestLaneClear (p : Payload) (s : State) : State × Reply :=
  match Operand.lane p with
  | none => refuse .badArgument s
  | some i =>
    let l := s.lane i
    match l.state with
    | .error | .recovering =>
      if l.clearable then (setLane i l.restored s, (.done, l.restored.clearFields)) else (s, (.stillFaulted, l.clearFields))
    | .cutting => (s, (.state, l.clearFields))
    | _ => (s, (.done, l.clearFields))

def execLaneClear (w : Wire) (s : State) : Host.Outcome State Fault Refusal :=
  .next (walkRequest Kind.laneClear w (requestLaneClear w.payload) s)

/-- R131, RUNTIME -/
def runtimeFields (s : State) (l : Lane) : List Byte :=
  [l.state.code, l.spindle.code] ++ optBytes 2 l.commanded ++ optBytes 2 l.lastSpeed ++ optBytes 1 l.lastLoad ++
    optBytes 1 (l.lastFault.map boolNat) ++ [l.causes.byte, boolByte l.bitChangeDue, l.recoveryMode.code] ++
    leBytes 2 l.autoWait ++ leBytes 2 (s.timeLeft l.recoveryTimer) ++ leBytes 2 (s.timeLeft l.spinDownTimer) ++
    [boolByte l.pend.abort, boolByte l.pend.stop] ++ optBytes 1 l.pend.feed

/-- R131, GOVERNOR -/
def governorFields (s : State) (g : Governor) : List Byte :=
  [g.mode.code] ++ leBytes 1 g.level ++ leBytes 1 (levelPercent g.level) ++ leBytes 1 g.effectiveLimit ++ [g.state.code] ++
    leBytes 1 g.override ++ leBytes 2 g.mask ++ leBytes 2 g.coolDown ++ leBytes 2 g.restore ++
    leBytes 2 (s.timeLeft (g.coolTimer.or g.restoreTimer))

/-- R36: the binding's fields, or absent. -/
def bindingFields : Option Binding → List Byte
  | none => 0 :: leBytes 8 0
  | some b => [1, nestCode b.nest] ++ leBytes 1 b.tab ++ leBytes 1 b.feed ++ halfBytes b.path ++ halfBytes b.cycle ++
      [boolByte b.govAbort]

/-- R131, CUT -/
def cutFields (s : State) (l : Lane) : List Byte :=
  leBytes 2 l.cutTimeout ++ bindingFields l.binding ++ leBytes 2 (s.timeLeft l.cutTimer)

/-- R131, LIFE: the fields of R112. -/
def lifeFields (l : Life) : List Byte :=
  halfBytes l.bitId ++ leBytes 3 l.wear ++ leBytes 3 l.warn ++ leBytes 3 l.limit ++
    [l.behaviour.code, boolByte l.warned, boolByte l.reached, boolByte l.withheld, boolByte l.parkHold] ++ leBytes 3 l.remaining

/-- R131 -/
def requestLaneRead (p : Payload) (s : State) : State × Reply :=
  match Operand.lane p with
  | none => refuse .badArgument s
  | some i =>
    let l := s.lane i
    match (Operand.part p).toNat with
    | 0 => (s, (.done, runtimeFields s l))
    | 1 => (s, (.done, governorFields s l.gov))
    | 2 => (s, (.done, cutFields s l))
    | 3 => (s, (.done, lifeFields l.life))
    | _ => refuse .badArgument s

def execLaneRead (w : Wire) (s : State) : Host.Outcome State Fault Refusal :=
  .next (walkRequest Kind.laneRead w (requestLaneRead w.payload) s)

end Sys2Proof.Machine
end

