-- ==== Sys2Proof/Machine/Nests.lean ====
section
/-! DEFINITION. Nest records and the shuttle table (chapter 2): SHUTTLE items, TABLE-STATE reports, loading, unloading, clearing and reading. -/

namespace Sys2Proof.Machine

/-! ### SHUTTLE (R28, R29) -/

def judgeShuttle (_cycle : Half) (it : Item) (_ : Unit) (s : State) : Verdict :=
  if s.line.state ≠ .running then .void .halted s []
  else if s.table.nest?.any s.engaged then .void .shuttleBlocked s []
  else .pass { s with table := .moving } it

def execShuttle (w : Wire) (s : State) : Host.Outcome State Fault Refusal :=
  .next (walkGated Kind.shuttle w Role.table? judgeShuttle s)

/-! ### TABLE-STATE (R26, R27, R30, R31) -/

/-- R30: the nest is watched. -/
def NestRec.watched (r : NestRec) : Bool :=
  decide (r.state = .loaded) && !r.vacuumFlag &&
    r.boards.any fun b => decide (b.state = .attached) || decide (b.state = .held)

/-- R31: the nest takes the VACUUM flag. -/
def takeVacuumFlag (tag : Half) (n : Nest) (vacuum limit : Nat) (s : State) : State :=
  let s := modNest n (fun r => { r with vacuumFlag := true, lowRun := none }) s
  let s := abortBound (fun b => decide (b.nest = n)) s
  post tag (.nestFault n vacuum limit) s

/-- R30: the vacuum keep-out judges a nest on its last vacuum. -/
def keepOut (tag : Half) (n : Nest) (s : State) : State :=
  let r := s.nest n
  let limit := s.timing.vacLimit.get n
  match r.lastVacuum with
  | none => s
  | some v =>
    if r.watched = false ∨ limit ≤ v then setNest n { r with lowRun := none } s
    else match r.lowRun with
      | none => setNest n { r with lowRun := some s.now } s
      | some t => if s.timing.vacMask.get n ≤ s.now - t then takeVacuumFlag tag n v limit s else s

/-- R26, step 3, and R27: the work position is updated; an unexpected departure aborts the cuts of the nest that left. -/
def movePosition (tag cycle : Half) (pos : WorkPos) (s : State) : State :=
  let old := s.table
  let s := { s with table := pos }
  match old.nest? with
  | none => s
  | some n =>
    if pos ≠ old ∧ s.engaged n = true then
      post tag (.tableMoved n pos cycle) (abortBound (fun b => decide (b.nest = n)) s)
    else s

/-- R26: a TABLE-STATE report. -/
def takeTableState (w : Wire) (_ : Unit) (cycle : Half) (s : State) : State :=
  match Operand.position w.payload with
  | none => badReport Kind.tableState w s
  | some pos =>
    let s := modNest .a (fun r => { r with lastVacuum := some (min 100 (Operand.vacuumA w.payload)) }) s
    let s := modNest .b (fun r => { r with lastVacuum := some (min 100 (Operand.vacuumB w.payload)) }) s
    movePosition w.tag cycle pos (keepOut w.tag .b (keepOut w.tag .a s))

def execTableState (w : Wire) (s : State) : Host.Outcome State Fault Refusal :=
  .next (walkReport Kind.tableState w Role.table? (takeTableState w) s)

/-! ### NEST-LOAD (R21, R22) -/

/-- R22, step 2: the board records built from a READY slot. -/
def loadBoards (r : RecipeSlot) (marked : Nat → Bool) : List BoardRec :=
  (List.range r.boards.length).map fun i =>
    let t := (r.boards.getD i none).getD { variant := 0, height := 0, hold := 0 }
    let tabs := r.tabLists.getD i []
    { state := .attached, uncut := tabs.length, hold := t.hold, variant := t.variant, height := t.height, tabs := tabs,
      bad := marked i, suspect := false, picker := none, dest := none, freedAt := none, placedAt := none }

/-- R22, step 3: the tab records. -/
def loadTabs (r : RecipeSlot) : List TabRec :=
  r.tabs.map fun t =>
    { board := (t.map TabTemplate.board).getD 0, state := .intact, lane := none, cutAt := none, faults := 0 }

/-- R21, R22 -/
def requestNestLoad (p : Payload) (s : State) : State × Reply :=
  match Operand.nestNamed p, Operand.loadSlot p with
  | some n, some i =>
    let r := s.recipe i
    if (s.nest n).state ≠ .empty then refuse .state s
    else if r.state ≠ .ready then refuse .state s
    else
      let boards := loadBoards r (Operand.loadMarked p)
      let s := modNest n (fun x => { x with
        state := .loaded, vacuumFlag := false, slot := i, serial := Operand.loadSerial p,
        boards := boards, tabs := loadTabs r, lowRun := none }) s
      (modRecipe i (fun x => { x with useCount := x.useCount + 1 }) s,
        (.done, leBytes 1 r.boards.length ++ leBytes 2 r.tabs.length ++ leBytes 1 (boards.countP fun b => b.bad)))
  | _, _ => refuse .badArgument s

def execNestLoad (w : Wire) (s : State) : Host.Outcome State Fault Refusal :=
  .next (walkRequest Kind.nestLoad w (requestNestLoad w.payload) s)

/-! ### NEST-UNLOAD (R24, R25) -/

/-- R24, step 3. -/
def NestRec.mayUnload (r : NestRec) : Bool :=
  !(r.boards.any fun b => decide (b.state = .held) || decide (b.state = .freed) || decide (b.state = .inTransit) ||
      decide (b.state = .placing) || b.picker.isSome) &&
  !(r.tabs.any fun t => decide (t.state = .cutting))

/-- R25, steps 2 and 4. -/
def NestRec.unloaded (r : NestRec) : NestRec := { NestRec.cleared with lastVacuum := r.lastVacuum }

/-- R24, R25 -/
def requestNestUnload (p : Payload) (s : State) : State × Reply :=
  match Operand.nestNamed p with
  | none => refuse .badArgument s
  | some n =>
    let r := s.nest n
    if r.state = .empty then refuse .state s
    else if r.state = .loaded ∧ r.mayUnload = false then refuse .state s
    else
      let s := modRecipe r.slot (fun x => { x with useCount := x.useCount - 1 }) s
      (setNest n r.unloaded s, (.done, leBytes 1 (r.tally .attached)))

def execNestUnload (w : Wire) (s : State) : Host.Outcome State Fault Refusal :=
  .next (walkRequest Kind.nestUnload w (requestNestUnload w.payload) s)

/-! ### NEST-CLEAR (R32) -/

/-- R32, step 3: the last vacuum is at or above the threshold. DEDUCED: the threshold as TIMING-SET last wrote it, before the
next TABLE-STATE judgement, too (log 25). -/
def State.vacuumBack (s : State) (n : Nest) : Bool :=
  match (s.nest n).lastVacuum with
  | some v => decide (s.timing.vacLimit.get n ≤ v)
  | none => false

/-- R32 -/
def requestNestClear (p : Payload) (s : State) : State × Reply :=
  match Operand.nestNamed p with
  | none => refuse .badArgument s
  | some n =>
    if (s.nest n).vacuumFlag = false then (s, (.done, []))
    else if s.vacuumBack n then (modNest n (fun r => { r with vacuumFlag := false }) s, (.done, []))
    else refuse .state s

def execNestClear (w : Wire) (s : State) : Host.Outcome State Fault Refusal :=
  .next (walkRequest Kind.nestClear w (requestNestClear w.payload) s)

/-! ### Reads (R33, R34) -/

/-- R33 -/
def nestFields (s : State) (n : Nest) : List Byte :=
  let r := s.nest n
  [r.state.code, boolByte r.vacuumFlag] ++ optBytes 1 r.lastVacuum ++ leBytes 1 (s.timing.vacLimit.get n) ++ [s.table.code] ++
    leBytes 1 r.slot.val ++ halfBytes r.serial ++ leBytes 1 r.boards.length ++
    leBytes 1 (r.boards.countP fun b => b.state.terminal) ++ leBytes 2 r.tabs.length ++
    leBytes 2 (r.tabs.countP fun t => decide (t.state = .cut)) ++ leBytes 1 (r.tabs.countP fun t => decide (t.state = .cutting))

/-- R33 -/
def requestNestRead (p : Payload) (s : State) : State × Reply :=
  match Operand.nestNamed p with
  | none => refuse .badArgument s
  | some n => (s, (.done, nestFields s n))

def execNestRead (w : Wire) (s : State) : Host.Outcome State Fault Refusal :=
  .next (walkRequest Kind.nestRead w (requestNestRead w.payload) s)

/-- R34, STATE -/
def boardStateFields (b : BoardRec) : List Byte :=
  [b.state.code] ++ leBytes 1 b.uncut ++ leBytes 1 b.hold ++ leBytes 1 b.variant ++ leBytes 2 b.height ++
    [boolByte b.bad, boolByte b.suspect] ++ optBytes 1 (b.picker.map Fin.val)

/-- R34: a destination, or absent. -/
def destFields : Option Destination → List Byte
  | none => 0 :: leBytes 3 0
  | some d => [1, bayByte d.bay] ++ leBytes 1 d.first ++ leBytes 1 d.span

/-- R34, HISTORY -/
def boardHistoryFields (r : NestRec) (b : BoardRec) : List Byte :=
  destFields b.dest ++ optHalfBytes b.freedAt ++ optHalfBytes b.placedAt ++
    leBytes 1 (b.tabs.countP fun t => decide ((r.tabs[t]?).map TabRec.state = some .faulted))

/-- R34 -/
def requestBoardRead (p : Payload) (s : State) : State × Reply :=
  match Operand.nestNamed p with
  | none => refuse .badArgument s
  | some n =>
    if 1 < (Operand.boardPart p).toNat then refuse .badArgument s
    else if (s.nest n).state = .empty then refuse .state s
    else match (s.nest n).boards[Operand.index p]? with
      | none => refuse .badArgument s
      | some b =>
        (s, (.done, if Operand.boardPart p = 0 then boardStateFields b else boardHistoryFields (s.nest n) b))

def execBoardRead (w : Wire) (s : State) : Host.Outcome State Fault Refusal :=
  .next (walkRequest Kind.boardRead w (requestBoardRead w.payload) s)

/-- R34 -/
def tabFields (t : TabRec) : List Byte :=
  leBytes 1 t.board ++ [t.state.code] ++ optBytes 1 (t.lane.map Fin.val) ++ optHalfBytes t.cutAt ++ leBytes 1 t.faults

/-- R34 -/
def requestTabRead (p : Payload) (s : State) : State × Reply :=
  match Operand.nestNamed p with
  | none => refuse .badArgument s
  | some n =>
    if (s.nest n).state = .empty then refuse .state s
    else match (s.nest n).tabs[Operand.index p]? with
      | none => refuse .badArgument s
      | some t => (s, (.done, tabFields t))

def execTabRead (w : Wire) (s : State) : Host.Outcome State Fault Refusal :=
  .next (walkRequest Kind.tabRead w (requestTabRead w.payload) s)

end Sys2Proof.Machine
end

