-- ==== Sys2Proof/Machine/Ports.lean ====
section
/-! DEFINITION. The cell link ports (chapter 8): frames arriving, items that pass, halt frames, insertion, the return path, the watchdog. -/

namespace Sys2Proof.Machine

/-! ### Port error counts and states (R134, R135) -/

def State.port (s : State) : Port → PortRec
  | .u => s.portU
  | .d => s.portD

def setPort (p : Port) (r : PortRec) (s : State) : State :=
  match p with
  | .u => { s with portU := r }
  | .d => { s with portD := r }

/-- R134, R135: a frame that fails its check arrives. -/
def countFailed (p : Port) (s : State) : State :=
  let r := s.port p
  match r.state with
  | .down => setPort p { r with run := 0 } s
  | .up =>
    let e := min 255 (r.errors + 8)
    let s1 := setPort p { r with errors := e, degraded := r.degraded || decide (96 ≤ e) } s
    let s2 := if 96 ≤ e ∧ r.degraded = false then post 0 (.degraded p e) s1 else s1
    if e = 255 then
      judgeLine s.holdSet (post 0 (.portDown p) (setPort p { s2.port p with state := .down, run := 0 } s2))
    else s2

/-- R134, R135: a good frame arrives. -/
def countGood (p : Port) (s : State) : State :=
  let r := s.port p
  match r.state with
  | .down =>
    if r.run + 1 < 64 then setPort p { r with run := r.run + 1 } s
    else judgeLine s.holdSet
      (post 0 (.portRecovered p 0) (setPort p { state := .up, errors := 0, degraded := false, run := 64 } s))
  | .up =>
    let e := r.errors - 1
    if e < 64 ∧ r.degraded = true then post 0 (.portRecovered p e) (setPort p { r with errors := e, degraded := false } s)
    else setPort p { r with errors := e } s

/-- R142, R143: a good ORDER frame taken at Port U clears the watchdog part of UPLINK and starts the watchdog. -/
def restartWatchdog (s : State) : State :=
  judgeLine s.holdSet
    { s with line := { s.line with watchdogHold := false, watchdog := some (s.now + s.timing.watchdog) } }

/-- R133, step 2: a good frame at an UP port is handed on by kind, or dropped. -/
def handOn (p : Port) (f : LinkFrame) (s : State) : State :=
  match p with
  | .u =>
    if f.kind = FrameKind.order then
      let s := restartWatchdog s
      { s with down := s.down ++ [{ isHalt := false, cycle := f.cycle, todo := f.items, out := [] }] }
    else if f.kind = FrameKind.halt then
      { s with down := s.down ++ [{ isHalt := true, cycle := f.cycle, todo := f.items, out := [] }] }
    else s
  | .d =>
    if f.kind = FrameKind.ret then
      { s with up := s.up ++ [{ cycle := f.cycle, items := f.items, todo := f.items.filter fun it => Kind.isReport it.kind }] }
    else s

/-- R133: a frame arrives at a port. During a reset it is dropped (R163); at a DOWN port it only counts (R135). -/
def arrive (p : Port) (bytes : List Byte) (s : State) : State :=
  if s.inReset then s
  else match parseFrame bytes with
    | none => countFailed p s
    | some f => if (s.port p).state = .up then handOn p f (countGood p s) else countGood p s

def execFrameArrival (port : Port) (bytes : List Byte) (s : State) : Host.Outcome State Fault Refusal :=
  .next (arrive port bytes s)

/-- R137: the item passes untouched. -/
def execItemPass (kind : Byte) (w : Wire) (s : State) : Host.Outcome State Fault Refusal :=
  .next (if passesUntouched s (itemOf kind w) then walkItem (itemOf kind w) (fun _ s => (s, itemOf kind w)) s else s)

/-- R170: a request with no defined name is answered BAD-ARGUMENT. -/
def execUndefinedRequest (kind : Byte) (w : Wire) (s : State) : Host.Outcome State Fault Refusal :=
  .next (if Kind.isUndefinedRequest kind then walkRequest kind w (refuse .badArgument) s else s)

/-! ### Insertion (R141) -/

def allLanes : List LaneId := [0, 1, 2, 3]

/-- A SPIN item of speed 0 to a station, unvoided (R141). -/
def isStopTo (a : Station) (it : Item) : Bool :=
  decide (it.kind = Kind.spin) && decide (stationOf it.addr = a) && decide (Operand.spinSpeed it.payload = 0)

/-- An ABORT item to a station. -/
def isAbortTo (a : Station) (it : Item) : Bool := decide (it.kind = Kind.abort) && decide (stationOf it.addr = a)

/-- R141, step 1: what the frame already carries for the lane's station is delivered. DEDUCED: in a frame of 24 items, too
(log 26). -/
def creditLane (items : List Item) (s : State) (i : LaneId) : State :=
  match s.addrOf (.lane i) with
  | none => s
  | some a => modLane i (fun l => { l with pend := { l.pend with
      stop := l.pend.stop && !items.any (isStopTo a), abort := l.pend.abort && !items.any (isAbortTo a) } }) s

/-- R141, steps 2 and 3: one pending ABORT. -/
def insertAbort (r : State × List Item) (i : LaneId) : State × List Item :=
  match r.1.addrOf (.lane i) with
  | some a =>
    if r.2.length < Config.maxItems ∧ (r.1.lane i).pend.abort = true then
      (modLane i (fun l => { l with pend := { l.pend with abort := false } }) r.1, r.2 ++ [builtItem a Kind.abort []])
    else r
  | none => r

/-- R141, steps 2 and 3: one pending SPIN-stop, taken as R118 states. -/
def insertStop (r : State × List Item) (i : LaneId) : State × List Item :=
  match r.1.addrOf (.lane i) with
  | some a =>
    if r.2.length < Config.maxItems ∧ (r.1.lane i).pend.stop = true then
      (stopSpindle i (modLane i (fun l => { l with pend := { l.pend with stop := false } }) r.1),
        r.2 ++ [builtItem a Kind.spin (leBytes 2 0)])
    else r
  | none => r

/-- R141, steps 2 and 3: one pending FEED. -/
def insertFeed (r : State × List Item) (i : LaneId) : State × List Item :=
  match r.1.addrOf (.lane i), (r.1.lane i).pend.feed with
  | some a, some v =>
    if r.2.length < Config.maxItems then
      (modLane i (fun l => { l with pend := { l.pend with feed := none } }) r.1, r.2 ++ [builtItem a Kind.feed (leBytes 1 v)])
    else r
  | _, _ => r

/-- R141: the walked frame's room is filled. -/
def topUp (s : State) (items : List Item) : State × List Item :=
  let r := (allLanes.foldl (creditLane items) s, items)
  let r := allLanes.foldl insertAbort r
  let r := allLanes.foldl insertStop r
  allLanes.foldl insertFeed r

/-- R148: while Port D is DOWN, a return frame is built for the order frame that leaves. -/
def buildReturn (cycle : Half) (s : State) : State :=
  let r := fillReturn s.line.ownAddr [] s.ret
  sendUp { kind := FrameKind.ret, cycle := cycle, items := r.1 } { s with ret := r.2 }

/-- R141, R133, R148: the walked order frame at the front of the down path is topped up and leaves at Port D. -/
def insertAndSend (s : State) : State :=
  match s.down with
  | [] => s
  | fr :: rest =>
    if fr.isHalt = false ∧ fr.todo = [] then
      let r := topUp { s with down := rest } fr.out
      let s' := sendDown { kind := FrameKind.order, cycle := fr.cycle, items := r.2 } { r.1 with lastOrder := fr.cycle }
      if s'.portD.state = .down then buildReturn fr.cycle s' else s'
    else s

def execInsertion (s : State) : Host.Outcome State Fault Refusal := .next (insertAndSend s)

/-! ### Halt frames (R143, R144) -/

/-- R137: a gated kind belongs to a role. -/
def kindBelongs (kind : Byte) : Role → Bool
  | .lane _ => decide (kind = Kind.cut) || decide (kind = Kind.spin) || decide (kind = Kind.feed)
  | .picker _ => decide (kind = Kind.grip) || decide (kind = Kind.openJaws) || decide (kind = Kind.lift) || decide (kind = Kind.place)
  | .elevator => false
  | .table => decide (kind = Kind.shuttle)

/-- R144: one item of the cell master's halt frame. -/
def haltItem (s : State) (it : Item) : State × Item :=
  if Kind.isGated it.kind = false then (s, it)
  else match s.route it.addr with
    | .through | .own | .unmapped => (s, it)
    | .broadcast => settle it (.void .badAddress s [])
    | .role r =>
      if kindBelongs it.kind r = false then settle it (.void .wrongRole s [])
      else match r with
        | .lane i =>
          if it.kind = Kind.spin ∧ Operand.spinSpeed it.payload = 0 then (stopSpindle i s, it)
          else settle it (.void .halted s [])
        | _ => settle it (.void .halted s [])

/-- R144: the items of a halt frame, in the order they stand. -/
def haltItems : List Item → State → State × List Item
  | [], s => (s, [])
  | it :: rest, s =>
    let x := haltItem s it
    let r := haltItems rest x.1
    (r.1, x.2 :: r.2)

/-- R144: the halt frame at the front of the down path is walked, topped up and sent out of Port D. -/
def walkHaltFrame (s : State) : State :=
  match s.down with
  | [] => s
  | fr :: rest =>
    if fr.isHalt = true then
      let r := haltItems fr.todo { s with down := rest }
      let t := topUp r.1 r.2
      sendDown { kind := FrameKind.halt, cycle := fr.cycle, items := t.2 } t.1
    else s

def execHaltFrame (s : State) : Host.Outcome State Fault Refusal := .next (walkHaltFrame s)

/-- R143, step 2: the items of the halt frame the watchdog sends. -/
def watchdogItems (s : State) : List Item :=
  (allLanes.filterMap fun i =>
    if (s.lane i).state = .cutting then (s.addrOf (.lane i)).map fun a => builtItem a Kind.abort [] else none) ++
  (allLanes.filterMap fun i =>
    if (s.lane i).spindle ≠ .stopped then (s.addrOf (.lane i)).map fun a => builtItem a Kind.spin (leBytes 2 0) else none)

/-- R143, step 3: what the halt frame delivers to a lane. -/
def watchdogDeliver (s : State) (i : LaneId) : State :=
  if (s.addrOf (.lane i)).isSome then
    let s := if (s.lane i).state = .cutting then modLane i (fun l => { l with pend := { l.pend with abort := false } }) s else s
    if (s.lane i).spindle ≠ .stopped then
      stopSpindle i (modLane i (fun l => { l with pend := { l.pend with stop := false } }) s)
    else s
  else s

/-- R143: the cycle watchdog expires. -/
def watchdogExpired (s : State) : State :=
  let s := judgeLine s.holdSet { s with line := { s.line with watchdogHold := true, watchdog := none } }
  let s := sendDown { kind := FrameKind.halt, cycle := s.lastOrder, items := watchdogItems s } s
  allLanes.foldl watchdogDeliver s

def execCycleWatchdogExpiry (s : State) : Host.Outcome State Fault Refusal :=
  .next (expire s.line.watchdog watchdogExpired s)

/-! ### The return path (R146) -/

/-- R146: the walked return frame at the front of the up path is topped up and leaves at Port U. -/
def fillAndSend (s : State) : State :=
  match s.up with
  | [] => s
  | fr :: rest =>
    if fr.todo = [] then
      let r := fillReturn s.line.ownAddr fr.items s.ret
      sendUp { kind := FrameKind.ret, cycle := fr.cycle, items := r.1 } { s with up := rest, ret := r.2 }
    else s

def execReturnFill (s : State) : Host.Outcome State Fault Refusal := .next (fillAndSend s)

end Sys2Proof.Machine
end

