-- ==== Sys2Proof/Machine/Recipes.lean ====
section
/-! DEFINITION. The recipe store (chapter 1): the six recipe requests. -/

namespace Sys2Proof.Machine

/-- The two pools' free counts, as RECIPE-OPEN and RECIPE-DROP answer them (R4, R11). -/
def poolFields (s : State) : List Byte := leBytes 2 s.freeBoards ++ leBytes 2 s.freeTabs

/-! ### RECIPE-OPEN (R4) -/

/-- R4: the counts a recipe may have. -/
def openCountsOk (boards tabs : Nat) : Bool :=
  decide (1 ≤ boards) && decide (boards ≤ 64) && decide (1 ≤ tabs) && decide (tabs ≤ 256) &&
    decide (boards ≤ tabs) && decide (tabs ≤ 16 * boards)

/-- R4: the slot freshly opened. -/
def RecipeSlot.opened (boards tabs : Nat) (suspect : Bool) : RecipeSlot :=
  { state := .building, boards := List.replicate boards none, tabs := List.replicate tabs none, suspectOption := suspect,
    useCount := 0, tabLists := [] }

/-- R3, R4 -/
def requestRecipeOpen (p : Payload) (s : State) : State × Reply :=
  if s.line.recipeLock then refuse .locked s
  else match Operand.slot p, Operand.openOption p with
    | some i, some suspect =>
      let boards := Operand.openBoards p
      let tabs := Operand.openTabs p
      if openCountsOk boards tabs = false then refuse .badArgument s
      else if 0 < (s.recipe i).useCount then refuse .inUse s
      else if s.freeBoards + (s.recipe i).boards.length < boards ∨ s.freeTabs + (s.recipe i).tabs.length < tabs then
        refuse .noSpace s
      else
        let s := setRecipe i (RecipeSlot.opened boards tabs suspect) s
        (s, (.done, poolFields s))
    | _, _ => refuse .badArgument s

def execRecipeOpen (w : Wire) (s : State) : Host.Outcome State Fault Refusal :=
  .next (walkRequest Kind.recipeOpen w (requestRecipeOpen w.payload) s)

/-! ### RECIPE-BOARDS and RECIPE-TABS (R5 to R8) -/

/-- R5, R3: a board template the slot takes; the index is tested against the counts only while the slot is BUILDING. -/
def boardOk (r : RecipeSlot) (t : RawBoard) : Bool :=
  decide (t.variant ≠ 0) && decide (1 ≤ t.hold) && decide (t.hold ≤ 4) &&
    (decide (r.state ≠ .building) || decide (t.index < r.boards.length))

/-- R5: the stored height. -/
def storedHeight (h : Nat) : Nat := clampTo 5 400 h

/-- R6: one template is stored. -/
def RecipeSlot.putBoard (r : RecipeSlot) (t : RawBoard) : RecipeSlot :=
  { r with boards := r.boards.set t.index (some { variant := t.variant, height := storedHeight t.height, hold := t.hold }) }

/-- R3, R6 -/
def requestRecipeBoards (p : Payload) (s : State) : State × Reply :=
  if s.line.recipeLock then refuse .locked s
  else match Operand.packedSlot p with
    | none => refuse .badArgument s
    | some i =>
      let r := s.recipe i
      let ts := rawBoards p
      if Operand.packedCount p < 1 ∨ 3 < Operand.packedCount p ∨ ts.all (boardOk r) = false then refuse .badArgument s
      else if r.state ≠ .building then refuse .state s
      else (setRecipe i (ts.foldl RecipeSlot.putBoard r) s,
        (doneOr (ts.any fun t => storedHeight t.height != t.height), []))

def execRecipeBoards (w : Wire) (s : State) : Host.Outcome State Fault Refusal :=
  .next (walkRequest Kind.recipeBoards w (requestRecipeBoards w.payload) s)

/-- R7, R3: a tab template the slot takes. -/
def tabOk (r : RecipeSlot) (t : RawTab) : Bool :=
  decide (r.state ≠ .building) || (decide (t.number < r.tabs.length) && decide (t.board < r.boards.length))

/-- R7: the stored feed cap; 0 is no cap. -/
def storedCap (c : Nat) : Option Nat := if c = 0 then none else some (min c 200)

/-- R8: one template is stored. -/
def RecipeSlot.putTab (r : RecipeSlot) (t : RawTab) : RecipeSlot :=
  { r with tabs := r.tabs.set t.number (some { board := t.board, cap := storedCap t.cap }) }

/-- R3, R8 -/
def requestRecipeTabs (p : Payload) (s : State) : State × Reply :=
  if s.line.recipeLock then refuse .locked s
  else match Operand.packedSlot p with
    | none => refuse .badArgument s
    | some i =>
      let r := s.recipe i
      let ts := rawTabs p
      if Operand.packedCount p < 1 ∨ 4 < Operand.packedCount p ∨ ts.all (tabOk r) = false then refuse .badArgument s
      else if r.state ≠ .building then refuse .state s
      else (setRecipe i (ts.foldl RecipeSlot.putTab r) s, (doneOr (ts.any fun t => decide (200 < t.cap)), []))

def execRecipeTabs (w : Wire) (s : State) : Host.Outcome State Fault Refusal :=
  .next (walkRequest Kind.recipeTabs w (requestRecipeTabs w.payload) s)

/-! ### RECIPE-FINISH (R9) -/

/-- The consistency checks, in the order R9 takes them. -/
inductive RecipeCheck where
  | boardMissing | tabMissing | tabCount | holdThreshold
  deriving DecidableEq, Repr

def RecipeCheck.code : RecipeCheck → Byte
  | .boardMissing => 0 | .tabMissing => 1 | .tabCount => 2 | .holdThreshold => 3

/-- R9: the lowest index that fails a check. -/
def RecipeSlot.failing (r : RecipeSlot) : RecipeCheck → Option Nat
  | .boardMissing => (List.range r.boards.length).find? fun i => (r.boards.getD i none).isNone
  | .tabMissing => (List.range r.tabs.length).find? fun i => (r.tabs.getD i none).isNone
  | .tabCount => (List.range r.boards.length).find? fun i => decide (r.derivedTabs i = 0) || decide (16 < r.derivedTabs i)
  | .holdThreshold => (List.range r.boards.length).find? fun i =>
      match r.boards.getD i none with | some t => decide (r.derivedTabs i < t.hold) | none => false

/-- R9: the first failed check with the index it reports. -/
def RecipeSlot.firstFault (r : RecipeSlot) : Option (RecipeCheck × Nat) :=
  [RecipeCheck.boardMissing, .tabMissing, .tabCount, .holdThreshold].findSome? fun c => (r.failing c).map fun i => (c, i)

/-- R9: the tab numbers of the templates naming a board, in ascending order. -/
def RecipeSlot.tabListOf (r : RecipeSlot) (board : Nat) : List Nat :=
  (List.range r.tabs.length).filter fun t => match r.tabs.getD t none with | some x => decide (x.board = board) | none => false

/-- R9: the finished slot. -/
def RecipeSlot.finished (r : RecipeSlot) : RecipeSlot :=
  { r with state := .ready, tabLists := (List.range r.boards.length).map r.tabListOf }

/-- R3, R9 -/
def requestRecipeFinish (p : Payload) (s : State) : State × Reply :=
  if s.line.recipeLock then refuse .locked s
  else match Operand.slot p with
    | none => refuse .badArgument s
    | some i =>
      let r := s.recipe i
      if r.state ≠ .building then refuse .state s
      else match r.firstFault with
        | some (c, k) => (s, (.inconsistent, [c.code] ++ leBytes 1 k))
        | none => (setRecipe i r.finished s, (.done, []))

def execRecipeFinish (w : Wire) (s : State) : Host.Outcome State Fault Refusal :=
  .next (walkRequest Kind.recipeFinish w (requestRecipeFinish w.payload) s)

/-! ### RECIPE-DROP and RECIPE-READ (R11, R14) -/

/-- R3, R11 -/
def requestRecipeDrop (p : Payload) (s : State) : State × Reply :=
  if s.line.recipeLock then refuse .locked s
  else match Operand.slot p with
    | none => refuse .badArgument s
    | some i =>
      if 0 < (s.recipe i).useCount then refuse .inUse s
      else
        let s := setRecipe i RecipeSlot.cleared s
        (s, (.done, poolFields s))

def execRecipeDrop (w : Wire) (s : State) : Host.Outcome State Fault Refusal :=
  .next (walkRequest Kind.recipeDrop w (requestRecipeDrop w.payload) s)

/-- R14, SUMMARY -/
def recipeSummary (s : State) (r : RecipeSlot) : List Byte :=
  [r.state.code] ++ leBytes 1 r.boards.length ++ leBytes 2 r.tabs.length ++ [boolByte r.suspectOption] ++ leBytes 1 r.useCount ++
    leBytes 1 (r.boards.countP fun b => b.isSome) ++ leBytes 2 (r.tabs.countP fun t => t.isSome) ++ poolFields s

/-- R14, BOARD: an undefined position's fields hold 0 (R167). -/
def recipeBoardFields (r : RecipeSlot) (i : Nat) : List Byte :=
  (match r.boards.getD i none with
  | some t => 1 :: leBytes 1 t.variant ++ leBytes 2 t.height ++ leBytes 1 t.hold
  | none => 0 :: leBytes 4 0) ++ leBytes 2 (r.derivedTabs i)

/-- R14, TAB -/
def recipeTabFields (r : RecipeSlot) (i : Nat) : List Byte :=
  match r.tabs.getD i none with
  | some t => 1 :: leBytes 1 t.board ++ leBytes 1 (t.cap.getD 0)
  | none => 0 :: leBytes 2 0

/-- R14 -/
def requestRecipeRead (p : Payload) (s : State) : State × Reply :=
  match Operand.slot p with
  | none => refuse .badArgument s
  | some i =>
    let r := s.recipe i
    match (Operand.part p).toNat with
    | 0 => (s, (.done, recipeSummary s r))
    | 1 => if Operand.selected p < r.boards.length then (s, (.done, recipeBoardFields r (Operand.selected p))) else refuse .badArgument s
    | 2 => if Operand.selected p < r.tabs.length then (s, (.done, recipeTabFields r (Operand.selected p))) else refuse .badArgument s
    | _ => refuse .badArgument s

def execRecipeRead (w : Wire) (s : State) : Host.Outcome State Fault Refusal :=
  .next (walkRequest Kind.recipeRead w (requestRecipeRead w.payload) s)

end Sys2Proof.Machine
end

