-- ==== Sys2Proof/Machine/Supervisor.lean ====
section
/-! DEFINITION. The line supervisor (chapter 9): the safety input, run control, locks, settings, the role table, and the three resets. -/

namespace Sys2Proof.Machine

/-! ### The safety input (R152) -/

/-- R152: the level agrees with the filtered level. -/
def Filtered.agrees : Filtered → Bool → Bool
  | .opened, high => !high
  | .closed, high => high
  | .unknown, _ => false

/-- R152: the STOPSENSE input takes a level. No timer runs during a reset (R163); an unchanged level is no change. -/
def senseChange (high : Bool) (s : State) : State :=
  if s.pins.stopSense = high then s
  else
    let s' := { s with pins := { s.pins with stopSense := high } }
    if s.inReset then s'
    else if s.line.filtered.agrees high then { s' with line := { s'.line with filterTimer := none } }
    else { s' with line := { s'.line with filterTimer := some { high := high, ends := s.now + s.timing.stopFilter } } }

def execStopsenseChange (high : Bool) (s : State) : Host.Outcome State Fault Refusal := .next (senseChange high s)

/-- R152: the filter timer has run out. -/
def filterExpired (high : Bool) (s : State) : State :=
  judgeLine s.holdSet
    { s with line := { s.line with filtered := if high then .closed else .opened, filterTimer := none } }

def execFilterTimerExpiry (s : State) : Host.Outcome State Fault Refusal :=
  .next (match s.line.filterTimer with
    | some t => expire (some t.ends) (filterExpired t.high) s
    | none => s)

/-! ### Resets (R163 to R165) -/

/-- R156: the own address the straps give; 0 and 63 are taken as 62. -/
def ownOf (straps : Station) : Station := if straps = 0 ∨ straps = 63 then 62 else straps

/-- R163: a reset begins: frames in passage are not sent on. -/
def cutFrames (s : State) : State := { s with down := [], up := [] }

def execSupplyApplied (s : State) : Host.Outcome State Fault Refusal :=
  .next { cutFrames s with pins := { s.pins with supplyStable := false } }

def execNresetAssert (s : State) : Host.Outcome State Fault Refusal :=
  .next { cutFrames s with pins := { s.pins with nreset := true } }

/-- R163, R165: the power-on values, with the straps read and the filter started for the level the input has. What the model
adds (the queue, the clock, the free counter, the sent frames) and the input pins are kept. -/
def powerOnValues (straps : Station) (pins : Pins) (s : State) : State :=
  { State.reset with
    pending := s.pending, now := s.now, free := s.free, sentD := s.sentD, sentU := s.sentU,
    pins := { pins with straps := straps },
    line := { State.reset.line with
      ownAddr := ownOf straps, filterTimer := some { high := s.pins.stopSense, ends := s.now + Timing.initial.stopFilter } } }

def execPowerOnReset (straps : Station) (s : State) : Host.Outcome State Fault Refusal :=
  .next (powerOnValues straps { s.pins with supplyStable := true } s)

/-- R114: the life record after a pin or a link reset, its levels and behaviour kept or back at their defaults, its flags
re-judged. -/
def Life.afterReset (l : Life) (keep : Bool) : Life :=
  let l' := if keep then l else { l with warn := Config.wearMax, limit := Config.wearMax, behaviour := .stopNew }
  { l' with warned := l.warned && decide (l'.warn ≤ l'.wear), reached := l.reached && decide (l'.limit ≤ l'.wear) }

/-- R114, R132: what a pin reset keeps of a lane. -/
def Lane.pinReset (l : Lane) : Lane :=
  { Lane.initial with life := l.life.afterReset false, bitChangeDue := l.bitChangeDue }

def execPinReset (straps : Station) (s : State) : Host.Outcome State Fault Refusal :=
  .next { powerOnValues straps { s.pins with nreset := false } s with lanes := s.lanes.map Lane.pinReset }

/-- R132: the governor after a link reset. -/
def Governor.linkReset (g : Governor) (keep : Bool) : Governor :=
  if keep then { Governor.initial with mode := g.mode, level := g.level, mask := g.mask, coolDown := g.coolDown, restore := g.restore }
  else Governor.initial

/-- R132, R114, R59, R149: a lane after a link reset under the given LIMIT-LOCK. -/
def Lane.linkReset (limitLock : Bool) (l : Lane) : Lane :=
  let life := l.life.afterReset limitLock
  { Lane.initial with
    state := if l.state = .inactive then .inactive else if life.parkHold then .parked else .ready,
    bitChangeDue := l.bitChangeDue,
    recoveryMode := if limitLock then l.recoveryMode else .latch,
    autoWait := if limitLock then l.autoWait else 2000,
    spinDownTimeout := l.spinDownTimeout, cutTimeout := l.cutTimeout,
    gov := l.gov.linkReset limitLock, life := life,
    pend := { abort := l.pend.abort || decide (l.state = .cutting),
              stop := l.pend.stop || decide (l.spindle ≠ .stopped), feed := none } }

/-- R99: a bay after a link reset. -/
def Bay.linkReset (b : Bay) : Bay := b.configured b.kind

/-- R16: a recipe slot after a link reset under the given RECIPE-LOCK. -/
def RecipeSlot.linkReset (recipeLock : Bool) (r : RecipeSlot) : RecipeSlot :=
  if recipeLock then { r with useCount := 0 } else RecipeSlot.cleared

/-- R164, R165: the link reset. -/
def linkReset (s : State) : State :=
  { s with
    portU := PortRec.initial, portD := PortRec.initial, lastOrder := 0,
    roles := if s.line.recipeLock then s.roles else Vector.replicate 8 none,
    recipes := s.recipes.map (RecipeSlot.linkReset s.line.recipeLock),
    nests := ⟨NestRec.cleared, NestRec.cleared⟩, table := .unknown,
    lanes := s.lanes.map (Lane.linkReset s.line.limitLock),
    pickers := Vector.replicate 2 Picker.cleared,
    bays := s.bays.map Bay.linkReset, placements := [], ret := ReturnPath.cleared,
    line := { s.line with
      state := .idle, watchdogHold := false, watchdog := none, filtered := .unknown,
      filterTimer := some { high := s.pins.stopSense, ends := s.now + s.timing.stopFilter } } }

/-- R164 -/
def execReset (w : Wire) (s : State) : Host.Outcome State Fault Refusal :=
  .next (walkRequest Kind.reset w (fun s => (linkReset s, (.done, []))) s)

/-! ### RUN and HALT (R151) -/

/-- R151: the line state and the hold-cause set after the request. -/
def lineFields (s : State) : List Byte := [s.line.state.code, s.holdSet.byte]

/-- R151 -/
def requestRun (s : State) : State × Reply :=
  if s.line.state = .idle ∧ s.line.filtered = .closed then
    let s := { s with line := { s.line with state := .running } }
    (s, (.done, lineFields s))
  else (s, (.state, lineFields s))

def execRun (w : Wire) (s : State) : Host.Outcome State Fault Refusal := .next (walkRequest Kind.run w requestRun s)

/-- R151 -/
def requestHalt (s : State) : State × Reply :=
  let s := if s.line.state = .running then { s with line := { s.line with state := .idle } } else s
  (s, (.done, lineFields s))

def execHalt (w : Wire) (s : State) : Host.Outcome State Fault Refusal := .next (walkRequest Kind.halt w requestHalt s)

/-! ### STATUS-READ (R160) -/

/-- R160, LINE. The input's level is coded as the filtered level it would give (log 15). -/
def statusLine (s : State) : List Byte :=
  lineFields s ++ [s.line.filtered.code, boolByte s.pins.stopSense, s.alertByte, s.line.mask, boolByte s.alertOut,
    boolByte s.line.recipeLock, boolByte s.line.limitLock, addrByte s.line.ownAddr]

def portFields (p : PortRec) : List Byte :=
  [p.state.code] ++ leBytes 1 p.errors ++ [boolByte p.degraded] ++ leBytes 1 p.run

/-- R160, PORTS -/
def statusPorts (s : State) : List Byte :=
  portFields s.portU ++ portFields s.portD ++ leBytes 1 s.ret.answers.length ++ leBytes 1 s.ret.notices.length ++
    [boolByte s.ret.overflow] ++ leBytes 2 s.ret.lost

/-- R160, TIMING -/
def statusTiming (t : Timing) : List Byte :=
  leBytes 1 t.watchdog ++ leBytes 1 t.stopFilter ++ leBytes 2 t.jaw ++ leBytes 2 t.place ++
    leBytes 2 t.vacMask.a ++ leBytes 2 t.vacMask.b ++ leBytes 1 t.vacLimit.a ++ leBytes 1 t.vacLimit.b

/-- R160: the fields of a part. -/
def statusFields (s : State) (part : Byte) : Option (List Byte) :=
  match part.toNat with
  | 0 => some (statusLine s)
  | 1 => some (statusPorts s)
  | 2 => some (statusTiming s.timing)
  | _ => none

/-- R160: a DONE answer carries the ANSWER-LOST flag as it stood, and the flag is cleared. -/
def requestStatusRead (p : Payload) (s : State) : State × Reply :=
  match statusFields s (Operand.statusPart p) with
  | none => refuse .badArgument s
  | some fs => ({ s with ret := { s.ret with answerLost := false } }, (.done, fs ++ [boolByte s.ret.answerLost]))

def execStatusRead (w : Wire) (s : State) : Host.Outcome State Fault Refusal :=
  .next (walkRequest Kind.statusRead w (requestStatusRead w.payload) s)

/-! ### ROLE-SET (R161) -/

/-- R161, R168: the address a ROLE-SET carries: FFh is none; the outer none is an address the request does not allow. -/
def roleSetAddress (s : State) (b : Byte) : Option (Option Station) :=
  if b = 0xFF then some none
  else if b = 0 ∨ 63 ≤ b.toNat ∨ b = addrByte s.line.ownAddr then none
  else some (some (stationOf b))

/-- R161: one entry of the table, FFh for none (log 15). -/
def roleByte : Option Station → Byte
  | some a => addrByte a
  | none => 0xFF

def roleFields (s : State) : List Byte := s.roles.toList.map roleByte

/-- R161: the address is held by another role's entry. -/
def State.heldByOther (s : State) (r : Role) (a : Option Station) : Bool :=
  a.isSome && allRoles.any fun q => decide (q ≠ r) && decide (s.addrOf q = a)

/-- R161 -/
def requestRoleSet (p : Payload) (s : State) : State × Reply :=
  if s.line.recipeLock then refuse .locked s
  else match Operand.role p, roleSetAddress s (Operand.roleAddress p) with
    | some r, some a =>
      if s.heldByOther r a then refuse .inUse s
      else
        let s := { s with roles := s.roles.set r.index.val a r.index.isLt }
        (s, (.done, roleFields s))
    | _, _ => refuse .badArgument s

def execRoleSet (w : Wire) (s : State) : Host.Outcome State Fault Refusal :=
  .next (walkRequest Kind.roleSet w (requestRoleSet w.payload) s)

/-! ### TIMING-SET (R162) -/

/-- The eight settings, in the order of R162. -/
inductive Setting where
  | watchdog | stopFilter | jaw | place | vacMask (n : Nest) | vacLimit (n : Nest)
  deriving DecidableEq, Repr

def settingOfByte (b : Byte) : Option Setting :=
  match b.toNat with
  | 0 => some .watchdog | 1 => some .stopFilter | 2 => some .jaw | 3 => some .place
  | 4 => some (.vacMask .a) | 5 => some (.vacMask .b) | 6 => some (.vacLimit .a) | 7 => some (.vacLimit .b)
  | _ => none

/-- R162: a setting's range. -/
def Setting.range : Setting → Nat × Nat
  | .watchdog => (2, 250) | .stopFilter => (1, 50) | .jaw => (50, 5000) | .place => (100, 30000)
  | .vacMask _ => (10, 2000) | .vacLimit _ => (10, 90)

def Timing.put (t : Timing) (v : Nat) : Setting → Timing
  | .watchdog => { t with watchdog := v }
  | .stopFilter => { t with stopFilter := v }
  | .jaw => { t with jaw := v }
  | .place => { t with place := v }
  | .vacMask n => { t with vacMask := t.vacMask.set n v }
  | .vacLimit n => { t with vacLimit := t.vacLimit.set n v }

/-- R162 -/
def requestTimingSet (p : Payload) (s : State) : State × Reply :=
  match settingOfByte (Operand.settingName p) with
  | none => refuse .badArgument s
  | some k =>
    let v := clampTo k.range.1 k.range.2 (Operand.settingValue p)
    ({ s with timing := s.timing.put v k }, (doneOr (v != Operand.settingValue p), [Operand.settingName p] ++ leBytes 2 v))

def execTimingSet (w : Wire) (s : State) : Host.Outcome State Fault Refusal :=
  .next (walkRequest Kind.timingSet w (requestTimingSet w.payload) s)

/-! ### ALERT-MASK and LOCK (R155, R157) -/

/-- R155. Every bit of the mask byte is a defined entry (R168), so no value of it is refused. -/
def requestAlertMask (p : Payload) (s : State) : State × Reply :=
  let s := { s with line := { s.line with mask := Operand.mask p } }
  (s, (.done, [s.line.mask, s.alertByte, boolByte s.alertOut]))

def execAlertMask (w : Wire) (s : State) : Host.Outcome State Fault Refusal :=
  .next (walkRequest Kind.alertMask w (requestAlertMask w.payload) s)

/-- R157 -/
def requestLock (p : Payload) (s : State) : State × Reply :=
  match Operand.recipeLock p, Operand.limitLock p with
  | some setRecipe, some setLimit =>
    let s := { s with line := { s.line with
      recipeLock := s.line.recipeLock || setRecipe, limitLock := s.line.limitLock || setLimit } }
    (s, (.done, [boolByte s.line.recipeLock, boolByte s.line.limitLock]))
  | _, _ => refuse .badArgument s

def execLock (w : Wire) (s : State) : Host.Outcome State Fault Refusal :=
  .next (walkRequest Kind.lock w (requestLock w.payload) s)

end Sys2Proof.Machine
end

