-- ==== Sys2Proof/Machine/Dispatch.lean ====
section
/-! DEFINITION. The dispatch: one arm per command, each one call of its meaning. -/

namespace Sys2Proof.Machine

def exec (i : Instr) (s : State) : Host.Outcome State Fault Refusal :=
  match i with
  | .frameArrival port bytes => Sys2Proof.Machine.execFrameArrival port bytes s
  | .itemPass kind w => Sys2Proof.Machine.execItemPass kind w s
  | .cut w => Sys2Proof.Machine.execCut w s
  | .spinStart w => Sys2Proof.Machine.execSpinStart w s
  | .spinStop w => Sys2Proof.Machine.execSpinStop w s
  | .feed w => Sys2Proof.Machine.execFeed w s
  | .grip w => Sys2Proof.Machine.execGrip w s
  | .openJaws w => Sys2Proof.Machine.execOpenJaws w s
  | .lift w => Sys2Proof.Machine.execLift w s
  | .place w => Sys2Proof.Machine.execPlace w s
  | .shuttle w => Sys2Proof.Machine.execShuttle w s
  | .haltFrame => Sys2Proof.Machine.execHaltFrame s
  | .insertion => Sys2Proof.Machine.execInsertion s
  | .returnFill => Sys2Proof.Machine.execReturnFill s
  | .cutDone w => Sys2Proof.Machine.execCutDone w s
  | .laneState w => Sys2Proof.Machine.execLaneState w s
  | .gripState w => Sys2Proof.Machine.execGripState w s
  | .tableState w => Sys2Proof.Machine.execTableState w s
  | .bayState w => Sys2Proof.Machine.execBayState w s
  | .placeDone w => Sys2Proof.Machine.execPlaceDone w s
  | .cutTimerExpiry lane => Sys2Proof.Machine.execCutTimerExpiry lane s
  | .jawTimerExpiry picker => Sys2Proof.Machine.execJawTimerExpiry picker s
  | .placeTimerExpiry nest board => Sys2Proof.Machine.execPlaceTimerExpiry nest board s
  | .spinDownTimerExpiry lane => Sys2Proof.Machine.execSpinDownTimerExpiry lane s
  | .recoveryTimerExpiry lane => Sys2Proof.Machine.execRecoveryTimerExpiry lane s
  | .coolDownTimerExpiry lane => Sys2Proof.Machine.execCoolDownTimerExpiry lane s
  | .restoreTimerExpiry lane => Sys2Proof.Machine.execRestoreTimerExpiry lane s
  | .cycleWatchdogExpiry => Sys2Proof.Machine.execCycleWatchdogExpiry s
  | .stopsenseChange high => Sys2Proof.Machine.execStopsenseChange high s
  | .filterTimerExpiry => Sys2Proof.Machine.execFilterTimerExpiry s
  | .powerOnReset straps => Sys2Proof.Machine.execPowerOnReset straps s
  | .nresetAssert => Sys2Proof.Machine.execNresetAssert s
  | .pinReset straps => Sys2Proof.Machine.execPinReset straps s
  | .statusRead w => Sys2Proof.Machine.execStatusRead w s
  | .run w => Sys2Proof.Machine.execRun w s
  | .halt w => Sys2Proof.Machine.execHalt w s
  | .reset w => Sys2Proof.Machine.execReset w s
  | .roleSet w => Sys2Proof.Machine.execRoleSet w s
  | .timingSet w => Sys2Proof.Machine.execTimingSet w s
  | .alertMask w => Sys2Proof.Machine.execAlertMask w s
  | .lock w => Sys2Proof.Machine.execLock w s
  | .laneConfig w => Sys2Proof.Machine.execLaneConfig w s
  | .governorSet w => Sys2Proof.Machine.execGovernorSet w s
  | .lifeSet w => Sys2Proof.Machine.execLifeSet w s
  | .wearPreset w => Sys2Proof.Machine.execWearPreset w s
  | .bitChange w => Sys2Proof.Machine.execBitChange w s
  | .laneClear w => Sys2Proof.Machine.execLaneClear w s
  | .laneRead w => Sys2Proof.Machine.execLaneRead w s
  | .recipeOpen w => Sys2Proof.Machine.execRecipeOpen w s
  | .recipeBoards w => Sys2Proof.Machine.execRecipeBoards w s
  | .recipeTabs w => Sys2Proof.Machine.execRecipeTabs w s
  | .recipeFinish w => Sys2Proof.Machine.execRecipeFinish w s
  | .recipeDrop w => Sys2Proof.Machine.execRecipeDrop w s
  | .recipeRead w => Sys2Proof.Machine.execRecipeRead w s
  | .nestLoad w => Sys2Proof.Machine.execNestLoad w s
  | .nestUnload w => Sys2Proof.Machine.execNestUnload w s
  | .nestClear w => Sys2Proof.Machine.execNestClear w s
  | .nestRead w => Sys2Proof.Machine.execNestRead w s
  | .boardRead w => Sys2Proof.Machine.execBoardRead w s
  | .tabRead w => Sys2Proof.Machine.execTabRead w s
  | .pickerClear w => Sys2Proof.Machine.execPickerClear w s
  | .bayConfig w => Sys2Proof.Machine.execBayConfig w s
  | .bayPreset w => Sys2Proof.Machine.execBayPreset w s
  | .bayRead w => Sys2Proof.Machine.execBayRead w s
  | .undefinedRequest kind w => Sys2Proof.Machine.execUndefinedRequest kind w s
  | .supplyApplied => Sys2Proof.Machine.execSupplyApplied s

end Sys2Proof.Machine
end

