-- ==== Sys2Proof/WellFormed.lean ====
section
/-! DEFINITION. Which commands can be sent: the operands each row's rule allows it to stand for. -/

namespace Sys2Proof

/-- R117, R118: the speed of a SPIN item, payload bytes 4 and 5. -/
def Wire.spinSpeed (w : Wire) : Nat := (w.payload.extractLsb' 0 16).toNat

/-- A command stands for an item, event or request its row names: a SPIN start has a speed above 0 (R117) and a SPIN stop
has speed 0 (R118); an UNDEFINED_REQUEST has a kind of 5Fh to 7Fh (R170); a placement's board index is 0 to 63 (R1, R90).
Every other row takes every value of its operands. -/
def Instr.wellFormed : Instr → Bool
  | .spinStart w => decide (w.spinSpeed ≠ 0)
  | .spinStop w => decide (w.spinSpeed = 0)
  | .undefinedRequest kind _ => decide (0x5F ≤ kind.toNat) && decide (kind.toNat ≤ 0x7F)
  | .placeTimerExpiry _ board => decide (board < 64)
  | .frameArrival _ _ | .itemPass _ _ | .cut _ | .feed _ | .grip _ | .openJaws _ | .lift _ | .place _ | .shuttle _
  | .haltFrame | .insertion | .returnFill | .cutDone _ | .laneState _ | .gripState _ | .tableState _ | .bayState _
  | .placeDone _ | .cutTimerExpiry _ | .jawTimerExpiry _ | .spinDownTimerExpiry _ | .recoveryTimerExpiry _
  | .coolDownTimerExpiry _ | .restoreTimerExpiry _ | .cycleWatchdogExpiry | .stopsenseChange _ | .filterTimerExpiry
  | .powerOnReset _ | .nresetAssert | .pinReset _ | .statusRead _ | .run _ | .halt _ | .reset _ | .roleSet _
  | .timingSet _ | .alertMask _ | .lock _ | .laneConfig _ | .governorSet _ | .lifeSet _ | .wearPreset _ | .bitChange _
  | .laneClear _ | .laneRead _ | .recipeOpen _ | .recipeBoards _ | .recipeTabs _ | .recipeFinish _ | .recipeDrop _
  | .recipeRead _ | .nestLoad _ | .nestUnload _ | .nestClear _ | .nestRead _ | .boardRead _ | .tabRead _ | .pickerClear _
  | .bayConfig _ | .bayPreset _ | .bayRead _ | .supplyApplied => true

end Sys2Proof
end

