-- ==== Sys2Proof/Safety.lean ====
section
/-! DEFINITION. The invariants the spec states of the records, in the terms the statements use. -/

namespace Sys2Proof.Machine

/-- A property of both nests. -/
abbrev BothNests (P : Nest → Prop) : Prop := P .a ∧ P .b

/-! ### The ports, the line, the role table and the return path -/

/-- R134, R135: a port's error count, DEGRADED flag, state and recovery run agree. -/
abbrev PortRec.Ok (p : PortRec) : Prop :=
  p.errors ≤ 255 ∧ p.run ≤ 64 ∧ (p.state = .down ↔ p.errors = 255) ∧ (p.state = .down → p.run < 64) ∧
    (96 ≤ p.errors → p.degraded = true) ∧ (p.errors < 64 → p.degraded = false)

/-- R145, R147: the queues stay within their sizes, and notices are lost only while the queue is full. -/
abbrev ReturnPath.Ok (r : ReturnPath) : Prop :=
  r.answers.length ≤ 16 ∧ r.notices.length ≤ 32 ∧ r.lost ≤ 65535 ∧ (r.overflow = true ↔ 0 < r.lost) ∧
    (r.overflow = true → r.notices.length = 32)

/-- R138: an address stands in one entry at most, is 1 to 62, and is not the own address, which is 1 to 62 as well (R156). -/
abbrev State.RolesOk (s : State) : Prop :=
  (s.line.ownAddr ≠ 0 ∧ s.line.ownAddr ≠ 63) ∧
  (∀ i : Fin 8, s.roles[i] ≠ some 0 ∧ s.roles[i] ≠ some 63 ∧ s.roles[i] ≠ some s.line.ownAddr) ∧
  (∀ i j : Fin 8, s.roles[i] = s.roles[j] → s.roles[i] ≠ none → i = j)

/-- R150, R142, R143: the line is HELD exactly while a hold cause stands, and the watchdog's part stands only while it is stopped. -/
abbrev State.LineOk (s : State) : Prop :=
  (s.line.state = .held ↔ s.holdSet.isEmpty = false) ∧ (s.line.watchdogHold = true → s.line.watchdog = none)

/-- R133: every frame that has left a port, or is in passage, holds 24 items at the most, and what left carries a good check word. -/
abbrev State.FramesOk (s : State) : Prop :=
  (∀ f ∈ s.down, f.out.length + f.todo.length ≤ 24) ∧ (∀ f ∈ s.up, f.items.length ≤ 24) ∧
    (∀ b ∈ s.sentD, (parseFrame b).isSome = true) ∧ (∀ b ∈ s.sentU, (parseFrame b).isSome = true)

/-- The invariant of the ports, the line, the role table, the frames and the return path. -/
abbrev State.LinkInv (s : State) : Prop :=
  s.portU.Ok ∧ s.portD.Ok ∧ s.ret.Ok ∧ s.RolesOk ∧ s.LineOk ∧ s.FramesOk

/-! ### Lanes -/

/-- R36, R105, R115, R118, R125: the lane's state agrees with its binding, timers, causes, spindle and park hold. -/
abbrev Lane.Ok (l : Lane) : Prop :=
  (l.state = .cutting ↔ l.binding.isSome = true) ∧ (l.state = .cutting ↔ l.cutTimer.isSome = true) ∧
  (l.state = .inactive ∨ l.state = .ready ∨ l.state = .parked → l.causes.isEmpty = true) ∧
  (l.state = .error ∨ l.state = .recovering → l.causes.isEmpty = false) ∧
  (l.state = .recovering ↔ l.recoveryTimer.isSome = true) ∧
  (l.state = .recovering → l.recoveryMode = .auto ∧ l.causes.latching = false) ∧
  (l.state = .inactive → l.spindle = .stopped) ∧
  (l.spinDownTimer.isSome = true → l.spindle = .spinningDown) ∧
  (l.state = .parked → l.life.parkHold = true) ∧ (l.state = .ready → l.life.parkHold = false)

/-- R100, R102, R103: the wear accumulator and the levels stay in their ranges, and the flags follow them. -/
abbrev Life.Ok (l : Life) : Prop :=
  l.wear ≤ 16777215 ∧ 1 ≤ l.warn ∧ l.warn ≤ l.limit ∧ l.limit ≤ 16777215 ∧
    (l.warned = true ↔ l.warn ≤ l.wear) ∧ (l.reached = true ↔ l.limit ≤ l.wear)

/-- R119 to R122: the governor's state agrees with its mode, override and timers, and its settings are in range. -/
abbrev Governor.Ok (g : Governor) : Prop :=
  g.level ≤ 7 ∧ (5 ≤ g.mask ∧ g.mask ≤ 500) ∧ (100 ≤ g.coolDown ∧ g.coolDown ≤ 10000) ∧
  (500 ≤ g.restore ∧ g.restore ≤ 60000) ∧
  (g.mode = .trip → g.state = .normal) ∧ (g.state ≠ .stepped → g.override = 100) ∧
  (g.state = .stepped → g.override ∈ [85, 70, 55, 40, 25] ∧ g.overRun = none) ∧
  (g.state = .stepped ↔ g.coolTimer.isSome = true) ∧ (g.state = .fallback ↔ g.restoreTimer.isSome = true)

/-- The invariant of the lanes. -/
abbrev State.LaneInv (s : State) : Prop :=
  ∀ i : LaneId, (s.lane i).Ok ∧ (s.lane i).life.Ok ∧ (s.lane i).gov.Ok

/-! ### Recipes -/

/-- R1, R5, R7, R9: what a slot holds in each of its states. -/
abbrev RecipeSlot.Ok (r : RecipeSlot) : Prop :=
  (r.state = .empty → r = RecipeSlot.cleared) ∧
  (r.state ≠ .empty → (1 ≤ r.boards.length ∧ r.boards.length ≤ 64) ∧ (1 ≤ r.tabs.length ∧ r.tabs.length ≤ 256)) ∧
  (∀ b ∈ r.boards, ∀ t ∈ b, (1 ≤ t.variant ∧ t.variant ≤ 255) ∧ (5 ≤ t.height ∧ t.height ≤ 400) ∧ 1 ≤ t.hold ∧ t.hold ≤ 4) ∧
  (∀ b ∈ r.tabs, ∀ t ∈ b, t.board < r.boards.length ∧ ∀ c ∈ t.cap, 1 ≤ c ∧ c ≤ 200) ∧
  (r.state = .ready → r.firstFault = none ∧ r.tabLists = (List.range r.boards.length).map r.tabListOf) ∧
  (r.state ≠ .ready → r.useCount = 0)

/-- R12: the nests loaded from a slot. -/
def State.loadedFrom (s : State) (i : SlotId) : Nat :=
  (if s.nests.a.state ≠ .empty ∧ s.nests.a.slot = i then 1 else 0) +
    (if s.nests.b.state ≠ .empty ∧ s.nests.b.slot = i then 1 else 0)

/-- R1, R2, R12: the slots, the pools and the use counts. -/
abbrev State.RecipeInv (s : State) : Prop :=
  (∀ i : SlotId, (s.recipe i).Ok ∧ (s.recipe i).useCount = s.loadedFrom i) ∧
  (s.recipes.toList.map fun r => r.boards.length).sum ≤ 256 ∧ (s.recipes.toList.map fun r => r.tabs.length).sum ≤ 1024

/-! ### Pickers, boards and nests -/

/-- R60: a picker's binding, sent-for board and jaw timer agree with its state. -/
abbrev Picker.Ok (k : Picker) : Prop :=
  (k.state = .holding → k.board.isSome = true) ∧
  (k.state = .empty ∨ k.state = .opening ∨ k.state = .jammed → k.board = none) ∧
  (k.state = .closing ↔ k.sentFor.isSome = true) ∧
  (k.state = .closing ∨ k.state = .opening ↔ k.jawTimer.isSome = true) ∧
  (k.state = .closing → k.board = none ∨ k.board = k.sentFor)

/-- R61: the binding of a board agrees with its state and its picker. -/
abbrev State.BoardBound (s : State) (r : BoardRef) (b : BoardRec) : Prop :=
  (b.state = .held ∨ b.state = .freed ∨ b.state = .inTransit → b.picker.isSome = true) ∧
  (b.state = .placing ∨ b.state.terminal = true → b.picker = none) ∧
  (∀ p ∈ b.picker, (s.picker p).board = some r ∧
    (s.picker p).state = if b.state = .attached then .closing else .holding)

/-- R17, R23: the records of a nest in its states. -/
abbrev NestRec.Ok (r : NestRec) : Prop :=
  (r.state = .empty → r.boards = [] ∧ r.tabs = [] ∧ r.vacuumFlag = false) ∧
  (r.state = .cleared → r.boards.all (fun b => b.state.terminal) = true)

/-- The invariant of custody (R60, R61), with the nests' states. -/
abbrev State.CustodyInv (s : State) : Prop :=
  (∀ p : PickerId, (s.picker p).Ok ∧ ∀ r ∈ (s.picker p).board, (s.boardAt r).map BoardRec.picker = some (some p)) ∧
  BothNests fun n => (s.nest n).Ok ∧
    ∀ j : Fin (s.nest n).boards.length, s.BoardBound { nest := n, board := j } (s.nest n).boards[j]

/-- R18: what a board record takes from its template stays in the template's range (R5). -/
abbrev BoardRec.TemplateOk (b : BoardRec) : Prop :=
  (1 ≤ b.variant ∧ b.variant ≤ 255) ∧ (5 ≤ b.height ∧ b.height ≤ 400) ∧ 1 ≤ b.hold ∧ b.hold ≤ 4

/-- The invariant of the fixed fields of the board records (R18). -/
abbrev State.BoardInv (s : State) : Prop := BothNests fun n => ∀ b ∈ (s.nest n).boards, b.TemplateOk

/-! ### Cuts -/

/-- R19, R36: a tab is CUTTING exactly while it has a lane, whose binding names it. -/
abbrev State.TabBound (s : State) (n : Nest) (i : Nat) (t : TabRec) : Prop :=
  (t.state = .cutting ↔ t.lane.isSome = true) ∧ t.board < (s.nest n).boards.length ∧
  ∀ l ∈ t.lane, (s.lane l).binding.map (fun b => (b.nest, b.tab)) = some (n, i)

/-- A tab that still holds its board: INTACT or FAULTED (R18). -/
def TabRec.holds (t : TabRec) : Bool := decide (t.state = .intact) || decide (t.state = .faulted)

/-- R18: the uncut count is the number of the board's tabs that are INTACT or FAULTED, its tab list is that of the records,
and a board that has come off the frame has every tab CUT. -/
abbrev NestRec.BoardCount (r : NestRec) (j : Nat) (b : BoardRec) : Prop :=
  b.tabs = (List.range r.tabs.length).filter (fun t => decide ((r.tabs[t]?).map TabRec.board = some j)) ∧
  b.uncut = b.tabs.countP (fun t => (r.tabs[t]?).any TabRec.holds) ∧
  (b.state ≠ .attached ∧ b.state ≠ .held → r.allCut b = true)

/-- The invariant of the cuts in flight and of the uncut counts (R18, R19, R36). -/
abbrev State.CutInv (s : State) : Prop :=
  (∀ i : LaneId, ∀ b ∈ (s.lane i).binding,
    ((s.nest b.nest).tabs[b.tab]?).map (fun t => (t.state, t.lane)) = some (.cutting, some i)) ∧
  BothNests fun n =>
    (∀ t : Fin (s.nest n).tabs.length, s.TabBound n t (s.nest n).tabs[t]) ∧
    (∀ j : Fin (s.nest n).boards.length, (s.nest n).BoardCount j (s.nest n).boards[j])

/-! ### Bays and placements -/

/-- R77: a bay's configuration is in range. -/
abbrev BayKind.Ok : BayKind → Prop
  | .none => True
  | .normal v slots pitch _ => (1 ≤ v ∧ v ≤ 255) ∧ (1 ≤ slots ∧ slots ≤ 120) ∧ 10 ≤ pitch ∧ pitch ≤ 200
  | .reject capacity => 1 ≤ capacity ∧ capacity ≤ 500

/-- R77, R78: a bay's state agrees with its kind and presence, and it has a table exactly where the spec gives it one. -/
abbrev Bay.Ok (b : Bay) : Prop :=
  b.kind.Ok ∧ (b.state = .inactive ↔ b.kind = .none) ∧
  (b.state = .ready ∨ b.state = .full ∨ b.state = .uncertain → b.presence = .present) ∧
  (b.state = .absent → b.presence ≠ .present) ∧
  (b.table.isSome = true ↔ b.kind.code = 1 ∧ (b.state = .ready ∨ b.state = .full)) ∧
  (∀ t ∈ b.table, t.slots.length = b.kind.limit ∧ t.cursor ≤ t.slots.length) ∧
  (b.kind.isReject = false → b.reserved = 0 ∧ b.placed = 0) ∧ (b.kind.isReject = true → b.placed ≤ b.kind.limit) ∧
  (b.state = .ready ∨ b.state = .full ∨ b.reserved = 0)

/-- The invariant of the bays' configurations and tables: at most one is REJECT (R77). -/
abbrev State.BayInv (s : State) : Prop :=
  (∀ i : BayId, (s.bay i).Ok) ∧
  (∀ i j : BayId, (s.bay i).kind.isReject = true → (s.bay j).kind.isReject = true → i = j)

/-- R78: every slot before the cursor in fill order is assigned, and every slot at or after it is EMPTY. -/
abbrev SlotTable.Ordered (t : SlotTable) (dir : FillDir) : Prop :=
  ∀ p : Fin t.slots.length,
    (t.slots.getD (slotAt dir t.slots.length p) .empty = .empty ↔ t.cursor ≤ p.val)

/-- R88, R90: an open placement's board is on its way with that destination. -/
abbrev State.PlacementOk (s : State) (p : Placement) : Prop :=
  ((s.boardAt p.ref).map fun b => (b.state, b.dest)) = some (.inTransit, some p.dest) ∨
  ((s.boardAt p.ref).map fun b => (b.state, b.dest)) = some (.placing, some p.dest)

/-- R88: the slots RESERVED for a board in a bay are its run. -/
abbrev State.RunOk (s : State) (p : Placement) : Prop :=
  match (s.bay p.dest.bay).kind, (s.bay p.dest.bay).table with
  | .normal _ _ _ dir, some t => 1 ≤ p.dest.span ∧
      ∀ j ∈ runSlots dir p.dest.first p.dest.span, t.slots[j]? = some (.reserved p.ref)
  | .reject _, _ => p.dest.first = 0 ∧ p.dest.span = 1
  | _, _ => False

/-- R88: a slot RESERVED in a bay belongs to an open placement whose run holds it. -/
abbrev State.SlotsOwned (s : State) (i : BayId) : Prop :=
  match (s.bay i).kind, (s.bay i).table with
  | .normal _ _ _ dir, some t => t.Ordered dir ∧ ∀ j : Fin t.slots.length,
      match t.slots[j] with
      | .reserved r => ∃ p ∈ s.placements, p.ref = r ∧ p.dest.bay = i ∧ j.val ∈ runSlots dir p.dest.first p.dest.span
      | _ => True
  | _, _ => True

/-- R96: a bay READY has room, and the REJECT bay is FULL exactly while its counts reach its capacity. -/
abbrev Bay.FullOk (b : Bay) : Prop :=
  match b.kind with
  | .normal _ slots _ _ => b.state = .ready → ∀ t ∈ b.table, t.cursor < slots
  | .reject capacity => (b.state = .ready → b.reserved + b.placed < capacity) ∧ (b.state = .full → capacity ≤ b.reserved + b.placed)
  | .none => True

/-- R88, R90: a board with a destination that has not reached an end has an open placement. -/
abbrev State.DestOk (s : State) (r : BoardRef) (b : BoardRec) : Prop :=
  (b.state = .placing → b.dest.isSome = true) ∧
  (b.state = .inTransit ∨ b.state = .placing → ∀ d ∈ b.dest, ∃ p ∈ s.placements, p.ref = r ∧ p.dest = d) ∧
  (b.state = .attached ∨ b.state = .held ∨ b.state = .freed → b.dest = none)

/-- The invariant of the open placements and the slots (R78, R88, R90, R96). -/
abbrev State.PlaceInv (s : State) : Prop :=
  (s.placements.map Placement.ref).Nodup ∧ (∀ p ∈ s.placements, s.PlacementOk p ∧ s.RunOk p) ∧
  (∀ i : BayId, s.SlotsOwned i ∧ (s.bay i).FullOk ∧
    ((s.bay i).kind.isReject = true → (s.bay i).reserved = s.openIn i)) ∧
  BothNests fun n => ∀ j : Fin (s.nest n).boards.length, s.DestOk { nest := n, board := j } (s.nest n).boards[j]

/-! ### What the statements say of the walk (R136, R137, R140, R158)

A command that is an item acts when that item is the next one of the frame in walk; these say when that is and what a frame
looks like once the item has been dealt with. -/

/-- The order frame in walk has this item next. -/
def State.Walking (s : State) (f : DownFrame) (rest : List DownFrame) (it : Item) (more : List Item) : Prop :=
  s.down = f :: rest ∧ f.isHalt = false ∧ f.todo = it :: more

/-- The state with the walked item among those that will leave, as it will leave. -/
def State.walkedOn (s : State) (f : DownFrame) (rest : List DownFrame) (more : List Item) (it : Item) : State :=
  { s with down := { f with todo := more, out := f.out ++ [it] } :: rest }

/-- The return frame in walk has this report next. -/
def State.Reporting (s : State) (f : UpFrame) (rest : List UpFrame) (it : Item) (more : List Item) : Prop :=
  s.up = f :: rest ∧ f.todo = it :: more

/-- The state with the walk of the return frame past the report. -/
def State.reportedOn (s : State) (f : UpFrame) (rest : List UpFrame) (more : List Item) : State :=
  { s with up := { f with todo := more } :: rest }

/-- The item carries the DG740's own address, which is none of 63 (R156). -/
def State.OwnItem (s : State) (w : Wire) : Prop := s.line.ownAddr ≠ 63 ∧ stationOf w.addr = s.line.ownAddr

/-- The item carries the address a role maps to, in a role table that keeps R138. -/
def State.RoleItem (s : State) (r : Role) (w : Wire) : Prop := s.RolesOk ∧ s.addrOf r = some (stationOf w.addr)

/-- R147: the answer queue has room. -/
def State.AnswerRoom (s : State) : Prop := s.ret.answers.length < 16

/-- A request of a kind is next in the walk, is addressed to the DG740, and there is room for its answer. -/
def State.Asked (s : State) (f : DownFrame) (rest : List DownFrame) (kind : Byte) (w : Wire) (more : List Item) : Prop :=
  s.Walking f rest (itemOf kind w) more ∧ s.OwnItem w ∧ s.AnswerRoom

/-- R158, R169: the state with an answer to the request queued. -/
def State.answered (s : State) (kind : Byte) (w : Wire) (r : Result) (fields : List Byte) : State :=
  { s with ret := { s.ret with
      answers := s.ret.answers ++ [{ tag := w.tag, kind := kind, result := r, fields := fields }] } }

/-- What a request does at its end: an answer is queued, and the item goes on unchanged. -/
def State.answeredOn (s : State) (f : DownFrame) (rest : List DownFrame) (kind : Byte) (w : Wire) (more : List Item)
    (r : Result) (fields : List Byte) : State :=
  (s.answered kind w r fields).walkedOn f rest more (itemOf kind w)

/-- R139: the state with an item voided by a code, its REFUSED notice queued. -/
def State.voidedOn (s : State) (f : DownFrame) (rest : List DownFrame) (kind : Byte) (w : Wire) (more : List Item)
    (code : RefusalCode) : State :=
  (post w.tag (.refused kind code w.tag) s).walkedOn f rest more (voidItem (itemOf kind w) code)

/-- The code of the first check that fails, where each check stands beside the code its failure gives. -/
def firstFailing (checks : List (Bool × RefusalCode)) : Option RefusalCode :=
  (checks.find? fun c => !c.1).map Prod.snd

/-- The gated rows with the kind and the bytes of their items (R137). -/
def gatedItem : Instr → Option (Byte × Wire)
  | .cut w => some (0x10, w)
  | .spinStart w | .spinStop w => some (0x11, w)
  | .feed w => some (0x12, w)
  | .grip w => some (0x13, w)
  | .openJaws w => some (0x14, w)
  | .lift w => some (0x15, w)
  | .place w => some (0x16, w)
  | .shuttle w => some (0x17, w)
  | _ => none

/-- R137: the roles a gated kind belongs to. -/
def gatedRoles (kind : Byte) : List Role :=
  if kind.toNat ≤ 0x12 then [.lane 0, .lane 1, .lane 2, .lane 3]
  else if kind.toNat ≤ 0x16 then [.picker 0, .picker 1] else [.table]

/-- The rows that are requests, with the kind and the bytes of their items (R168, R170). -/
def requestItem : Instr → Option (Byte × Wire)
  | .statusRead w => some (0x40, w) | .run w => some (0x41, w) | .halt w => some (0x42, w) | .reset w => some (0x43, w)
  | .roleSet w => some (0x44, w) | .timingSet w => some (0x45, w) | .alertMask w => some (0x46, w) | .lock w => some (0x47, w)
  | .laneConfig w => some (0x48, w) | .governorSet w => some (0x49, w) | .lifeSet w => some (0x4A, w)
  | .wearPreset w => some (0x4B, w) | .bitChange w => some (0x4C, w) | .laneClear w => some (0x4D, w)
  | .laneRead w => some (0x4E, w) | .recipeOpen w => some (0x4F, w) | .recipeBoards w => some (0x50, w)
  | .recipeTabs w => some (0x51, w) | .recipeFinish w => some (0x52, w) | .recipeDrop w => some (0x53, w)
  | .recipeRead w => some (0x54, w) | .nestLoad w => some (0x55, w) | .nestUnload w => some (0x56, w)
  | .nestClear w => some (0x57, w) | .nestRead w => some (0x58, w) | .boardRead w => some (0x59, w)
  | .tabRead w => some (0x5A, w) | .pickerClear w => some (0x5B, w) | .bayConfig w => some (0x5C, w)
  | .bayPreset w => some (0x5D, w) | .bayRead w => some (0x5E, w)
  | .undefinedRequest kind w => if 0x5F ≤ kind.toNat ∧ kind.toNat ≤ 0x7F then some (kind, w) else none
  | _ => none

/-- The rows that are reports, with the kind and the bytes of their items and the roles they belong to (R140). -/
def reportItem : Instr → Option (Byte × Wire × List Role)
  | .cutDone w => some (0x20, w, [.lane 0, .lane 1, .lane 2, .lane 3])
  | .laneState w => some (0x21, w, [.lane 0, .lane 1, .lane 2, .lane 3])
  | .gripState w => some (0x22, w, [.picker 0, .picker 1])
  | .tableState w => some (0x23, w, [.table])
  | .bayState w => some (0x24, w, [.elevator])
  | .placeDone w => some (0x25, w, [.elevator])
  | _ => none

/-- R145: notices queued one after another. -/
def ReturnPath.postAll (r : ReturnPath) (l : List Posted) : ReturnPath := l.foldl ReturnPath.post r

/-- R150: the line state under a hold-cause set that was `before` and is `after`, and the LINE-CHANGE notices of the change. -/
def lineLaw (before after : HoldSet) (l : LineState) : LineState × List Posted :=
  if before = after then (l, [])
  else if after.isEmpty = false then (.held, [⟨0, .lineChange .held after⟩])
  else if l = .held then (.idle, [⟨0, .lineChange .idle after⟩])
  else (l, [])

/-- R150 with R145: the line judged on the hold causes that stand, which were `before`. -/
def State.lineJudged (s : State) (before : HoldSet) : State :=
  { s with line := { s.line with state := (lineLaw before s.holdSet s.line.state).1 },
           ret := s.ret.postAll (lineLaw before s.holdSet s.line.state).2 }

/-- The clock brought to the end of a timer (log 1). -/
def State.runTo (s : State) (ends : Nat) : State := { s with now := max s.now ends }

/-! ### Insertion, in closed form (R141) -/

/-- A pending item of a lane. -/
inductive Due where
  | abort (i : LaneId)
  | stop (i : LaneId)
  | feed (i : LaneId) (percent : Nat)
  deriving DecidableEq, Repr

def Due.lane : Due → LaneId
  | .abort i | .stop i | .feed i _ => i

/-- R141, step 1: the frame already carries the lane's order. -/
def State.carries (s : State) (items : List Item) (i : LaneId) (kind : Byte) : Bool :=
  match s.addrOf (.lane i) with
  | some a => items.any fun it => it.kind == kind && stationOf it.addr == a && (kind != 0x11 || payloadHalf it.payload 4 == 0)
  | none => false

/-- R141, steps 2 and 3: what is to be inserted, in order, for lanes whose role maps to an address. -/
def State.dues (s : State) (items : List Item) : List Due :=
  let mapped := [(0 : LaneId), 1, 2, 3].filter fun i => (s.addrOf (.lane i)).isSome
  (mapped.filter fun i => (s.lane i).pend.abort && !s.carries items i 0x18).map Due.abort ++
    (mapped.filter fun i => (s.lane i).pend.stop && !s.carries items i 0x11).map Due.stop ++
      mapped.filterMap fun i => (s.lane i).pend.feed.map (Due.feed i)

/-- R141: the item inserted for a pending one. -/
def State.dueItem (s : State) (d : Due) : Item :=
  let addr := match s.addrOf (.lane d.lane) with | some a => a.setWidth 8 | none => 0
  match d with
  | .abort _ => { addr := addr, kind := 0x18, tag := 0xFFFF, payload := 0 }
  | .stop _ => { addr := addr, kind := 0x11, tag := 0xFFFF, payload := 0 }
  | .feed _ p => { addr := addr, kind := 0x12, tag := 0xFFFF, payload := BitVec.ofNat 96 (p % 256) }

/-- R118: a lane's spindle told to stop at a time. -/
def Lane.stopped (l : Lane) (now : Nat) : Lane :=
  if l.spindle = .runningUp ∨ l.spindle = .atSpeed then
    { l with spindle := .spinningDown, spinDownTimer := some (now + l.spinDownTimeout) }
  else l

/-- R141: a lane once its frame has carried what it carried and taken what was inserted. -/
def State.laneDelivered (s : State) (items : List Item) (taken : List Due) (i : LaneId) : Lane :=
  let l := s.lane i
  let l := { l with pend :=
    { abort := l.pend.abort && !s.carries items i 0x18 && !taken.contains (.abort i),
      stop := l.pend.stop && !s.carries items i 0x11 && !taken.contains (.stop i),
      feed := if taken.any fun d => match d with | .feed j _ => j == i | _ => false then none else l.pend.feed } }
  if taken.contains (.stop i) then l.stopped s.now else l

/-- R141: the items that leave with a walked frame, and the state with what they deliver delivered. -/
def State.inserted (s : State) (items : List Item) : State × List Item :=
  let taken := (s.dues items).take (24 - items.length)
  ({ s with lanes := Vector.ofFn fun i => s.laneDelivered items taken i }, items ++ taken.map s.dueItem)

/-! ### The return frame, in closed form (R146, R169) -/

/-- The number of items the first `k` answers go up as. -/
def partsOf (l : List Answer) (k : Nat) : Nat := ((l.take k).map answerParts).sum

/-- R146, R169: `k` answers are those that go into a room: all that fit whole, oldest first. -/
def AnswersFill (l : List Answer) (room k : Nat) : Prop :=
  k ≤ l.length ∧ partsOf l k ≤ room ∧ (k < l.length → room < partsOf l (k + 1))

/-- R146: the notices in the order they will go up, once one is to leave: the OVERFLOW notice is the newest. -/
def ReturnPath.toSend (r : ReturnPath) (room : Nat) : List Posted :=
  if r.overflow = true ∧ 0 < room ∧ r.notices ≠ [] then r.notices ++ [⟨0, .overflow r.lost⟩] else r.notices

/-- R146: the return path and the items added, when `k` answers and then notices go into a room. -/
def ReturnPath.filled (r : ReturnPath) (own : Station) (room k : Nat) : ReturnPath × List Item :=
  let left := room - partsOf r.answers k
  let sends := r.toSend left
  let cleared := r.overflow = true ∧ 0 < left ∧ r.notices ≠ []
  ({ r with answers := r.answers.drop k, notices := sends.drop left,
            overflow := r.overflow && !decide cleared, lost := if cleared then 0 else r.lost },
    (r.answers.take k).flatMap (answerItems own) ++ (sends.take left).map (noticeItem own))

/-! ### Terms of single chapters -/

/-- A setting brought to the nearer end of its range (R159). -/
def within (lo hi n : Nat) : Nat := if n < lo then lo else if hi < n then hi else n

/-- R144: the code an item of a halt frame is voided with, if it is. -/
def haltVoid (s : State) (it : Item) : Option RefusalCode :=
  let a := stationOf it.addr
  if ¬(0x10 ≤ it.kind.toNat ∧ it.kind.toNat ≤ 0x17) ∨ a = 63 ∨ a = s.line.ownAddr then none
  else if a = 0 then some .badAddress
  else match s.roleAt a with
    | none => none
    | some r =>
      if r ∉ gatedRoles it.kind then some .wrongRole
      else if it.kind = 0x11 ∧ payloadHalf it.payload 4 = 0 then none
      else some .halted

/-- R144: the item is a SPIN stop the lane takes. -/
def haltStops (s : State) (i : LaneId) (it : Item) : Bool :=
  let a := stationOf it.addr
  decide (it.kind = 0x11) && decide (payloadHalf it.payload 4 = 0) && decide (a ≠ 63) && decide (a ≠ s.line.ownAddr) &&
    decide (a ≠ 0) && decide (s.roleAt a = some (.lane i))

/-- R162: the eight settings in their order. -/
def Timing.nth (t : Timing) (n : Nat) : Nat :=
  [t.watchdog, t.stopFilter, t.jaw, t.place, t.vacMask.a, t.vacMask.b, t.vacLimit.a, t.vacLimit.b].getD n 0

/-- R162: the range of each setting, and its default. -/
def timingTable (n : Nat) : Nat × Nat × Nat :=
  [(2, 250, 20), (1, 50, 5), (50, 5000, 1500), (100, 30000, 5000), (10, 2000, 200), (10, 2000, 200), (10, 90, 40), (10, 90, 40)].getD
    n (0, 0, 0)

/-- R156: the own address of a reading of the straps. -/
def ownAddressOf (straps : Station) : Station := if straps = 0 ∨ straps = 63 then 62 else straps

/-- R7: the number of defined tab templates that name a board. -/
def tabsNaming (r : RecipeSlot) (board : Nat) : Nat :=
  ((List.range r.tabs.length).filter fun t => decide ((r.tabs.getD t none).map TabTemplate.board = some board)).length

/-- R9: an index fails a consistency check: BOARD-MISSING 0, TAB-MISSING 1, TAB-COUNT 2, HOLD-THRESHOLD 3. -/
def failsCheck (r : RecipeSlot) (check k : Nat) : Bool :=
  match check with
  | 0 => decide (k < r.boards.length) && (r.boards.getD k none).isNone
  | 1 => decide (k < r.tabs.length) && (r.tabs.getD k none).isNone
  | 2 => decide (k < r.boards.length) && (decide (tabsNaming r k < 1) || decide (16 < tabsNaming r k))
  | 3 => decide (k < r.boards.length) && (r.boards.getD k none).any fun t => decide (tabsNaming r k < t.hold)
  | _ => false

/-- R27, R28: a tab of the nest is CUTTING, a board is HELD or FREED, or a picker is CLOSING on one. -/
def State.Engaged (s : State) (n : Nest) : Prop :=
  (∃ t ∈ (s.nest n).tabs, t.state = .cutting) ∨
    ∃ b ∈ (s.nest n).boards, b.state = .held ∨ b.state = .freed ∨ ∃ p ∈ b.picker, (s.picker p).state = .closing

/-- The lanes with a pending ABORT given to each that is bound to a tab of a nest (R27, R31). -/
def State.lanesAborted (s : State) (n : Nest) : Vector Lane 4 :=
  s.lanes.map fun l => { l with pend := { l.pend with
    abort := l.pend.abort || decide (l.binding.map Binding.nest = some n) } }

/-- R39 to R41: the admission checks of a CUT, each beside the code its failure gives, in the order they are taken. -/
def cutChecks (s : State) (i : LaneId) (p : Payload) : List (Bool × RefusalCode) :=
  let l := s.lane i
  let n? := nestOfByte (payloadByte p 4)
  let t? := n?.bind fun n => (s.nest n).tabs[byteNat p 5]?
  let b? := n?.bind fun n => t?.bind fun t => (s.nest n).boards[t.board]?
  [(decide (s.line.state = .running), .halted),
   (decide (l.state ≠ .inactive), .laneInactive),
   (decide (l.state ≠ .error ∧ l.state ≠ .recovering), .laneFault),
   (decide (l.state ≠ .parked ∧ l.life.withheld = false ∧ l.bitChangeDue = false), .laneWithheld),
   (decide (l.state ≠ .cutting), .laneBusy),
   (decide (l.spindle = .atSpeed), .spinBlocked),
   (n?.any fun n => decide ((s.nest n).state = .loaded), .noNest),
   (n?.any fun n => decide (s.table.nest? = some n), .nestNotAtWork),
   (n?.any fun n => !(s.nest n).vacuumFlag, .nestFault),
   (t?.isSome, .noTab),
   (t?.any fun t => decide (t.state = .intact ∨ t.state = .faulted), .tabNotIntact),
   (b?.any fun b => decide (b.state = .attached ∨ b.state = .held), .boardState),
   (b?.any fun b => decide (b.hold ≤ b.uncut - 1 ∨ b.state = .held), .holdRequired)]

/-- R46: a CUT-DONE that matches the cut bound to the lane, with the tab and the board it concerns. -/
def State.CutReported (s : State) (i : LaneId) (p : Payload) (b : Binding) (t : TabRec) (x : BoardRec) : Prop :=
  (s.lane i).state = .cutting ∧ (s.lane i).binding = some b ∧ nestOfByte (payloadByte p 4) = some b.nest ∧
    byteNat p 5 = b.tab ∧ (s.nest b.nest).tabs[b.tab]? = some t ∧ (s.nest b.nest).boards[t.board]? = some x

/-- R46, step 1, with R101: the wear step of a CUT-DONE. -/
def State.worn (s : State) (i : LaneId) (w : Wire) : State :=
  rewear w.tag .report i (fun l => { l with
    wear := min 16777215 (l.wear + (halfNat w.payload 8 * (64 + min (byteNat w.payload 7) 200) + 64) / 128) }) s

/-- R85: ceil(h / p). -/
def ceilDiv (h p : Nat) : Nat := if h % p = 0 then h / p else h / p + 1

/-- R85, R87: a bay the variant route judges: NORMAL, READY and of the variant, with its slots, span and cursor. -/
def State.judgedBay (s : State) (variant height : Nat) (id : BayId) : Option (Nat × Nat × Nat × FillDir) :=
  match (s.bay id).kind, (s.bay id).table with
  | .normal v slots pitch dir, some t =>
    if v = variant ∧ (s.bay id).state = .ready then some (slots, ceilDiv height pitch, t.cursor, dir) else none
  | _, _ => none

/-- R85: the run a judged bay has room for. -/
def State.roomIn (s : State) (variant height : Nat) (id : BayId) : Option Destination :=
  match s.judgedBay variant height id with
  | some (slots, k, cursor, .up) => if k ≤ slots ∧ cursor + k ≤ slots then some ⟨id, cursor, k⟩ else none
  | some (slots, k, cursor, .down) => if k ≤ slots ∧ cursor + k ≤ slots then some ⟨id, slots - 1 - cursor, k⟩ else none
  | none => none

/-- R85: a judged bay that becomes FULL for want of room. -/
def State.noRoomIn (s : State) (variant height : Nat) (id : BayId) : Bool :=
  match s.judgedBay variant height id with
  | some (slots, k, cursor, _) => decide (k ≤ slots ∧ slots < cursor + k)
  | none => false

/-- R87: the state with the bays that the search judges before it ends made FULL, in order of bay number. -/
def State.searched (s : State) (tag : Half) (variant height : Nat) : State :=
  let judged := ([0, 1, 2, 3, 4, 5, 6, 7] : List BayId).takeWhile fun id => (s.roomIn variant height id).isNone
  (judged.filter (s.noRoomIn variant height)).foldl (fun s id => becomeFull tag id s) s

/-- R85, R88: a slot is one of the run of a destination, which goes up or down from its first slot. -/
def Destination.covers (d : Destination) (dir : FillDir) (j : Nat) : Bool :=
  match dir with
  | .up => decide (d.first ≤ j ∧ j < d.first + d.span)
  | .down => decide (j ≤ d.first ∧ d.first < j + d.span)

/-- R88: the table with the run of a destination RESERVED for a board, and the cursor past it. -/
def SlotTable.withRun (t : SlotTable) (dir : FillDir) (d : Destination) (r : BoardRef) : SlotTable :=
  { slots := t.slots.mapIdx fun j x => if d.covers dir j then .reserved r else x, cursor := t.cursor + d.span }

/-- R88: a run is reserved, the board takes its destination, and a placement record is opened. -/
def State.reservedFor (s : State) (tag cycle : Half) (r : BoardRef) (d : Destination) : State :=
  let s1 := modBay d.bay (fun b =>
    match b.kind, b.table with
    | .normal _ _ _ dir, some t => { b with table := some (t.withRun dir d r) }
    | .reject _, _ => { b with reserved := b.reserved + 1 }
    | _, _ => b) s
  let full : Bool := match (s1.bay d.bay).kind, (s1.bay d.bay).table with
    | .normal _ slots _ _, some t => decide (t.cursor = slots)
    | .reject capacity, _ => decide ((s1.bay d.bay).reserved + (s1.bay d.bay).placed = capacity)
    | _, _ => false
  let s2 := modBoard r (fun b => { b with dest := some d }) (if full then becomeFull tag d.bay s1 else s1)
  { s2 with placements := s.placements ++
      [{ ref := r, dest := d, cycle := cycle, sensed := none, deadline := s.now + s.timing.place }] }

/-- The slots of a run hold a state, and every other slot what it held (R88, R92, R93). -/
def SlotTable.runHolds (t t' : SlotTable) (dir : FillDir) (d : Destination) (v : SlotState) : Prop :=
  t'.cursor = t.cursor ∧ t'.slots.length = t.slots.length ∧ ∀ j : Fin t.slots.length,
    t'.slots.getD j .empty =
      if d.covers dir j then v else t.slots.getD j .empty

/-- R91: the open placement a PLACE-DONE matches: by bay and first slot in a NORMAL bay; in the REJECT bay the oldest whose board
is PLACING, or else the oldest. -/
def State.matched (s : State) (id : BayId) (first : Nat) : Option Placement :=
  let inBay := s.placements.filter fun x => decide (x.dest.bay = id)
  match (s.bay id).kind with
  | .normal .. => inBay.find? fun x => x.dest.first == first
  | .reject _ =>
    if first = 0 then
      match inBay.find? fun x => decide ((s.boardAt x.ref).map BoardRec.state = some .placing) with
      | some x => some x
      | none => inBay.head?
    else none
  | .none => none

/-- R83: one open placement of a removed magazine ends; its board loses its destination, and is LOST when PLACING (log 24). -/
def State.stripped (s : State) (tag : Half) (x : Placement) : State :=
  let b := (s.boardAt x.ref).map fun b =>
    if b.state = .inTransit then { b with dest := none }
    else if b.state = .placing then { b with state := .lost, dest := none } else b
  let s1 := modBoard x.ref (fun y => b.getD y)
    { s with placements := s.placements.filter fun y => decide (y.ref ≠ x.ref) }
  settleNest tag x.ref.nest
    (post tag (.placeFailed x.ref x.dest.bay x.dest.first .removed ((b.map BoardRec.state).getD .lost)) s1)

/-- R81 to R83: what a bay's reported presence does: an insertion starts the bay fresh, a removal ends its placements. -/
def State.bayReported (s : State) (tag : Half) (present : Bool) (id : BayId) : State :=
  let b := s.bay id
  let b1 : Bay := { b with presence := if present then .present else .notPresent }
  match b.kind, b.presence, present with
  | .normal _ slots _ _, .notPresent, true =>
    setBay id { b1 with state := .ready, table := some { slots := List.replicate slots .empty, cursor := 0 } } s
  | .reject _, .notPresent, true => setBay id { b1 with state := .ready, placed := 0 } s
  | .none, _, _ => setBay id b1 s
  | _, .present, false =>
    modBay id (fun b => { b with state := .absent, table := none, reserved := 0 })
      ((s.placements.filter fun x => decide (x.dest.bay = id)).foldl (fun s x => s.stripped tag x) (setBay id b1 s))
  | _, .unknown, true => setBay id { b1 with state := .uncertain } s
  | _, _, _ => setBay id b1 s

/-- R79, R84: the bay has an open placement. -/
def Bay.holdsPlacement (b : Bay) : Bool :=
  decide (0 < b.reserved) || b.table.any fun t => t.slots.any fun x => x.code == 1

end Sys2Proof.Machine
end

