-- ==== Sys2Proof/Certificates/Slice0/Obligations.lean ====
section
/-! DEFINITION. The statements about the model, written from the numbered rules of spec/. A statement about an item of a frame
says what its command answers when the item is the next one of the frame in walk (`State.Walking`, `State.Reporting`). -/

open Sys2Proof Sys2Proof.Machine

/-! ### The queue and the commands -/

/-- The block takes the command at the front of its queue; on an empty queue it idles for one tick of 1 ms (log 1, the model's
choice). -/
def Obligations.StepTakesTheFrontCommand : Prop :=
  (∀ (c : Instr) (rest : List Instr) (s : State),
    step { s with pending := c :: rest } = exec c { s with pending := rest }) ∧
  ∀ s : State, step { s with pending := [] } = .next { s with pending := [], now := s.now + 1 }

/-- No command faults or is refused, and none touches the queue, takes back a frame that has left a port, or moves the clock
or the counter of the free values back. -/
def Obligations.EveryCommandCompletes : Prop :=
  ∀ (c : Instr) (s : State), ∃ t, exec c s = .next t ∧ t.pending = s.pending ∧ s.now ≤ t.now ∧ s.free ≤ t.free ∧
    s.sentD <+: t.sentD ∧ s.sentU <+: t.sentU

/-- A timer that is stopped does not expire (log 2, the model's choice), and no timer expires during a reset (R163). -/
def Obligations.StoppedTimersDoNotExpire : Prop :=
  ∀ s : State,
    (∀ i : LaneId,
      ((s.lane i).cutTimer = none ∨ s.inReset = true → exec (.cutTimerExpiry i) s = .next s) ∧
      ((s.lane i).spinDownTimer = none ∨ s.inReset = true → exec (.spinDownTimerExpiry i) s = .next s) ∧
      ((s.lane i).recoveryTimer = none ∨ s.inReset = true → exec (.recoveryTimerExpiry i) s = .next s) ∧
      ((s.lane i).gov.coolTimer = none ∨ s.inReset = true → exec (.coolDownTimerExpiry i) s = .next s) ∧
      ((s.lane i).gov.restoreTimer = none ∨ s.inReset = true → exec (.restoreTimerExpiry i) s = .next s)) ∧
    (∀ p : PickerId, (s.picker p).jawTimer = none ∨ s.inReset = true → exec (.jawTimerExpiry p) s = .next s) ∧
    (∀ (n : Nest) (b : Nat), (∀ p ∈ s.placements, p.ref ≠ { nest := n, board := b }) ∨ s.inReset = true →
      exec (.placeTimerExpiry n b) s = .next s) ∧
    (s.line.watchdog = none ∨ s.inReset = true → exec .cycleWatchdogExpiry s = .next s) ∧
    (s.line.filterTimer = none ∨ s.inReset = true → exec .filterTimerExpiry s = .next s)

/-! ### Frames, ports and the walk (chapter 8) -/

/-- R133, R166: every frame of at most 24 items that the DG740 sends reads back as itself, and every run of bytes that passes
the check is byte for byte the frame it carries. -/
def Obligations.FramesReadBack : Prop :=
  (∀ f : LinkFrame, f.items.length ≤ 24 → parseFrame (frameBytes f) = some f) ∧
  ∀ (bs : List Byte) (f : LinkFrame), parseFrame bs = some f → frameBytes f = bs ∧ f.items.length ≤ 24

/-- R134, R135: what a frame that fails its check does at a port that is UP. The model's reading: the notices of one frame in
the order DEGRADED, PORT-DOWN, LINE-CHANGE (log 9). R135: what a frame does at a port that is DOWN: it is dropped, and 64 good
frames in a row bring the port UP. The model's reading: the recovery run stays 64 at a port that has come UP (log 11). R133,
R134, R142: what a good frame does at a port that is UP: the count falls, and the frame is handed on by its kind. -/
def Obligations.PortsJudgeTheirFrames : Prop :=
  (∀ (p : Port) (bytes : List Byte) (s : State),
     s.inReset = false → parseFrame bytes = none → (s.port p).state = .up →
     let r := s.port p
     let e := min 255 (r.errors + 8)
     let r' : PortRec :=
       if e = 255 then { state := .down, errors := 255, degraded := true, run := 0 }
       else { state := .up, errors := e, degraded := r.degraded || decide (96 ≤ e), run := r.run }
     let notes : List Posted :=
       (if 96 ≤ e ∧ r.degraded = false then [⟨0, .degraded p e⟩] else []) ++ (if e = 255 then [⟨0, .portDown p⟩] else [])
     exec (.frameArrival p bytes) s =
       .next (State.lineJudged { setPort p r' s with ret := s.ret.postAll notes } s.holdSet)) ∧
  (∀ (p : Port) (bytes : List Byte) (s : State), s.inReset = false → (s.port p).state = .down →
     let r := s.port p
     (parseFrame bytes = none → exec (.frameArrival p bytes) s = .next (setPort p { r with run := 0 } s)) ∧
     ((parseFrame bytes).isSome = true → r.run + 1 < 64 →
       exec (.frameArrival p bytes) s = .next (setPort p { r with run := r.run + 1 } s)) ∧
     ((parseFrame bytes).isSome = true → 64 ≤ r.run + 1 →
       exec (.frameArrival p bytes) s = .next (State.lineJudged
         { setPort p { state := .up, errors := 0, degraded := false, run := 64 } s with
           ret := s.ret.postAll [⟨0, .portRecovered p 0⟩] } s.holdSet))) ∧
  (∀ (p : Port) (bytes : List Byte) (f : LinkFrame) (s : State),
     s.inReset = false → parseFrame bytes = some f → (s.port p).state = .up →
     let r := s.port p
     let e := r.errors - 1
     let s1 : State := { setPort p { r with errors := e, degraded := r.degraded && decide (64 ≤ e) } s with
       ret := s.ret.postAll (if e < 64 ∧ r.degraded = true then [⟨0, .portRecovered p e⟩] else []) }
     exec (.frameArrival p bytes) s = .next (
       if p = .u ∧ f.kind = 0x01 then
         { State.lineJudged { s1 with line := { s1.line with
               watchdogHold := false, watchdog := some (s.now + s.timing.watchdog) } } s.holdSet with
           down := s.down ++ [{ isHalt := false, cycle := f.cycle, todo := f.items, out := [] }] }
       else if p = .u ∧ f.kind = 0x03 then
         { s1 with down := s.down ++ [{ isHalt := true, cycle := f.cycle, todo := f.items, out := [] }] }
       else if p = .d ∧ f.kind = 0x02 then
         let reports := f.items.filter fun it => decide (0x20 ≤ it.kind.toNat ∧ it.kind.toNat ≤ 0x25)
         { s1 with up := s.up ++ [{ cycle := f.cycle, items := f.items, todo := reports }] }
       else s1))

/-- R137: the address tests every gated row passes through, in their order. R137: an item passes untouched, and nothing else
changes. -/
def Obligations.AddressTestsJudgeTheGatedItems : Prop :=
  (∀ (c : Instr) (kind : Byte) (w : Wire) (s : State) (f : DownFrame) (rest : List DownFrame) (more : List Item),
     c.wellFormed = true → gatedItem c = some (kind, w) → s.Walking f rest (itemOf kind w) more →
     let a := stationOf w.addr
     (a = 63 ∨ a = s.line.ownAddr ∨ (a ≠ 0 ∧ ∀ r, s.addrOf r ≠ some a) →
       exec c s = .next (s.walkedOn f rest more (itemOf kind w))) ∧
     (a = 0 → s.line.ownAddr ≠ 0 → exec c s = .next (s.voidedOn f rest kind w more .badAddress)) ∧
     (∀ r, s.RoleItem r w → r ∉ gatedRoles kind → exec c s = .next (s.voidedOn f rest kind w more .wrongRole))) ∧
  (∀ (kind : Byte) (w : Wire) (s : State) (f : DownFrame) (rest : List DownFrame) (more : List Item),
     s.Walking f rest (itemOf kind w) more →
     let a := stationOf w.addr
     (a = 63 ∨
       (a = s.line.ownAddr ∧ ¬(0x40 ≤ kind.toNat ∧ kind.toNat ≤ 0x7F)) ∨
       (a ≠ s.line.ownAddr ∧ ¬(0x10 ≤ kind.toNat ∧ kind.toNat ≤ 0x17)) ∨
       (a ≠ s.line.ownAddr ∧ a ≠ 0 ∧ ∀ r, s.addrOf r ≠ some a)) →
     exec (.itemPass kind w) s = .next (s.walkedOn f rest more (itemOf kind w)))

/-- R139, R166: the sixteen bytes of a voided item. R43, R88, R117, R123, R166: a rewritten field holds its number least
significant byte first, and no other byte changes. -/
def Obligations.RewrittenItemsHoldTheirBytes : Prop :=
  (∀ (kind : Byte) (w : Wire) (code : RefusalCode),
     itemBytes (voidItem (itemOf kind w) code) =
       [w.addr, 0x1F] ++ leBytes 2 w.tag.toNat ++ [kind, code.code] ++ leBytes 2 w.tag.toNat ++ List.replicate 8 0) ∧
  (∀ (p : Payload) (n k v m : Nat), 4 ≤ n → n + k ≤ 16 → 4 ≤ m → m ≤ 15 →
     payloadByte (withField p n k v) m =
       if n ≤ m ∧ m < n + k then BitVec.ofNat 8 (v / 256 ^ (m - n)) else payloadByte p m)

/-- R147, R137: a request not at the own address passes unexecuted, and a full answer queue loses one at the own address.
R170: a request kind with no defined name. -/
def Obligations.RequestsPassOrAreLostOrUnnamed : Prop :=
  (∀ (c : Instr) (kind : Byte) (w : Wire) (s : State) (f : DownFrame) (rest : List DownFrame) (more : List Item),
     requestItem c = some (kind, w) → s.Walking f rest (itemOf kind w) more →
     (stationOf w.addr = 63 ∨ stationOf w.addr ≠ s.line.ownAddr →
       exec c s = .next (s.walkedOn f rest more (itemOf kind w))) ∧
     (s.OwnItem w → 16 ≤ s.ret.answers.length →
       exec c s = .next (State.walkedOn { s with ret := { s.ret with answerLost := true } } f rest more (itemOf kind w)))) ∧
  (∀ (kind : Byte) (w : Wire) (s : State) (f : DownFrame) (rest : List DownFrame) (more : List Item),
     0x5F ≤ kind.toNat → kind.toNat ≤ 0x7F → s.Asked f rest kind w more →
     exec (.undefinedRequest kind w) s = .next (s.answeredOn f rest kind w more .badArgument []))

/-- R141, R148: a walked order frame is topped up and leaves, and while Port D is DOWN a return frame is built for it. The
model's readings: an item's address is compared with the role table as it stands at the insertion (log 7), and a full frame,
too, counts an order it carries as delivered (log 26). -/
def Obligations.InsertionFillsTheRoom : Prop :=
  ∀ (s : State) (f : DownFrame) (rest : List DownFrame), s.down = f :: rest → f.isHalt = false → f.todo = [] →
    let r := State.inserted { s with down := rest } f.out
    let sent := s.sentD ++ [frameBytes { kind := 0x01, cycle := f.cycle, items := r.2 }]
    (s.portD.state = .up → exec .insertion s = .next { r.1 with sentD := sent, lastOrder := f.cycle }) ∧
    (s.portD.state = .down → ∃ k, AnswersFill s.ret.answers 24 k ∧
      let b := s.ret.filled s.line.ownAddr 24 k
      exec .insertion s = .next { r.1 with
        sentD := sent, lastOrder := f.cycle, ret := b.1,
        sentU := s.sentU ++ [frameBytes { kind := 0x02, cycle := f.cycle, items := b.2 }] })

/-- R144: a HALT frame from the cell master is judged item by item, topped up by R141 and sent, and nothing else changes. The
model's readings: addresses are compared at the insertion (log 7), and a full frame counts an order it carries as delivered
(log 26). R143: the watchdog raises its hold cause, and one halt frame stops every cut and every spindle it can reach. The
model's choices: the clock is brought to the watchdog's end (log 1), and the items carry the tag FFFFh (log 6). -/
def Obligations.HaltFramesStopTheCell : Prop :=
  (∀ (s : State) (f : DownFrame) (rest : List DownFrame), s.down = f :: rest → f.isHalt = true →
     let items := f.todo.map fun it => match haltVoid s it with | some c => voidItem it c | none => it
     let notes := f.todo.filterMap fun it => (haltVoid s it).map fun c => (⟨it.tag, .refused it.kind c it.tag⟩ : Posted)
     let s1 : State := { s with
       down := rest, ret := s.ret.postAll notes,
       lanes := Vector.ofFn fun i => if f.todo.any (haltStops s i) then (s.lane i).stopped s.now else s.lane i }
     let r := s1.inserted items
     exec .haltFrame s =
       .next { r.1 with sentD := s.sentD ++ [frameBytes { kind := 0x03, cycle := f.cycle, items := r.2 }] }) ∧
  (∀ (s : State) (ends : Nat), s.line.watchdog = some ends → s.inReset = false →
     let s1 := State.lineJudged
       { s.runTo ends with line := { s.line with watchdogHold := true, watchdog := none } } s.holdSet
     let mapped := [(0 : LaneId), 1, 2, 3].filter fun i => (s.addrOf (.lane i)).isSome
     let aborts := mapped.filter fun i => decide ((s.lane i).state = .cutting)
     let stops := mapped.filter fun i => decide ((s.lane i).spindle ≠ .stopped)
     let items := aborts.map (fun i => s.dueItem (.abort i)) ++ stops.map (fun i => s.dueItem (.stop i))
     exec .cycleWatchdogExpiry s = .next { s1 with
       sentD := s.sentD ++ [frameBytes { kind := 0x03, cycle := s.lastOrder, items := items }],
       lanes := Vector.ofFn fun i =>
         let l := s.lane i
         let l := { l with pend := { l.pend with
           abort := l.pend.abort && !aborts.contains i, stop := l.pend.stop && !stops.contains i } }
         if stops.contains i then l.stopped (max s.now ends) else l })

/-- R146, R169: a walked return frame leaves with its items as written, then whole answers, then notices. -/
def Obligations.ReturnFrameTakesAnswersThenNotices : Prop :=
  ∀ (s : State) (f : UpFrame) (rest : List UpFrame), s.up = f :: rest → f.todo = [] →
    ∃ k, AnswersFill s.ret.answers (24 - f.items.length) k ∧
      let b := s.ret.filled s.line.ownAddr (24 - f.items.length) k
      exec .returnFill s = .next { s with
        up := rest, ret := b.1,
        sentU := s.sentU ++ [frameBytes { kind := 0x02, cycle := f.cycle, items := f.items ++ b.2 }] }

/-- R140: a report from an address that maps to none of the roles it belongs to is not taken. R170: a report with an undefined
named value is not taken in any part; a BAD-REPORT notice is queued. -/
def Obligations.ReportsThatAreNotTaken : Prop :=
  (∀ (c : Instr) (kind : Byte) (w : Wire) (roles : List Role) (s : State) (f : UpFrame) (rest : List UpFrame) (more : List Item),
     reportItem c = some (kind, w, roles) → s.Reporting f rest (itemOf kind w) more →
     (∀ r ∈ roles, s.addrOf r ≠ some (stationOf w.addr)) → exec c s = .next (s.reportedOn f rest more)) ∧
  (∀ (w : Wire) (s : State) (f : UpFrame) (rest : List UpFrame) (more : List Item),
     let bad (kind : Byte) : State :=
       (post w.tag (.badReport (stationOf w.addr) kind w.tag) s).reportedOn f rest more
     let undefinedFlag (n : Nat) : Prop := 1 < (payloadByte w.payload n).toNat
     (∀ i, s.RoleItem (.lane i) w → s.Reporting f rest (itemOf 0x21 w) more → undefinedFlag 7 →
       exec (.laneState w) s = .next (bad 0x21)) ∧
     (∀ p, s.RoleItem (.picker p) w → s.Reporting f rest (itemOf 0x22 w) more → undefinedFlag 4 ∨ undefinedFlag 5 →
       exec (.gripState w) s = .next (bad 0x22)) ∧
     (s.RoleItem .table w → s.Reporting f rest (itemOf 0x23 w) more → 2 < (payloadByte w.payload 6).toNat →
       exec (.tableState w) s = .next (bad 0x23)) ∧
     (s.RoleItem .elevator w → s.Reporting f rest (itemOf 0x25 w) more → undefinedFlag 6 →
       exec (.placeDone w) s = .next (bad 0x25)))

/-! ### The line supervisor and the resets (chapter 9) -/

/-- R151: RUN and HALT, whatever the locks; both answer the line state and the hold-cause set after the request. -/
def Obligations.RunAndHaltSetTheLine : Prop :=
  ∀ (w : Wire) (s : State) (f : DownFrame) (rest : List DownFrame) (more : List Item),
    let under (l : LineState) : State := { s with line := { s.line with state := l } }
    (s.Asked f rest 0x41 w more →
      (s.line.state = .idle → s.line.filtered = .closed →
        exec (.run w) s = .next ((under .running).answeredOn f rest 0x41 w more .done [LineState.running.code, s.holdSet.byte])) ∧
      (s.line.state = .idle → s.line.filtered ≠ .closed →
        exec (.run w) s = .next (s.answeredOn f rest 0x41 w more .state [LineState.idle.code, s.holdSet.byte])) ∧
      (s.line.state = .running → exec (.run w) s = .next (s.answeredOn f rest 0x41 w more .state [LineState.running.code, s.holdSet.byte])) ∧
      (s.line.state = .held → exec (.run w) s = .next (s.answeredOn f rest 0x41 w more .state [LineState.held.code, s.holdSet.byte]))) ∧
    (s.Asked f rest 0x42 w more →
      (s.line.state ≠ .held →
        exec (.halt w) s = .next ((under .idle).answeredOn f rest 0x42 w more .done [LineState.idle.code, s.holdSet.byte])) ∧
      (s.line.state = .held → exec (.halt w) s = .next (s.answeredOn f rest 0x42 w more .done [LineState.held.code, s.holdSet.byte])))

/-- R150, R151: only a RUN request makes the line RUNNING. -/
def Obligations.OnlyRunStartsTheLine : Prop :=
  ∀ (c : Instr) (s t : State), exec c s = .next t → t.line.state = .running → s.line.state ≠ .running → ∃ w, c = .run w

/-- R152: what a change of the STOPSENSE input does, outside a reset. R152, R150: the filter timer's expiry: the filtered
level is taken and the line is judged. The model's choice: the clock is brought to the timer's end (log 1). -/
def Obligations.SafetyInputIsFiltered : Prop :=
  (∀ (s : State) (high : Bool), s.inReset = false → s.pins.stopSense ≠ high →
     let s1 : State := { s with pins := { s.pins with stopSense := high } }
     (s.line.filtered = (if high then Filtered.closed else .opened) →
       exec (.stopsenseChange high) s = .next { s1 with line := { s.line with filterTimer := none } }) ∧
     (s.line.filtered ≠ (if high then Filtered.closed else .opened) →
       exec (.stopsenseChange high) s = .next { s1 with line := { s.line with
         filterTimer := some { high := high, ends := s.now + s.timing.stopFilter } } })) ∧
  (∀ (s : State) (t : FilterTimer), s.line.filterTimer = some t → s.inReset = false →
     exec .filterTimerExpiry s = .next (State.lineJudged { s.runTo t.ends with line := { s.line with
       filtered := if t.high then .closed else .opened, filterTimer := none } } s.holdSet))

/-- R153, R154: the eight alert conditions, and the output they drive through the mask. R155: ALERT-MASK writes all eight
entries at once, and its answer shows the output judged afresh. -/
def Obligations.AlertFollowsItsConditions : Prop :=
  (State.reset.line.mask = 0xFF ∧
   ∀ s : State,
     let c (n : Nat) : Bool := s.alertByte.getLsbD n
     (c 0 = true ↔ ∃ i : LaneId, ∃ k : Cause, (s.lane i).causes.has k = true) ∧
     (c 1 = true ↔ ∃ n : Nest, (s.nest n).vacuumFlag = true) ∧
     (c 2 = true ↔ ∃ i : LaneId, (s.lane i).life.reached = true ∧
       ((s.lane i).life.behaviour = .note ∨ (s.lane i).life.behaviour = .stopNew)) ∧
     (c 3 = true ↔ s.line.state = .held) ∧
     (c 4 = true ↔ ∃ b : BayId, (s.bay b).state = .full) ∧
     (c 5 = true ↔ s.portU.degraded = true ∨ s.portD.degraded = true) ∧
     (c 6 = true ↔ s.ret.overflow = true) ∧ (c 7 = true ↔ s.ret.answerLost = true) ∧
     (s.alertOut = true ↔ s.inReset = false ∧ ∃ n, n < 8 ∧ s.line.mask.getLsbD n = true ∧ c n = true)) ∧
  (∀ (w : Wire) (s : State) (f : DownFrame) (rest : List DownFrame) (more : List Item), s.Asked f rest 0x46 w more →
     let m := payloadByte w.payload 4
     let s' : State := { s with line := { s.line with mask := m } }
     exec (.alertMask w) s =
       .next (s'.answeredOn f rest 0x46 w more .done [m, s.alertByte, if s'.alertOut then 1 else 0]))

/-- R157: LOCK sets a lock whose field is SET and leaves the other; a field that is neither refuses both. R157: the locks are
clear after a power-on and a pin reset, a lock once set stays set until one of these, and no command but these and LOCK
changes one. -/
def Obligations.LocksAreSetAndLast : Prop :=
  (∀ (w : Wire) (s : State) (f : DownFrame) (rest : List DownFrame) (more : List Item), s.Asked f rest 0x47 w more →
     let a := payloadByte w.payload 4
     let b := payloadByte w.payload 5
     (1 < a.toNat ∨ 1 < b.toNat → exec (.lock w) s = .next (s.answeredOn f rest 0x47 w more .badArgument [])) ∧
     (a.toNat ≤ 1 → b.toNat ≤ 1 →
       let r := s.line.recipeLock || decide (a = 1)
       let l := s.line.limitLock || decide (b = 1)
       exec (.lock w) s = .next (State.answeredOn { s with line := { s.line with recipeLock := r, limitLock := l } }
         f rest 0x47 w more .done [if r then 1 else 0, if l then 1 else 0]))) ∧
  (∀ (c : Instr) (s t : State), exec c s = .next t →
     ((∃ a, c = .powerOnReset a ∨ c = .pinReset a) → t.line.recipeLock = false ∧ t.line.limitLock = false) ∧
     ((∀ a, c ≠ .powerOnReset a ∧ c ≠ .pinReset a) →
       (s.line.recipeLock = true → t.line.recipeLock = true) ∧ (s.line.limitLock = true → t.line.limitLock = true) ∧
       ((∀ w, c ≠ .lock w) → t.line.recipeLock = s.line.recipeLock ∧ t.line.limitLock = s.line.limitLock)))

/-- R160: the fields STATUS-READ answers with, for each part, and the one flag it clears. The model's readings: the encodings
(log 15), and the alert byte and the output as they stand before the flag is cleared (log 19). -/
def Obligations.StatusReadShowsTheLine : Prop :=
  ∀ (w : Wire) (s : State) (f : DownFrame) (rest : List DownFrame) (more : List Item), s.Asked f rest 0x40 w more →
    let bit (b : Bool) : Byte := if b then 1 else 0
    let port (p : PortRec) : List Byte := [p.state.code] ++ leBytes 1 p.errors ++ [bit p.degraded] ++ leBytes 1 p.run
    let part := (payloadByte w.payload 4).toNat
    let s' : State := { s with ret := { s.ret with answerLost := false } }
    let done (fields : List Byte) := State.answeredOn s' f rest 0x40 w more .done (fields ++ [bit s.ret.answerLost])
    (part = 0 → exec (.statusRead w) s = .next (done
      [s.line.state.code, s.holdSet.byte, s.line.filtered.code, bit s.pins.stopSense, s.alertByte, s.line.mask, bit s.alertOut,
        bit s.line.recipeLock, bit s.line.limitLock, s.line.ownAddr.setWidth 8])) ∧
    (part = 1 → exec (.statusRead w) s = .next (done
      (port s.portU ++ port s.portD ++ leBytes 1 s.ret.answers.length ++ leBytes 1 s.ret.notices.length ++
        [bit s.ret.overflow] ++ leBytes 2 s.ret.lost))) ∧
    (part = 2 → exec (.statusRead w) s = .next (done
      (leBytes 1 s.timing.watchdog ++ leBytes 1 s.timing.stopFilter ++ leBytes 2 s.timing.jaw ++ leBytes 2 s.timing.place ++
        leBytes 2 s.timing.vacMask.a ++ leBytes 2 s.timing.vacMask.b ++ leBytes 1 s.timing.vacLimit.a ++
        leBytes 1 s.timing.vacLimit.b))) ∧
    (2 < part → exec (.statusRead w) s = .next (s.answeredOn f rest 0x40 w more .badArgument []))

/-- R161: ROLE-SET, in its order of judgement. -/
def Obligations.RoleSetWritesOneEntry : Prop :=
  ∀ (w : Wire) (s : State) (f : DownFrame) (rest : List DownFrame) (more : List Item), s.Asked f rest 0x44 w more →
    let k := byteNat w.payload 4
    let b := payloadByte w.payload 5
    let entry : Option Station := if b = 0xFF then none else some (b.setWidth 6)
    let named : Prop := k < 8 ∧ (b = 0xFF ∨ 1 ≤ b.toNat ∧ b.toNat ≤ 62 ∧ b ≠ s.line.ownAddr.setWidth 8)
    let taken : Prop := ∃ j : Fin 8, j.val ≠ k ∧ entry ≠ none ∧ s.roles[j] = entry
    (s.line.recipeLock = true → exec (.roleSet w) s = .next (s.answeredOn f rest 0x44 w more .locked [])) ∧
    (s.line.recipeLock = false → ¬named → exec (.roleSet w) s = .next (s.answeredOn f rest 0x44 w more .badArgument [])) ∧
    (s.line.recipeLock = false → named → taken →
      exec (.roleSet w) s = .next (s.answeredOn f rest 0x44 w more .inUse [])) ∧
    (s.line.recipeLock = false → named → ¬taken → ∀ h : k < 8,
      let s' : State := { s with roles := s.roles.set k entry h }
      exec (.roleSet w) s = .next (s'.answeredOn f rest 0x44 w more .done
        (s'.roles.toList.map fun e => match e with | some a => a.setWidth 8 | none => 0xFF)))

/-- R162: TIMING-SET writes the named setting, brought into its range, and no other; the defaults are those of the table. -/
def Obligations.TimingSetWritesOneSetting : Prop :=
  (∀ n < 8, State.reset.timing.nth n = (timingTable n).2.2) ∧
  ∀ (w : Wire) (s : State) (f : DownFrame) (rest : List DownFrame) (more : List Item), s.Asked f rest 0x45 w more →
    let n := byteNat w.payload 4
    let v := halfNat w.payload 5
    let v' := max (timingTable n).1 (min v (timingTable n).2.1)
    (8 ≤ n → exec (.timingSet w) s = .next (s.answeredOn f rest 0x45 w more .badArgument [])) ∧
    (n < 8 → ∃ t : Timing, (∀ m < 8, t.nth m = if m = n then v' else s.timing.nth m) ∧
      exec (.timingSet w) s = .next (State.answeredOn { s with timing := t } f rest 0x45 w more
        (if v' = v then .done else .clamped) ([payloadByte w.payload 4] ++ leBytes 2 v')))

/-- R163: a power-on or pin reset begins; while it lasts, frames are dropped, the watchdog and the filter timer do not expire
and ALERT is released. R163, R165 and the tables of R16, R35, R59, R76, R99, R114, R132 and R149: the end of a power-on and of
a pin reset. What is the model's own (the queue, the clock, the free counter, the sent frames) is kept, which is the model's
choice (log 5). So are the ends of the two resets in every state, each leaving the other's pin (log 16). -/
def Obligations.ResetsStopAndEndInTheirTables : Prop :=
  ((∀ s : State,
     exec .supplyApplied s = .next { s with down := [], up := [], pins := { s.pins with supplyStable := false } } ∧
     exec .nresetAssert s = .next { s with down := [], up := [], pins := { s.pins with nreset := true } }) ∧
   ∀ s : State, s.pins.supplyStable = false ∨ s.pins.nreset = true →
     s.alertOut = false ∧ (∀ p bytes, exec (.frameArrival p bytes) s = .next s) ∧
     exec .cycleWatchdogExpiry s = .next s ∧ exec .filterTimerExpiry s = .next s ∧
     ∀ high, exec (.stopsenseChange high) s = .next { s with pins := { s.pins with stopSense := high } }) ∧
  (∀ (s : State) (straps : Station),
     let line : Line := { state := .idle, watchdogHold := false, watchdog := none, filtered := .unknown,
                          filterTimer := some { high := s.pins.stopSense, ends := s.now + 5 }, mask := 0xFF,
                          recipeLock := false, limitLock := false, ownAddr := ownAddressOf straps }
     let fresh (pins : Pins) : State := { State.reset with
       pending := s.pending, now := s.now, free := s.free, sentD := s.sentD, sentU := s.sentU, pins := pins, line := line }
     exec (.powerOnReset straps) s = .next (fresh { s.pins with straps := straps, supplyStable := true }) ∧
     exec (.pinReset straps) s = .next { fresh { s.pins with straps := straps, nreset := false } with
       lanes := s.lanes.map fun l => { Lane.initial with
         bitChangeDue := l.bitChangeDue,
         life := { bitId := l.life.bitId, wear := l.life.wear, warn := 16777215, limit := 16777215, behaviour := .stopNew,
                   warned := l.life.warned && decide (16777215 ≤ l.life.wear),
                   reached := l.life.reached && decide (16777215 ≤ l.life.wear) } } })

/-- R164, R165 and the tables of R16, R35, R59, R76, R99, R114, R132 and R149: the link reset, in its place in the walk. The
model's reading: the frames in passage on both paths stand (log 20). -/
def Obligations.LinkResetKeepsTheConfiguration : Prop :=
  ∀ (w : Wire) (s : State) (f : DownFrame) (rest : List DownFrame) (more : List Item), s.Asked f rest 0x43 w more →
    let keep := s.line.limitLock
    let life (l : Life) : Life :=
      let l' := if keep then l else { l with warn := 16777215, limit := 16777215, behaviour := .stopNew }
      { l' with warned := l.warned && decide (l'.warn ≤ l'.wear), reached := l.reached && decide (l'.limit ≤ l'.wear) }
    let bay (b : Bay) : Bay :=
      { kind := b.kind, presence := b.presence, table := none, reserved := 0, placed := 0,
        state := if b.kind = .none then .inactive else if b.presence = .present then .uncertain else .absent }
    exec (.reset w) s = .next (State.answeredOn { s with
      portU := PortRec.initial, portD := PortRec.initial, lastOrder := 0, placements := [], ret := ReturnPath.cleared,
      roles := if s.line.recipeLock then s.roles else Vector.replicate 8 none,
      recipes := s.recipes.map fun r => if s.line.recipeLock then { r with useCount := 0 } else RecipeSlot.cleared,
      nests := ⟨NestRec.cleared, NestRec.cleared⟩, table := .unknown, pickers := Vector.replicate 2 Picker.cleared,
      bays := s.bays.map bay,
      lanes := s.lanes.map fun l => { Lane.initial with
        state := if l.state = .inactive then .inactive else if (life l.life).parkHold then .parked else .ready,
        bitChangeDue := l.bitChangeDue, life := life l.life,
        recoveryMode := if keep then l.recoveryMode else .latch, autoWait := if keep then l.autoWait else 2000,
        spinDownTimeout := l.spinDownTimeout, cutTimeout := l.cutTimeout,
        gov := if keep then { Governor.initial with
          mode := l.gov.mode, level := l.gov.level, mask := l.gov.mask, coolDown := l.gov.coolDown, restore := l.gov.restore }
          else Governor.initial,
        pend := { abort := l.pend.abort || decide (l.state = .cutting),
                  stop := l.pend.stop || decide (l.spindle ≠ .stopped), feed := none } },
      line := { s.line with
        state := .idle, watchdogHold := false, watchdog := none, filtered := .unknown,
        filterTimer := some { high := s.pins.stopSense, ends := s.now + s.timing.stopFilter } } }
      f rest 0x43 w more .done [])

/-! ### The cut gate (chapter 3) -/

/-- R39 to R43: a CUT is voided with the code of the first check that fails, changing no record; one that passes every check
is admitted: the tab, the board, the lane, its binding and its cut timer change, and the feed field alone is rewritten. -/
def Obligations.CutIsJudgedThenAdmitted : Prop :=
  ∀ (w : Wire) (s : State) (f : DownFrame) (rest : List DownFrame) (more : List Item) (i : LaneId),
    s.Walking f rest (itemOf 0x10 w) more → s.RoleItem (.lane i) w →
    let p := w.payload
    (∀ code, firstFailing (cutChecks s i p) = some code →
      exec (.cut w) s = .next (s.voidedOn f rest 0x10 w more code)) ∧
    (firstFailing (cutChecks s i p) = none →
      ∀ n, nestOfByte (payloadByte p 4) = some n → ∀ t, (s.nest n).tabs[byteNat p 5]? = some t →
      let feed := appliedFeed (halfNat p 6) (s.lane i).gov.override (s.feedCap n (byteNat p 5))
      let s1 := modTab n (byteNat p 5) (fun t => { t with state := .cutting, lane := some i }) s
      let s2 := modBoard ⟨n, t.board⟩ (fun b => { b with uncut := b.uncut - 1 }) s1
      let s3 := modLane i (fun l => { l with
        state := .cutting, cutTimer := some (s.now + l.cutTimeout),
        binding := some { nest := n, tab := byteNat p 5, feed := feed, path := payloadHalf p 8, cycle := f.cycle, govAbort := false } })
        s2
      exec (.cut w) s = .next (s3.walkedOn f rest more (withFeed (itemOf 0x10 w) feed)))

/-- R41: the law the hold rule keeps. With the uncut counts true (`CutInv`), a CUT to a lane's station leaves unvoided only if
afterwards as many of its board's tabs as the hold threshold asks still hold it, or the board is HELD. -/
def Obligations.UnvoidedCutKeepsTheHoldLaw : Prop :=
  ∀ (w : Wire) (s t : State) (f : DownFrame) (rest : List DownFrame) (more : List Item) (i : LaneId),
    s.CutInv → s.Walking f rest (itemOf 0x10 w) more → s.RoleItem (.lane i) w → exec (.cut w) s = .next t →
    (∃ it, t.down = { f with todo := more, out := f.out ++ [it] } :: rest ∧ it.kind = 0x10) →
    ∃ n x b, nestOfByte (payloadByte w.payload 4) = some n ∧ (t.nest n).tabs[byteNat w.payload 5]? = some x ∧
      x.state = .cutting ∧ (t.nest n).boards[x.board]? = some b ∧
      (b.hold ≤ b.tabs.countP (fun j => ((t.nest n).tabs[j]?).any TabRec.holds) ∨ b.state = .held)

/-- R44: the feed clamp, and the bounds it keeps. -/
def Obligations.FeedIsClamped : Prop :=
  (∀ (s : State) (n : Nest) (tab : Nat),
    s.feedCap n tab = ((s.recipe (s.nest n).slot).tabs.getD tab none).bind TabTemplate.cap) ∧
  ∀ (requested override : Nat) (cap : Option Nat),
    let r := if requested = 0 then 1 else if 200 < requested then 200 else requested
    let scaled := r * override / 100
    let least := match cap with | some c => if c < scaled then c else scaled | none => scaled
    let applied := appliedFeed requested override cap
    applied = (if least = 0 then 1 else least) ∧ 1 ≤ applied ∧
      (1 < applied → override ≤ 100 → applied ≤ requested ∧ applied * 100 ≤ requested * override ∧ ∀ c, cap = some c → applied ≤ c)

/-- R124, R125: what raising an error cause does: nothing to an INACTIVE lane; for a new cause its set, pending items, notice
and state; for one already in the set the recovery timer, the pending ABORT and the governor abort alone. The model's reading:
a new cause that does not latch leaves the auto wait of a RECOVERING lane running (log 8). R52: the lane after its cut: the
binding goes, and its causes, its park hold or neither decide its next state. -/
def Obligations.CausesAndCutEndsPlaceTheLane : Prop :=
  (∀ (tag : Half) (i : LaneId) (c : Cause) (s : State),
     let l := s.lane i
     let all := l.causes.add c
     let cutting := decide (l.state = .cutting)
     let binding := l.binding.map fun b => { b with govAbort := b.govAbort || (cutting && decide (c = .overload)) }
     let recovers := decide (l.recoveryMode = .auto) && !all.latching
     let new : Lane := { l with
       causes := all, bitChangeDue := l.bitChangeDue || decide (c = .bitBroken), binding := binding,
       pend := { l.pend with abort := l.pend.abort || cutting, stop := l.pend.stop || decide (l.spindle ≠ .stopped) },
       state := if cutting then .cutting else if recovers then .recovering else .error,
       recoveryTimer :=
         if cutting then l.recoveryTimer
         else if recovers then (if l.state = .recovering then l.recoveryTimer else some (s.now + l.autoWait))
         else none }
     let again : Lane := { l with
       binding := binding, pend := { l.pend with abort := l.pend.abort || cutting },
       recoveryTimer := l.recoveryTimer.map fun _ => s.now + l.autoWait }
     raiseCause tag i c s =
       if l.state = .inactive then s
       else if l.causes.has c then setLane i again s
       else post tag (.laneError i c all) (setLane i new s)) ∧
  (∀ (l : Lane) (now : Nat) (matched : Bool),
     let l' : Lane := { l with
       binding := none, cutTimer := none,
       pend := { l.pend with feed := none, abort := if matched then false else l.pend.abort } }
     (l.causes.isEmpty = false → l.recoveryMode = .auto → l.causes.latching = false → l.state ≠ .recovering →
       l.endCut now matched = { l' with state := .recovering, recoveryTimer := some (now + l.autoWait) }) ∧
     (l.causes.isEmpty = false → l.recoveryMode = .latch ∨ l.causes.latching = true →
       l.endCut now matched = { l' with state := .error, recoveryTimer := none }) ∧
     (l.causes.isEmpty = true → l.life.parkHold = true →
       l.endCut now matched = { l' with
         state := .parked,
         pend := { l'.pend with stop := l.pend.stop || decide (l.spindle = .runningUp ∨ l.spindle = .atSpeed) } }) ∧
     (l.causes.isEmpty = true → l.life.parkHold = false → l.endCut now matched = { l' with state := .ready }))

/-- R46 to R48, R51, R52: a matched COMPLETE: wear first, then the tab is CUT, the board comes off the frame with its last
tab, FREED when it is HELD and LOST when it is not, and the cut ends. The model's reading: BOARD-DROPPED is queued before the
NEST-CLEARED it causes (log 9). R49 to R52: a matched ABORTED or BIT-BROKEN: wear first, then the tab is FAULTED and holds its
board again. -/
def Obligations.MatchedReportEndsTheCut : Prop :=
  (∀ (w : Wire) (s : State) (f : UpFrame) (rest : List UpFrame) (more : List Item) (i : LaneId) (b : Binding) (t : TabRec) (x : BoardRec),
     s.Reporting f rest (itemOf 0x20 w) more → s.RoleItem (.lane i) w → s.CutReported i w.payload b t x →
     payloadByte w.payload 6 = 1 →
     let r : BoardRef := ⟨b.nest, t.board⟩
     let s1 := modTab b.nest b.tab (fun t => { t with state := .cut, lane := none, cutAt := some f.cycle }) (s.worn i w)
     let s2 := modBoard r (fun y => { y with suspect := y.suspect || b.govAbort }) s1
     let last : Prop := ∀ j ∈ x.tabs, j = b.tab ∨ ((s.nest b.nest).tabs[j]?).map TabRec.state = some .cut
     let ended (s' : State) : State := (modLane i (fun l => l.endCut s.now true) s').reportedOn f rest more
     let dropped (s' : State) : State := settleNest w.tag b.nest (post w.tag (.boardDropped r b.tab i f.cycle)
       (modBoard r (fun y => { y with state := .lost, freedAt := some f.cycle }) s'))
     (¬last → exec (.cutDone w) s = .next (ended s2)) ∧
     (last → x.state = .held →
       exec (.cutDone w) s = .next (ended (modBoard r (fun y => { y with state := .freed, freedAt := some f.cycle }) s2))) ∧
     (last → x.state = .attached → (∀ q, x.picker = some q → (s.picker q).state ≠ .closing) →
       exec (.cutDone w) s = .next (ended (dropped s2))) ∧
     (last → x.state = .attached → ∀ q, x.picker = some q → (s.picker q).state = .closing →
       exec (.cutDone w) s = .next (ended (dropped (unbind q s2))))) ∧
  (∀ (w : Wire) (s : State) (f : UpFrame) (rest : List UpFrame) (more : List Item) (i : LaneId) (b : Binding) (t : TabRec) (x : BoardRec),
     s.Reporting f rest (itemOf 0x20 w) more → s.RoleItem (.lane i) w → s.CutReported i w.payload b t x →
     let faulted (count : Nat) (suspect : Bool) : State :=
       modBoard ⟨b.nest, t.board⟩ (fun y => { y with uncut := y.uncut + 1, suspect := y.suspect || suspect })
         (modTab b.nest b.tab (fun t => { t with state := .faulted, lane := none, faults := count }) (s.worn i w))
     let ended (s' : State) : State := (modLane i (fun l => l.endCut s.now true) s').reportedOn f rest more
     (payloadByte w.payload 6 = 2 →
       exec (.cutDone w) s = .next (ended (faulted (min 255 (t.faults + 1)) b.govAbort))) ∧
     (payloadByte w.payload 6 = 3 →
       exec (.cutDone w) s = .next (ended (raiseCause w.tag i .bitBroken (faulted t.faults true)))))

/-- R54: the cut timer's expiry: the tab is FAULTED without a count, CUT-TIMEOUT is raised, an ABORT is pending, the cut ends.
The model's choice: the clock is brought to the timer's end (log 1). -/
def Obligations.CutTimerEndsTheCut : Prop :=
  ∀ (s : State) (i : LaneId) (ends : Nat) (b : Binding) (t : TabRec),
    (s.lane i).cutTimer = some ends → s.inReset = false → (s.lane i).binding = some b → (s.nest b.nest).tabs[b.tab]? = some t →
    let s1 := modTab b.nest b.tab (fun t => { t with state := .faulted, lane := none }) (s.runTo ends)
    let s2 := modBoard ⟨b.nest, t.board⟩ (fun y => { y with uncut := y.uncut + 1, suspect := y.suspect || b.govAbort }) s1
    let s3 := raiseCause 0 i .cutTimeout s2
    exec (.cutTimerExpiry i) s = .next (modLane i (fun l =>
      Lane.endCut (max s.now ends) false { l with pend := { l.pend with abort := true } }) s3)

/-- R53: a CUT-DONE that matches no cut: its wear is counted, a LATE-REPORT notice is queued, and nothing else changes. -/
def Obligations.LateCutReportOnlyCountsWear : Prop :=
  ∀ (w : Wire) (s : State) (f : UpFrame) (rest : List UpFrame) (more : List Item) (i : LaneId),
    s.Reporting f rest (itemOf 0x20 w) more → s.RoleItem (.lane i) w →
    let p := w.payload
    (s.lane i).state ≠ .cutting ∨ (payloadByte p 6 ≠ 1 ∧ payloadByte p 6 ≠ 2 ∧ payloadByte p 6 ≠ 3) ∨
      (∀ b, (s.lane i).binding = some b → ¬(nestOfByte (payloadByte p 4) = some b.nest ∧ byteNat p 5 = b.tab)) →
    exec (.cutDone w) s = .next ((post w.tag
      (.lateReport i (payloadByte p 4) (payloadByte p 5) (payloadByte p 6) f.cycle) (s.worn i w)).reportedOn f rest more)

/-! ### Bit life (chapter 6) -/

/-- R101, with R102, R103 and R104 on the lane the CUT-DONE names: A takes the increment of the worked rule and saturates.
R102, R103, R105, R107: what a change of a life record does: the flags are judged, the notices of the crossings are queued,
WEAR-WARN first, and the park hold is applied or released. -/
def Obligations.WearStepsAndLifeChanges : Prop :=
  (∀ (s : State) (i : LaneId) (w : Wire),
     let length := halfNat w.payload 8
     let load := byteNat w.payload 7
     let increment := (length * (64 + if 200 < load then 200 else load) + 64) / 128
     let a := if 16777215 < (s.lane i).life.wear + increment then 16777215 else (s.lane i).life.wear + increment
     ((s.worn i w).lane i).life.wear = a ∧ increment ≤ 135166 ∧ 
       ((s.worn i w).lane i).life.warned = decide ((s.lane i).life.warn ≤ a) ∧
       ((s.worn i w).lane i).life.reached = decide ((s.lane i).life.limit ≤ a) ∧
       ∀ j, j ≠ i → (s.worn i w).lane j = s.lane j) ∧
  (∀ (tag : Half) (cause : LimitCause) (i : LaneId) (change : Life → Life) (s : State),
     let l := s.lane i
     let c := change l.life
     let life : Life := { c with warned := decide (c.warn ≤ c.wear), reached := decide (c.limit ≤ c.wear) }
     let parks := life.reached && decide (life.behaviour = .park)
     let parked := l.life.reached && decide (l.life.behaviour = .park)
     let l' : Lane :=
       if parks = true ∧ parked = false ∧ l.state = .ready then
         { l with life := life, state := .parked,
                  pend := { l.pend with stop := l.pend.stop || decide (l.spindle = .runningUp ∨ l.spindle = .atSpeed) } }
       else if parks = false ∧ parked = true ∧ l.state = .parked then { l with life := life, state := .ready }
       else { l with life := life }
     let warns : List Posted :=
       if life.warned = true ∧ l.life.warned = false then [⟨tag, .wearWarn i life.bitId life.wear life.warn⟩] else []
     let limit (k : LimitCause) : Posted := ⟨tag, .wearLimit i life.bitId life.wear life.limit life.behaviour k⟩
     let limits : List Posted :=
       if life.reached = false ∨ life.behaviour = .ignore then []
       else if l.life.reached = false then [limit cause]
       else if life.behaviour ≠ l.life.behaviour then [limit .behaviour]
       else []
     rewear tag cause i change s = { setLane i l' s with ret := s.ret.postAll (warns ++ limits) })

/-- R108, R109: LIFE-SET, in its order of judgement, with its values clamped before the lock is judged. -/
def Obligations.LifeSetStoresClampedLevels : Prop :=
  ∀ (w : Wire) (s : State) (f : DownFrame) (rest : List DownFrame) (more : List Item), s.Asked f rest 0x4A w more →
    let p := w.payload
    (4 ≤ byteNat p 4 ∨ 4 ≤ byteNat p 5 → exec (.lifeSet w) s = .next (s.answeredOn f rest 0x4A w more .badArgument [])) ∧
    ∀ (i : LaneId) (b : Behaviour), byteNat p 4 = i.val → payloadByte p 5 = b.code →
      let limit := if wearNat p 9 = 0 then 1 else wearNat p 9
      let warn := min (if wearNat p 6 = 0 then 1 else wearNat p 6) limit
      let l := (s.lane i).life
      let forbidden : Prop := s.line.limitLock = true ∧ (b ≠ l.behaviour ∨ l.limit < limit ∨ l.warn < warn)
      let s' := rewear w.tag .limitWrite i (fun l => { l with warn := warn, limit := limit, behaviour := b }) s
      let l' := (s'.lane i).life
      let bit (x : Bool) : Byte := if x then 1 else 0
      (forbidden → exec (.lifeSet w) s = .next (s.answeredOn f rest 0x4A w more .locked [])) ∧
      (¬forbidden → exec (.lifeSet w) s = .next (s'.answeredOn f rest 0x4A w more
        (if limit = wearNat p 9 ∧ warn = wearNat p 6 then .done else .clamped)
        ([BitVec.ofNat 8 i.val] ++ leBytes 3 warn ++ leBytes 3 limit ++
          [b.code, bit l'.warned, bit l'.reached, bit l'.withheld, bit l'.parkHold] ++ leBytes 3 (limit - l'.wear))))

/-- R111: WEAR-PRESET raises A and never lowers it. R110: BIT-CHANGE fits a fresh bit to a lane at rest, and its answer tells
the wear of the old one. -/
def Obligations.WearPresetAndBitChange : Prop :=
  (∀ (w : Wire) (s : State) (f : DownFrame) (rest : List DownFrame) (more : List Item), s.Asked f rest 0x4B w more →
     let p := w.payload
     (4 ≤ byteNat p 4 → exec (.wearPreset w) s = .next (s.answeredOn f rest 0x4B w more .badArgument [])) ∧
     ∀ i : LaneId, byteNat p 4 = i.val →
       let sent := byteNat p 5 + 256 * byteNat p 6 + 65536 * byteNat p 7 + 16777216 * byteNat p 8
       let v := min sent 16777215
       let s' := rewear w.tag .preset i (fun l => { l with wear := v }) s
       let l' := (s'.lane i).life
       (v < (s.lane i).life.wear → exec (.wearPreset w) s = .next (s.answeredOn f rest 0x4B w more .state [])) ∧
       ((s.lane i).life.wear ≤ v → exec (.wearPreset w) s = .next (s'.answeredOn f rest 0x4B w more
         (if v = sent then .done else .clamped)
         (leBytes 3 v ++ [if l'.warned then 1 else 0, if l'.reached then 1 else 0] ++ leBytes 3 (l'.limit - v))))) ∧
  (∀ (w : Wire) (s : State) (f : DownFrame) (rest : List DownFrame) (more : List Item), s.Asked f rest 0x4C w more →
     let p := w.payload
     (4 ≤ byteNat p 4 → exec (.bitChange w) s = .next (s.answeredOn f rest 0x4C w more .badArgument [])) ∧
     ∀ i : LaneId, byteNat p 4 = i.val →
       let l := s.lane i
       let freed := l.life.reached && decide (l.life.behaviour = .park) && decide (l.state = .parked)
       let l' : Lane := { l with
         bitChangeDue := false, state := if freed then .ready else l.state,
         life := { l.life with bitId := payloadHalf p 5, wear := 0, warned := false, reached := false } }
       (l.spindle ≠ .stopped ∨ l.state = .cutting →
         exec (.bitChange w) s = .next (s.answeredOn f rest 0x4C w more .state [])) ∧
       (l.spindle = .stopped → l.state ≠ .cutting →
         exec (.bitChange w) s = .next ((setLane i l' s).answeredOn f rest 0x4C w more .done
           (leBytes 2 l.life.bitId.toNat ++ leBytes 3 l.life.wear ++ leBytes 2 (payloadHalf p 5).toNat))))

/-- R100: wear never falls, but to 0 by BIT-CHANGE or at a power-on reset. -/
def Obligations.WearNeverFalls : Prop :=
  ∀ (c : Instr) (s t : State) (i : LaneId), s.LaneInv → exec c s = .next t → (t.lane i).life.wear < (s.lane i).life.wear →
    (t.lane i).life.wear = 0 ∧ ((∃ w, c = .bitChange w) ∨ ∃ a, c = .powerOnReset a)

/-! ### The lane supervisor (chapter 7) -/

/-- R117: a SPIN start is voided by the first condition that holds, and otherwise sets the lane running up at the clamped
speed; only a speed out of range is rewritten. R118, R123: a SPIN stop and a FEED are forwarded in every line and lane state;
the stop starts a turning spindle's spin-down, and the FEED carries no more than the override allows and withdraws the pending
one. -/
def Obligations.SpindleAndFeedOrders : Prop :=
  (∀ (w : Wire) (s : State) (f : DownFrame) (rest : List DownFrame) (more : List Item) (i : LaneId),
     s.Walking f rest (itemOf 0x11 w) more → s.RoleItem (.lane i) w → 0 < halfNat w.payload 4 →
     let l := s.lane i
     let code := firstFailing
       [(decide (s.line.state = .running), .halted), (decide (l.state ≠ .inactive), .laneInactive),
        (decide (l.state ≠ .error ∧ l.state ≠ .recovering), .laneFault), (decide (l.state ≠ .parked), .laneWithheld),
        (decide (l.state ≠ .cutting), .laneBusy)]
     let sent := halfNat w.payload 4
     let speed := if sent < 10 then 10 else if 600 < sent then 600 else sent
     (∀ c, code = some c → exec (.spinStart w) s = .next (s.voidedOn f rest 0x11 w more c)) ∧
     (code = none → exec (.spinStart w) s = .next
       ((setLane i { l with spindle := .runningUp, commanded := some speed, spinDownTimer := none } s).walkedOn f rest more
         (if speed = sent then itemOf 0x11 w else withSpeed (itemOf 0x11 w) speed)))) ∧
  (∀ (w : Wire) (s : State) (f : DownFrame) (rest : List DownFrame) (more : List Item) (i : LaneId), s.RoleItem (.lane i) w →
     let l := s.lane i
     let stopped : Lane :=
       if l.spindle = .runningUp ∨ l.spindle = .atSpeed then
         { l with spindle := .spinningDown, spinDownTimer := some (s.now + l.spinDownTimeout) }
       else l
     let sent := byteNat w.payload 4
     let percent := if sent = 0 then 1 else if 100 < sent then 100 else sent
     let forwarded := if percent * l.gov.override / 100 = 0 then 1 else percent * l.gov.override / 100
     (s.Walking f rest (itemOf 0x11 w) more → halfNat w.payload 4 = 0 →
       exec (.spinStop w) s = .next ((setLane i stopped s).walkedOn f rest more (itemOf 0x11 w))) ∧
     (s.Walking f rest (itemOf 0x12 w) more →
       exec (.feed w) s = .next ((setLane i { l with pend := { l.pend with feed := none } } s).walkedOn f rest more
         (withPercent (itemOf 0x12 w) forwarded))))

/-- R116 to R122: a LANE-STATE report: the values are recorded, and for a lane in use the spindle is judged, a drive fault is
raised, and the governor judges the load, in that order. -/
def Obligations.LaneReportIsTakenInOrder : Prop :=
  ∀ (w : Wire) (s : State) (f : UpFrame) (rest : List UpFrame) (more : List Item) (i : LaneId) (fault : Bool),
    s.Reporting f rest (itemOf 0x21 w) more → s.RoleItem (.lane i) w → payloadByte w.payload 7 = (if fault then 1 else 0) →
    let speed := halfNat w.payload 4
    let load := byteNat w.payload 6
    let l0 : Lane := { s.lane i with lastSpeed := some speed, lastLoad := some load, lastFault := some fault }
    let l1 : Lane :=
      if l0.spindle = .runningUp ∧ l0.commanded.getD 0 * 95 ≤ speed * 100 then { l0 with spindle := .atSpeed }
      else if l0.spindle = .spinningDown ∧ speed ≤ 5 then { l0 with spindle := .stopped, spinDownTimer := none }
      else l0
    let s1 := if fault then raiseCause w.tag i .driveFault (setLane i l1 s) else setLane i l1 s
    let l2 := s1.lane i
    let g := l0.gov
    let limit := if g.state = .fallback then 60 + 10 * (g.level - 1) else 60 + 10 * g.level
    let starts (o : Option Nat) : State := setLane i { l2 with gov := { g with overRun := o } } s1
    let stepped : Governor := { g with state := .stepped, override := 85, overRun := none, coolTimer := some (s.now + g.coolDown) }
    let answer (s' : State) : Prop := exec (.laneState w) s = .next (s'.reportedOn f rest more)
    (l0.state = .inactive → answer (setLane i l0 s)) ∧
    (l0.state ≠ .inactive → g.state = .stepped → answer s1) ∧
    (l0.state ≠ .inactive → g.state ≠ .stepped → load ≤ limit → answer (starts none)) ∧
    (l0.state ≠ .inactive → g.state ≠ .stepped → limit < load → g.overRun = none → answer (starts (some s.now))) ∧
    (l0.state ≠ .inactive → g.state ≠ .stepped → limit < load → ∀ t, g.overRun = some t →
      (s.now - t < g.mask → answer s1) ∧
      (g.mask ≤ s.now - t → g.state = .normal → g.mode = .yield →
        answer (setLane i { l2 with
          gov := stepped,
          pend := { l2.pend with feed := if g.override ≠ 85 ∧ l2.state = .cutting then some 85 else l2.pend.feed } } s1)) ∧
      (g.mask ≤ s.now - t → g.state = .fallback ∨ g.mode = .trip →
        answer (raiseCause w.tag i .overload (starts none))))

/-- R118, R126: the spin-down timer raises SPINDOWN, and the recovery timer restores a lane that meets the four conditions.
The model's choice: the clock is brought to the timer's end (log 1). R121 to R123: the governor's two timers: the ladder of
overrides, the way back to NORMAL, FALLBACK, and its restore. The model's choices: the clock again (log 1), and an absent last
load counting as 0 at the restore (log 14). -/
def Obligations.LaneTimersExpire : Prop :=
  (∀ (s : State) (i : LaneId) (ends : Nat), s.inReset = false →
     let l := s.lane i
     let now := max s.now ends
     let clears : Prop := l.lastFault ≠ some true ∧ l.lastLoad.getD 0 ≤ l.gov.effectiveLimit - 10 ∧ l.spindle = .stopped ∧
       l.causes.latching = false
     let state : LaneState := if l.life.parkHold then .parked else .ready
     (l.spinDownTimer = some ends → l.spindle = .spinningDown →
       exec (.spinDownTimerExpiry i) s =
         .next (raiseCause 0 i .spindown (setLane i { l with spinDownTimer := none } (s.runTo ends)))) ∧
     (l.recoveryTimer = some ends → l.state = .recovering → clears →
       exec (.recoveryTimerExpiry i) s = .next (post 0 (.laneRestored i state)
         (setLane i { l with causes := Causes.none, recoveryTimer := none, state := state } (s.runTo ends)))) ∧
     (l.recoveryTimer = some ends → l.state = .recovering → ¬clears →
       exec (.recoveryTimerExpiry i) s =
         .next (setLane i { l with recoveryTimer := some (now + l.autoWait) } (s.runTo ends)))) ∧
  (∀ (s : State) (i : LaneId) (ends : Nat), s.inReset = false →
     let l := s.lane i
     let g := l.gov
     let load := l.lastLoad.getD 0
     let now := max s.now ends
     let takes (g' : Governor) : State := setLane i { l with
       gov := g',
       pend := { l.pend with
         feed := if g'.override ≠ g.override ∧ l.state = .cutting then some g'.override else l.pend.feed } } (s.runTo ends)
     (g.coolTimer = some ends → g.state = .stepped →
       let limit := 60 + 10 * g.level
       (∀ from_ to_, (from_, to_) ∈ [(85, 70), (70, 55), (55, 40), (40, 25)] → g.override = from_ → limit < load →
         exec (.coolDownTimerExpiry i) s = .next (takes { g with override := to_, coolTimer := some (now + g.coolDown) })) ∧
       (g.override = 25 → limit < load →
         exec (.coolDownTimerExpiry i) s = .next (takes { g with
           state := .fallback, override := 100, coolTimer := none, restoreTimer := some (now + g.restore), overRun := none })) ∧
       (load ≤ limit - 10 →
         exec (.coolDownTimerExpiry i) s = .next (takes { g with state := .normal, override := 100, coolTimer := none })) ∧
       (limit - 10 < load → load ≤ limit →
         exec (.coolDownTimerExpiry i) s = .next (takes { g with coolTimer := some (now + g.coolDown) }))) ∧
     (g.restoreTimer = some ends → g.state = .fallback →
       let limit := 60 + 10 * (g.level - 1)
       (load ≤ limit - 10 →
         exec (.restoreTimerExpiry i) s = .next (takes { g with state := .normal, restoreTimer := none })) ∧
       (limit - 10 < load →
         exec (.restoreTimerExpiry i) s = .next (takes { g with restoreTimer := some (now + g.restore) }))))

/-- R129: LANE-CONFIG, in its order of judgement. R127: LANE-CLEAR. -/
def Obligations.LaneConfigAndLaneClear : Prop :=
  (∀ (w : Wire) (s : State) (f : DownFrame) (rest : List DownFrame) (more : List Item), s.Asked f rest 0x48 w more →
     let p := w.payload
     let answer (r : Result) (fields : List Byte) : State := s.answeredOn f rest 0x48 w more r fields
     (4 ≤ byteNat p 4 ∨ 2 ≤ byteNat p 5 ∨ 2 ≤ byteNat p 6 → exec (.laneConfig w) s = .next (answer .badArgument [])) ∧
     ∀ (i : LaneId) (active : Bool) (mode : RecoveryMode),
       byteNat p 4 = i.val → payloadByte p 5 = (if active then 1 else 0) → payloadByte p 6 = mode.code →
       let l := s.lane i
       let atRest : Prop := l.state = .inactive ∨ ((l.state = .ready ∨ l.state = .parked) ∧ l.spindle = .stopped)
       let cut := within 100 60000 (halfNat p 7)
       let spin := within 500 20000 (halfNat p 9)
       let wait := within 100 60000 (halfNat p 11)
       let l1 : Lane := { l with cutTimeout := cut, spinDownTimeout := spin, autoWait := wait, recoveryMode := mode }
       let turns := decide (l.spindle = .runningUp ∨ l.spindle = .atSpeed)
       let l2 : Lane :=
         if active = false then { l1 with state := .inactive }
         else if l.state = .inactive ∧ l.life.parkHold = true then
           { l1 with state := .parked, pend := { l.pend with stop := l.pend.stop || turns } }
         else if l.state = .inactive then { l1 with state := .ready }
         else if l.state = .error ∧ mode = .auto ∧ l.causes.latching = false then
           { l1 with state := .recovering, recoveryTimer := some (s.now + wait) }
         else if l.state = .recovering ∧ mode = .latch then { l1 with state := .error, recoveryTimer := none }
         else l1
       (s.line.limitLock = true → mode ≠ l.recoveryMode → exec (.laneConfig w) s = .next (answer .locked [])) ∧
       (s.line.limitLock = false ∨ mode = l.recoveryMode → active = false → ¬atRest →
         exec (.laneConfig w) s = .next (answer .state [])) ∧
       (s.line.limitLock = false ∨ mode = l.recoveryMode → active = true ∨ atRest →
         exec (.laneConfig w) s = .next ((setLane i l2 s).answeredOn f rest 0x48 w more
           (if cut = halfNat p 7 ∧ spin = halfNat p 9 ∧ wait = halfNat p 11 then .done else .clamped)
           ([if l2.state = .inactive then 0 else 1] ++ leBytes 2 cut ++ leBytes 2 spin ++ [mode.code] ++ leBytes 2 wait ++
             [l2.state.code])))) ∧
  (∀ (w : Wire) (s : State) (f : DownFrame) (rest : List DownFrame) (more : List Item), s.Asked f rest 0x4D w more →
     (4 ≤ byteNat w.payload 4 → exec (.laneClear w) s = .next (s.answeredOn f rest 0x4D w more .badArgument [])) ∧
     ∀ i : LaneId, byteNat w.payload 4 = i.val →
       let l := s.lane i
       let clears : Prop := l.lastFault ≠ some true ∧ l.lastLoad.getD 0 ≤ l.gov.effectiveLimit - 10 ∧ l.spindle = .stopped
       let state : LaneState := if l.life.parkHold then .parked else .ready
       let fields := [l.state.code, l.causes.byte]
       (l.state = .error ∨ l.state = .recovering → clears →
         exec (.laneClear w) s = .next ((setLane i { l with causes := Causes.none, recoveryTimer := none, state := state }
           s).answeredOn f rest 0x4D w more .done [state.code, 0])) ∧
       (l.state = .error ∨ l.state = .recovering → ¬clears →
         exec (.laneClear w) s = .next (s.answeredOn f rest 0x4D w more .stillFaulted fields)) ∧
       (l.state = .cutting → exec (.laneClear w) s = .next (s.answeredOn f rest 0x4D w more .state fields)) ∧
       (l.state = .ready ∨ l.state = .parked ∨ l.state = .inactive →
         exec (.laneClear w) s = .next (s.answeredOn f rest 0x4D w more .done fields)))

/-- R130: GOVERNOR-SET, in its order of judgement; a change of mode starts the governor afresh. R131, R112, R36: the fields
LANE-READ answers with, for each part. -/
def Obligations.GovernorSetAndLaneRead : Prop :=
  (∀ (w : Wire) (s : State) (f : DownFrame) (rest : List DownFrame) (more : List Item), s.Asked f rest 0x49 w more →
     let p := w.payload
     let answer (r : Result) (fields : List Byte) : State := s.answeredOn f rest 0x49 w more r fields
     (4 ≤ byteNat p 4 ∨ 2 ≤ byteNat p 5 ∨ 7 < byteNat p 6 → exec (.governorSet w) s = .next (answer .badArgument [])) ∧
     ∀ (i : LaneId) (mode : GovMode), byteNat p 4 = i.val → payloadByte p 5 = mode.code → byteNat p 6 ≤ 7 →
       let l := s.lane i
       let g := l.gov
       let level := byteNat p 6
       let forbidden : Prop := s.line.limitLock = true ∧ (mode ≠ g.mode ∨ g.level < level)
       let mask := within 5 500 (halfNat p 7)
       let cool := within 100 10000 (halfNat p 9)
       let restore := within 500 60000 (halfNat p 11)
       let g1 : Governor := { g with mode := mode, level := level, mask := mask, coolDown := cool, restore := restore }
       let g' : Governor :=
         if mode = g.mode then g1
         else { g1 with state := .normal, override := 100, overRun := none, coolTimer := none, restoreTimer := none }
       let l' : Lane := { l with
         gov := g',
         pend := { l.pend with
           feed := if g'.override ≠ g.override ∧ l.state = .cutting then some g'.override else l.pend.feed } }
       (forbidden → exec (.governorSet w) s = .next (answer .locked [])) ∧
       (¬forbidden → exec (.governorSet w) s = .next ((setLane i l' s).answeredOn f rest 0x49 w more
         (if mask = halfNat p 7 ∧ cool = halfNat p 9 ∧ restore = halfNat p 11 then .done else .clamped)
         ([mode.code] ++ leBytes 1 level ++ leBytes 2 mask ++ leBytes 2 cool ++ leBytes 2 restore ++
           [g'.state.code] ++ leBytes 1 g'.override ++ leBytes 1 g'.effectiveLimit)))) ∧
  (∀ (w : Wire) (s : State) (f : DownFrame) (rest : List DownFrame) (more : List Item), s.Asked f rest 0x4E w more →
     (4 ≤ byteNat w.payload 4 ∨ 4 ≤ byteNat w.payload 5 →
       exec (.laneRead w) s = .next (s.answeredOn f rest 0x4E w more .badArgument [])) ∧
     ∀ i : LaneId, byteNat w.payload 4 = i.val →
       let l := s.lane i
       let g := l.gov
       let bit (b : Bool) : Byte := if b then 1 else 0
       let maybe (k : Nat) (v : Option Nat) : List Byte := bit v.isSome :: leBytes k (v.getD 0)
       let left (timer : Option Nat) : Nat := timer.getD s.now - s.now
       let done (fields : List Byte) : Prop := exec (.laneRead w) s = .next (s.answeredOn f rest 0x4E w more .done fields)
       (byteNat w.payload 5 = 0 → done
         ([l.state.code, l.spindle.code] ++ maybe 2 l.commanded ++ maybe 2 l.lastSpeed ++ maybe 1 l.lastLoad ++
           maybe 1 (l.lastFault.map fun b => if b then 1 else 0) ++ [l.causes.byte, bit l.bitChangeDue, l.recoveryMode.code] ++
           leBytes 2 l.autoWait ++ leBytes 2 (left l.recoveryTimer) ++ leBytes 2 (left l.spinDownTimer) ++
           [bit l.pend.abort, bit l.pend.stop] ++ maybe 1 l.pend.feed)) ∧
       (byteNat w.payload 5 = 1 → done
         ([g.mode.code] ++ leBytes 1 g.level ++ leBytes 1 (60 + 10 * g.level) ++ leBytes 1 g.effectiveLimit ++ [g.state.code] ++
           leBytes 1 g.override ++ leBytes 2 g.mask ++ leBytes 2 g.coolDown ++ leBytes 2 g.restore ++
           leBytes 2 (if g.coolTimer.isSome then left g.coolTimer else left g.restoreTimer))) ∧
       (byteNat w.payload 5 = 2 → done
         (leBytes 2 l.cutTimeout ++
           (match l.binding with
           | some b => [1, nestCode b.nest] ++ leBytes 1 b.tab ++ leBytes 1 b.feed ++ leBytes 2 b.path.toNat ++
               leBytes 2 b.cycle.toNat ++ [bit b.govAbort]
           | none => List.replicate 9 0) ++ leBytes 2 (left l.cutTimer))) ∧
       (byteNat w.payload 5 = 3 → done
         (leBytes 2 l.life.bitId.toNat ++ leBytes 3 l.life.wear ++ leBytes 3 l.life.warn ++ leBytes 3 l.life.limit ++
           [l.life.behaviour.code, bit l.life.warned, bit l.life.reached, bit l.life.withheld, bit l.life.parkHold] ++
           leBytes 3 (l.life.limit - l.life.wear))))

/-! ### The recipe store (chapter 1) -/

/-- R4: RECIPE-OPEN, in the order of R3, with the room the slot's own reservation gives back. R11, R14: RECIPE-DROP empties a
slot no nest uses; RECIPE-READ shows a slot under either lock and changes nothing. -/
def Obligations.RecipeOpenDropAndRead : Prop :=
  (∀ (w : Wire) (s : State) (f : DownFrame) (rest : List DownFrame) (more : List Item), s.Asked f rest 0x4F w more →
     let p := w.payload
     let boards := byteNat p 5
     let tabs := halfNat p 6
     let answer (r : Result) : State := s.answeredOn f rest 0x4F w more r []
     let allowed : Prop := byteNat p 4 < 8 ∧ byteNat p 8 < 2 ∧ 1 ≤ boards ∧ boards ≤ 64 ∧ 1 ≤ tabs ∧ tabs ≤ 256 ∧
       boards ≤ tabs ∧ tabs ≤ 16 * boards
     (s.line.recipeLock = true → exec (.recipeOpen w) s = .next (answer .locked)) ∧
     (s.line.recipeLock = false → ¬allowed → exec (.recipeOpen w) s = .next (answer .badArgument)) ∧
     ∀ i : SlotId, byteNat p 4 = i.val → s.line.recipeLock = false → allowed →
       let r := s.recipe i
       let fits : Prop := boards ≤ s.freeBoards + r.boards.length ∧ tabs ≤ s.freeTabs + r.tabs.length
       let s' := setRecipe i { state := .building, boards := List.replicate boards none, tabs := List.replicate tabs none,
                               suspectOption := decide (byteNat p 8 = 1), useCount := 0, tabLists := [] } s
       (0 < r.useCount → exec (.recipeOpen w) s = .next (answer .inUse)) ∧
       (r.useCount = 0 → ¬fits → exec (.recipeOpen w) s = .next (answer .noSpace)) ∧
       (r.useCount = 0 → fits → exec (.recipeOpen w) s = .next (s'.answeredOn f rest 0x4F w more .done
         (leBytes 2 s'.freeBoards ++ leBytes 2 s'.freeTabs)))) ∧
  (∀ (w : Wire) (s : State) (f : DownFrame) (rest : List DownFrame) (more : List Item),
     let p := w.payload
     let pools (s : State) : List Byte := leBytes 2 s.freeBoards ++ leBytes 2 s.freeTabs
     (s.Asked f rest 0x53 w more →
       let answer (r : Result) : State := s.answeredOn f rest 0x53 w more r []
       (s.line.recipeLock = true → exec (.recipeDrop w) s = .next (answer .locked)) ∧
       (s.line.recipeLock = false → 8 ≤ byteNat p 4 → exec (.recipeDrop w) s = .next (answer .badArgument)) ∧
       ∀ i : SlotId, byteNat p 4 = i.val → s.line.recipeLock = false →
         let s' := setRecipe i { state := .empty, boards := [], tabs := [], suspectOption := false, useCount := 0, tabLists := [] } s
         (0 < (s.recipe i).useCount → exec (.recipeDrop w) s = .next (answer .inUse)) ∧
         ((s.recipe i).useCount = 0 → exec (.recipeDrop w) s = .next (s'.answeredOn f rest 0x53 w more .done (pools s')))) ∧
     (s.Asked f rest 0x54 w more →
       let bad : State := s.answeredOn f rest 0x54 w more .badArgument []
       let done (fields : List Byte) : State := s.answeredOn f rest 0x54 w more .done fields
       (8 ≤ byteNat p 4 ∨ 3 ≤ byteNat p 5 → exec (.recipeRead w) s = .next bad) ∧
       ∀ i : SlotId, byteNat p 4 = i.val →
         let r := s.recipe i
         let k := byteNat p 6
         (byteNat p 5 = 0 → exec (.recipeRead w) s = .next (done
           ([r.state.code] ++ leBytes 1 r.boards.length ++ leBytes 2 r.tabs.length ++ [if r.suspectOption then 1 else 0] ++
             leBytes 1 r.useCount ++ leBytes 1 (r.boards.filter Option.isSome).length ++
             leBytes 2 (r.tabs.filter Option.isSome).length ++ pools s))) ∧
         (byteNat p 5 = 1 → r.boards.length ≤ k → exec (.recipeRead w) s = .next bad) ∧
         (byteNat p 5 = 1 → k < r.boards.length → exec (.recipeRead w) s = .next (done
           ((match r.boards.getD k none with
             | some t => [1] ++ leBytes 1 t.variant ++ leBytes 2 t.height ++ leBytes 1 t.hold
             | none => List.replicate 5 0) ++ leBytes 2 (tabsNaming r k)))) ∧
         (byteNat p 5 = 2 → r.tabs.length ≤ k → exec (.recipeRead w) s = .next bad) ∧
         (byteNat p 5 = 2 → k < r.tabs.length → exec (.recipeRead w) s = .next (done
           (match r.tabs.getD k none with
           | some t => [1] ++ leBytes 1 t.board ++ leBytes 1 (t.cap.getD 0)
           | none => List.replicate 3 0)))))

/-- R5, R6: RECIPE-BOARDS stores all its templates or none; the later of two for one board stands. R7, R8: RECIPE-TABS stores
all its templates or none; a feed cap of 0 is no cap. -/
def Obligations.RecipeTemplatesAreStored : Prop :=
  (∀ (w : Wire) (s : State) (f : DownFrame) (rest : List DownFrame) (more : List Item), s.Asked f rest 0x50 w more →
     let p := w.payload
     let count := byteNat p 4 / 16 % 8
     let ts := (List.range count).map (rawBoard p)
     let answer (r : Result) : State := s.answeredOn f rest 0x50 w more r []
     let wellNamed : Prop := byteNat p 4 % 16 < 8 ∧ 1 ≤ count ∧ count ≤ 3 ∧ ∀ t ∈ ts, t.variant ≠ 0 ∧ 1 ≤ t.hold ∧ t.hold ≤ 4
     (s.line.recipeLock = true → exec (.recipeBoards w) s = .next (answer .locked)) ∧
     (s.line.recipeLock = false → ¬wellNamed → exec (.recipeBoards w) s = .next (answer .badArgument)) ∧
     ∀ i : SlotId, byteNat p 4 % 16 = i.val → s.line.recipeLock = false → wellNamed →
       let r := s.recipe i
       let inside : Prop := ∀ t ∈ ts, t.index < r.boards.length
       let stored (k : Nat) : Option BoardTemplate := match ts.reverse.find? fun t => t.index == k with
         | some t => some { variant := t.variant, height := within 5 400 t.height, hold := t.hold }
         | none => r.boards.getD k none
       (r.state ≠ .building → exec (.recipeBoards w) s = .next (answer .state)) ∧
       (r.state = .building → ¬inside → exec (.recipeBoards w) s = .next (answer .badArgument)) ∧
       (r.state = .building → inside → exec (.recipeBoards w) s = .next (State.answeredOn
         (setRecipe i { r with boards := (List.range r.boards.length).map stored } s) f rest 0x50 w more
         (if ∀ t ∈ ts, 5 ≤ t.height ∧ t.height ≤ 400 then .done else .clamped) []))) ∧
  (∀ (w : Wire) (s : State) (f : DownFrame) (rest : List DownFrame) (more : List Item), s.Asked f rest 0x51 w more →
     let p := w.payload
     let count := byteNat p 4 / 16 % 8
     let ts := (List.range count).map (rawTab p)
     let answer (r : Result) : State := s.answeredOn f rest 0x51 w more r []
     let wellNamed : Prop := byteNat p 4 % 16 < 8 ∧ 1 ≤ count ∧ count ≤ 4
     (s.line.recipeLock = true → exec (.recipeTabs w) s = .next (answer .locked)) ∧
     (s.line.recipeLock = false → ¬wellNamed → exec (.recipeTabs w) s = .next (answer .badArgument)) ∧
     ∀ i : SlotId, byteNat p 4 % 16 = i.val → s.line.recipeLock = false → wellNamed →
       let r := s.recipe i
       let inside : Prop := ∀ t ∈ ts, t.number < r.tabs.length ∧ t.board < r.boards.length
       let stored (k : Nat) : Option TabTemplate := match ts.reverse.find? fun t => t.number == k with
         | some t => some { board := t.board, cap := if t.cap = 0 then none else some (min t.cap 200) }
         | none => r.tabs.getD k none
       (r.state ≠ .building → exec (.recipeTabs w) s = .next (answer .state)) ∧
       (r.state = .building → ¬inside → exec (.recipeTabs w) s = .next (answer .badArgument)) ∧
       (r.state = .building → inside → exec (.recipeTabs w) s = .next (State.answeredOn
         (setRecipe i { r with tabs := (List.range r.tabs.length).map stored } s) f rest 0x51 w more
         (if ∀ t ∈ ts, t.cap ≤ 200 then .done else .clamped) [])))

/-- R9: RECIPE-FINISH answers the first failed check with its lowest index, and otherwise makes the slot READY with each
board's tab list in ascending order. -/
def Obligations.RecipeFinishChecksInOrder : Prop :=
  ∀ (w : Wire) (s : State) (f : DownFrame) (rest : List DownFrame) (more : List Item), s.Asked f rest 0x52 w more →
    let p := w.payload
    let answer (r : Result) (fields : List Byte) : State := s.answeredOn f rest 0x52 w more r fields
    (s.line.recipeLock = true → exec (.recipeFinish w) s = .next (answer .locked [])) ∧
    (s.line.recipeLock = false → 8 ≤ byteNat p 4 → exec (.recipeFinish w) s = .next (answer .badArgument [])) ∧
    ∀ i : SlotId, byteNat p 4 = i.val → s.line.recipeLock = false →
      let r := s.recipe i
      let last := r.boards.length + r.tabs.length
      let lists := (List.range r.boards.length).map fun b => (List.range r.tabs.length).filter fun t =>
        decide ((r.tabs.getD t none).map TabTemplate.board = some b)
      (r.state ≠ .building → exec (.recipeFinish w) s = .next (answer .state [])) ∧
      (r.state = .building → ∀ check < 4, ∀ k < last, failsCheck r check k = true → (∀ j < k, failsCheck r check j = false) →
        (∀ d < check, ∀ j < last, failsCheck r d j = false) →
        exec (.recipeFinish w) s = .next (answer .inconsistent [BitVec.ofNat 8 check, BitVec.ofNat 8 k])) ∧
      (r.state = .building → (∀ check < 4, ∀ k < last, failsCheck r check k = false) →
        exec (.recipeFinish w) s = .next (State.answeredOn (setRecipe i { r with state := .ready, tabLists := lists } s)
          f rest 0x52 w more .done []))

/-! ### Nests and the shuttle table (chapter 2) -/

/-- R21, R22: NEST-LOAD, in its order of judgement: a board record for each board template and a tab record for each tab. -/
def Obligations.NestLoadBuildsTheRecords : Prop :=
  ∀ (w : Wire) (s : State) (f : DownFrame) (rest : List DownFrame) (more : List Item), s.Asked f rest 0x55 w more →
    let p := w.payload
    let answer (r : Result) (fields : List Byte) : State := s.answeredOn f rest 0x55 w more r fields
    (2 ≤ byteNat p 4 ∨ 8 ≤ byteNat p 5 → exec (.nestLoad w) s = .next (answer .badArgument [])) ∧
    ∀ (n : Nest) (i : SlotId), payloadByte p 4 = nestCode n → byteNat p 5 = i.val →
      let r := s.recipe i
      ((s.nest n).state ≠ .empty ∨ r.state ≠ .ready → exec (.nestLoad w) s = .next (answer .state [])) ∧
      ((s.nest n).state = .empty → r.state = .ready → (∀ b ∈ r.boards, b.isSome = true) → (∀ t ∈ r.tabs, t.isSome = true) →
        let marked (k : Nat) : Bool := decide (k < 64) && p.getLsbD (32 + k)
        let boards : List BoardRec := (r.boards.filterMap id).mapIdx fun k t =>
          { state := .attached, uncut := (r.tabLists.getD k []).length, hold := t.hold, variant := t.variant, height := t.height,
            tabs := r.tabLists.getD k [], bad := marked k, suspect := false, picker := none, dest := none, freedAt := none,
            placedAt := none }
        let tabs : List TabRec := (r.tabs.filterMap id).map fun t =>
          { board := t.board, state := .intact, lane := none, cutAt := none, faults := 0 }
        let s1 := setNest n { state := .loaded, vacuumFlag := false, slot := i, serial := payloadHalf p 6, boards := boards,
                              tabs := tabs, lastVacuum := (s.nest n).lastVacuum, lowRun := none } s
        let s2 := setRecipe i { r with useCount := r.useCount + 1 } s1
        exec (.nestLoad w) s = .next (s2.answeredOn f rest 0x55 w more .done
          (leBytes 1 r.boards.length ++ leBytes 2 r.tabs.length ++
            leBytes 1 ((List.range r.boards.length).filter marked).length)))

/-- R24, R25, R32: NEST-UNLOAD gives up a panel no block still works on, and NEST-CLEAR takes the VACUUM flag once the vacuum
is back. The model's reading: NEST-CLEAR judges on the threshold as TIMING-SET last wrote it (log 25). R23: a nest whose last
board has reached an end becomes CLEARED, with its notice, in the same event. -/
def Obligations.NestsAreGivenUpAndCleared : Prop :=
  (∀ (w : Wire) (s : State) (f : DownFrame) (rest : List DownFrame) (more : List Item),
     let p := w.payload
     (s.Asked f rest 0x56 w more →
       let answer (r : Result) (fields : List Byte) : State := s.answeredOn f rest 0x56 w more r fields
       (2 ≤ byteNat p 4 → exec (.nestUnload w) s = .next (answer .badArgument [])) ∧
       ∀ n : Nest, payloadByte p 4 = nestCode n →
         let r := s.nest n
         let free : Prop := (∀ b ∈ r.boards, b.state ≠ .held ∧ b.state ≠ .freed ∧ b.state ≠ .inTransit ∧ b.state ≠ .placing ∧
           b.picker = none) ∧ ∀ t ∈ r.tabs, t.state ≠ .cutting
         let s1 := setRecipe r.slot { s.recipe r.slot with useCount := (s.recipe r.slot).useCount - 1 } s
         let s2 := setNest n { state := .empty, vacuumFlag := false, slot := 0, serial := 0, boards := [], tabs := [],
                               lastVacuum := r.lastVacuum, lowRun := none } s1
         (r.state = .empty ∨ (r.state = .loaded ∧ ¬free) → exec (.nestUnload w) s = .next (answer .state [])) ∧
         (r.state = .cleared ∨ (r.state = .loaded ∧ free) → exec (.nestUnload w) s = .next (s2.answeredOn f rest 0x56 w more .done
           (leBytes 1 (r.boards.filter fun b => decide (b.state = .attached)).length)))) ∧
     (s.Asked f rest 0x57 w more →
       let answer (r : Result) : State := s.answeredOn f rest 0x57 w more r []
       (2 ≤ byteNat p 4 → exec (.nestClear w) s = .next (answer .badArgument)) ∧
       ∀ n : Nest, payloadByte p 4 = nestCode n →
         let r := s.nest n
         let back : Prop := ∃ v ∈ r.lastVacuum, s.timing.vacLimit.get n ≤ v
         (r.vacuumFlag = false → exec (.nestClear w) s = .next (answer .done)) ∧
         (r.vacuumFlag = true → back → exec (.nestClear w) s =
           .next ((setNest n { r with vacuumFlag := false } s).answeredOn f rest 0x57 w more .done [])) ∧
         (r.vacuumFlag = true → ¬back → exec (.nestClear w) s = .next (answer .state)))) ∧
  (∀ (tag : Half) (n : Nest) (s : State),
     let r := s.nest n
     let ended (b : BoardRec) : Prop := b.state = .stacked ∨ b.state = .rejected ∨ b.state = .lost
     let count (st : BoardState) : Nat := (r.boards.filter fun b => decide (b.state = st)).length
     (r.state = .loaded → (∀ b ∈ r.boards, ended b) →
       settleNest tag n s = post tag (.nestCleared n r.serial (count .stacked) (count .rejected) (count .lost))
         (setNest n { r with state := .cleared } s) ∧
       count .stacked + count .rejected + count .lost = r.boards.length) ∧
     (r.state ≠ .loaded ∨ (∃ b ∈ r.boards, ¬ended b) → settleNest tag n s = s))

/-- R33, R34: the fields of the three reads of the nest records, which change nothing. -/
def Obligations.NestReadsShowTheRecords : Prop :=
  ∀ (w : Wire) (s : State) (f : DownFrame) (rest : List DownFrame) (more : List Item),
    let p := w.payload
    let bit (b : Bool) : Byte := if b then 1 else 0
    let maybe (k : Nat) (v : Option Nat) : List Byte := bit v.isSome :: leBytes k (v.getD 0)
    let tabsIn (r : NestRec) (st : TabState) (of : List Nat) : Nat :=
      (of.filter fun t => decide ((r.tabs[t]?).map TabRec.state = some st)).length
    (s.Asked f rest 0x58 w more →
      let answer (r : Result) (fields : List Byte) : State := s.answeredOn f rest 0x58 w more r fields
      (2 ≤ byteNat p 4 → exec (.nestRead w) s = .next (answer .badArgument [])) ∧
      ∀ n : Nest, payloadByte p 4 = nestCode n →
        let r := s.nest n
        exec (.nestRead w) s = .next (answer .done
          ([r.state.code, bit r.vacuumFlag] ++ maybe 1 r.lastVacuum ++ leBytes 1 (s.timing.vacLimit.get n) ++ [s.table.code] ++
            leBytes 1 r.slot.val ++ leBytes 2 r.serial.toNat ++ leBytes 1 r.boards.length ++
            leBytes 1 (r.boards.filter fun b => decide (b.state = .stacked ∨ b.state = .rejected ∨ b.state = .lost)).length ++
            leBytes 2 r.tabs.length ++ leBytes 2 (tabsIn r .cut (List.range r.tabs.length)) ++
            leBytes 1 (tabsIn r .cutting (List.range r.tabs.length))))) ∧
    (s.Asked f rest 0x59 w more →
      let answer (r : Result) (fields : List Byte) : State := s.answeredOn f rest 0x59 w more r fields
      (2 ≤ byteNat p 4 ∨ 2 ≤ byteNat p 6 → exec (.boardRead w) s = .next (answer .badArgument [])) ∧
      ∀ n : Nest, payloadByte p 4 = nestCode n → byteNat p 6 < 2 →
        let r := s.nest n
        (r.state = .empty → exec (.boardRead w) s = .next (answer .state [])) ∧
        (r.state ≠ .empty → r.boards[byteNat p 5]? = none → exec (.boardRead w) s = .next (answer .badArgument [])) ∧
        (r.state ≠ .empty → ∀ b, r.boards[byteNat p 5]? = some b →
          (byteNat p 6 = 0 → exec (.boardRead w) s = .next (answer .done
            ([b.state.code] ++ leBytes 1 b.uncut ++ leBytes 1 b.hold ++ leBytes 1 b.variant ++ leBytes 2 b.height ++
              [bit b.bad, bit b.suspect] ++ maybe 1 (b.picker.map Fin.val)))) ∧
          (byteNat p 6 = 1 → exec (.boardRead w) s = .next (answer .done
            ((match b.dest with
              | some d => [1, BitVec.ofNat 8 d.bay.val] ++ leBytes 1 d.first ++ leBytes 1 d.span
              | none => List.replicate 4 0) ++ maybe 2 (b.freedAt.map BitVec.toNat) ++ maybe 2 (b.placedAt.map BitVec.toNat) ++
              leBytes 1 (tabsIn r .faulted b.tabs)))))) ∧
    (s.Asked f rest 0x5A w more →
      let answer (r : Result) (fields : List Byte) : State := s.answeredOn f rest 0x5A w more r fields
      (2 ≤ byteNat p 4 → exec (.tabRead w) s = .next (answer .badArgument [])) ∧
      ∀ n : Nest, payloadByte p 4 = nestCode n →
        let r := s.nest n
        (r.state = .empty → exec (.tabRead w) s = .next (answer .state [])) ∧
        (r.state ≠ .empty → r.tabs[byteNat p 5]? = none → exec (.tabRead w) s = .next (answer .badArgument [])) ∧
        (r.state ≠ .empty → ∀ t, r.tabs[byteNat p 5]? = some t →
          exec (.tabRead w) s = .next (answer .done
            (leBytes 1 t.board ++ [t.state.code] ++ maybe 1 (t.lane.map Fin.val) ++ maybe 2 (t.cutAt.map BitVec.toNat) ++
              leBytes 1 t.faults))))

/-- R28, R29: a SHUTTLE is voided while the line is not RUNNING or the nest at work is engaged, and otherwise starts a move.
-/
def Obligations.ShuttleNeedsAFreeNest : Prop :=
  ∀ (w : Wire) (s : State) (f : DownFrame) (rest : List DownFrame) (more : List Item),
    s.Walking f rest (itemOf 0x17 w) more → s.RoleItem .table w →
    let blocked : Prop := (s.table = .a ∧ s.Engaged .a) ∨ (s.table = .b ∧ s.Engaged .b)
    (s.line.state ≠ .running → exec (.shuttle w) s = .next (s.voidedOn f rest 0x17 w more .halted)) ∧
    (s.line.state = .running → blocked → exec (.shuttle w) s = .next (s.voidedOn f rest 0x17 w more .shuttleBlocked)) ∧
    (s.line.state = .running → ¬blocked →
      exec (.shuttle w) s = .next (State.walkedOn { s with table := .moving } f rest more (itemOf 0x17 w)))

/-- R30, R31: the vacuum keep-out at one nest: a run of low reports as long as the mask time sets the VACUUM flag. R26, R27: a
TABLE-STATE report: both vacuums are taken and judged, then the position; an unexpected departure of an engaged nest aborts
its cuts and is told. -/
def Obligations.TableReportsAndKeepOut : Prop :=
  (∀ (tag : Half) (n : Nest) (s : State) (v : Nat), (s.nest n).lastVacuum = some v →
     let r := s.nest n
     let watched : Prop := r.state = .loaded ∧ r.vacuumFlag = false ∧ ∃ b ∈ r.boards, b.state = .attached ∨ b.state = .held
     let limit := s.timing.vacLimit.get n
     (¬watched ∨ limit ≤ v → keepOut tag n s = setNest n { r with lowRun := none } s) ∧
     (watched → v < limit → r.lowRun = none → keepOut tag n s = setNest n { r with lowRun := some s.now } s) ∧
     (watched → v < limit → ∀ t, r.lowRun = some t →
       (s.now - t < s.timing.vacMask.get n → keepOut tag n s = s) ∧
       (s.timing.vacMask.get n ≤ s.now - t → keepOut tag n s = post tag (.nestFault n v limit)
         { setNest n { r with vacuumFlag := true, lowRun := none } s with lanes := s.lanesAborted n }))) ∧
  (∀ (w : Wire) (s : State) (f : UpFrame) (rest : List UpFrame) (more : List Item) (pos : WorkPos),
     s.Reporting f rest (itemOf 0x23 w) more → s.RoleItem .table w → payloadByte w.payload 6 = pos.code → pos ≠ .unknown →
     let low (v : Nat) : Nat := if 100 < v then 100 else v
     let s1 : State := { s with nests :=
       ⟨{ s.nests.a with lastVacuum := some (low (byteNat w.payload 4)) }, { s.nests.b with lastVacuum := some (low (byteNat w.payload 5)) }⟩ }
     let s2 := keepOut w.tag .b (keepOut w.tag .a s1)
     let moved : State := { s2 with table := pos }
     let leaves (n : Nest) : Prop := s.table.nest? = some n ∧ pos ≠ s.table ∧ s.Engaged n
     (¬leaves .a → ¬leaves .b → exec (.tableState w) s = .next (moved.reportedOn f rest more)) ∧
     ∀ n, leaves n → exec (.tableState w) s = .next
       ((post w.tag (.tableMoved n pos f.cycle) { moved with lanes := s2.lanesAborted n }).reportedOn f rest more))

/-! ### Pickers and custody (chapter 4) -/

/-- R62, R63, R71: a GRIP and a LIFT are voided with the code of the first check that fails, changing no record; a forwarded
GRIP sends the picker closing on its board, and a forwarded LIFT sets its FREED board IN-TRANSIT. The model's reading: a GRIP
for a nest that is not LOADED is voided NO-NEST while the work position is MOVING or UNKNOWN, too (log 27). -/
def Obligations.GripAndLiftAreJudged : Prop :=
  ∀ (w : Wire) (s : State) (f : DownFrame) (rest : List DownFrame) (more : List Item) (q : PickerId), s.RoleItem (.picker q) w →
    let p := w.payload
    let k := s.picker q
    let n? := nestOfByte (payloadByte p 4)
    let b? := n?.bind fun n => (s.nest n).boards[byteNat p 5]?
    let grip := firstFailing
      [(decide (k.state ≠ .jammed), .pickerFault), (decide (k.state = .empty), .pickerBusy),
       (n?.any fun n => decide ((s.nest n).state = .loaded), .noNest), (n?.any fun n => decide (s.table.nest? = some n), .nestNotAtWork),
       (b?.isSome, .noBoard), (b?.any fun b => decide (b.state = .attached ∧ b.picker = none), .boardState)]
    let held? := k.board.bind s.boardAt
    let lift := firstFailing
      [(decide (s.line.state = .running), .halted), (decide (k.state ≠ .jammed), .pickerFault),
       (decide (k.state = .holding), .pickerEmpty), (held?.any fun b => decide (b.state = .freed), .notFreed)]
    (s.Walking f rest (itemOf 0x13 w) more →
      (∀ c, grip = some c → exec (.grip w) s = .next (s.voidedOn f rest 0x13 w more c)) ∧
      (grip = none → ∀ n, n? = some n →
        let r : BoardRef := ⟨n, byteNat p 5⟩
        exec (.grip w) s = .next ((modBoard r (fun b => { b with picker := some q })
          (setPicker q { k with state := .closing, board := some r, sentFor := some r, jawTimer := some (s.now + s.timing.jaw) } s)
          ).walkedOn f rest more (itemOf 0x13 w)))) ∧
    (s.Walking f rest (itemOf 0x15 w) more →
      (∀ c, lift = some c → exec (.lift w) s = .next (s.voidedOn f rest 0x15 w more c)) ∧
      (lift = none → ∀ r, k.board = some r →
        exec (.lift w) s = .next ((modBoard r (fun b => { b with state := .inTransit }) s).walkedOn f rest more (itemOf 0x15 w))))

/-- R69, R70, R92: an OPEN, by the picker's state and its board's; a placement sensed early completes with it. -/
def Obligations.OpenReleasesOnlyASafeBoard : Prop :=
  ∀ (w : Wire) (s : State) (f : DownFrame) (rest : List DownFrame) (more : List Item) (q : PickerId),
    s.Walking f rest (itemOf 0x14 w) more → s.RoleItem (.picker q) w →
    let k := s.picker q
    let void (c : RefusalCode) : Prop := exec (.openJaws w) s = .next (s.voidedOn f rest 0x14 w more c)
    let goes (s' : State) : Prop := exec (.openJaws w) s = .next (s'.walkedOn f rest more (itemOf 0x14 w))
    let opening : State :=
      setPicker q { k with state := .opening, board := none, sentFor := none, jawTimer := some (s.now + s.timing.jaw) } s
    let released (r : BoardRef) (st : BoardState) : State := modBoard r (fun b => { b with state := st, picker := none }) opening
    (k.state = .empty ∨ k.state = .opening → goes s) ∧
    (k.state = .jammed → void .pickerFault) ∧
    (k.state = .closing → k.board = none → goes opening) ∧
    (k.state = .closing → ∀ r, k.board = some r → (s.boardAt r).map BoardRec.state = some .attached → goes (released r .attached)) ∧
    (k.state = .holding → ∀ r, k.board = some r → ∀ b, s.boardAt r = some b →
      (b.state = .held → b.hold ≤ b.uncut → goes (released r .attached)) ∧
      (b.state = .held → b.uncut < b.hold → void .holdRequired) ∧
      (b.state = .freed → void .notPlaced) ∧
      (b.state = .inTransit → b.dest = none → void .noDestination) ∧
      (b.state = .inTransit → b.dest ≠ none → (∀ x, s.placementOf r = some x → x.sensed = none) → goes (released r .placing)) ∧
      (b.state = .inTransit → b.dest ≠ none → ∀ x, s.placementOf r = some x → ∀ c, x.sensed = some c →
        goes (completePlacement w.tag x c (released r .placing))))

/-- R64, R65, R68: a GRIP-STATE report for a picker that awaits no hold: what is recorded, and what the jaws end. R66, R67: a
GRIP-STATE report for a picker in HOLDING: a confirmed hold changes nothing, a HELD board goes back to the frame with the cuts
that needed the hold aborted, and a FREED or IN-TRANSIT board is LOST with its reservation dropped. The model's reading:
GRIP-LOST is queued before the NEST-CLEARED of the same loss (log 9). -/
def Obligations.GripReportsAreTaken : Prop :=
  (∀ (w : Wire) (s : State) (f : UpFrame) (rest : List UpFrame) (more : List Item) (q : PickerId) (jaws : Jaws) (sensed : Bool),
     s.Reporting f rest (itemOf 0x22 w) more → s.RoleItem (.picker q) w →
     byteNat w.payload 4 = jaws.num → payloadByte w.payload 5 = (if sensed then 1 else 0) →
     let old := s.picker q
     let k : Picker := { old with lastJaws := some jaws, lastSensed := some sensed }
     let s0 := setPicker q k s
     let takes (s' : State) : Prop := exec (.gripState w) s = .next (s'.reportedOn f rest more)
     let emptied : State := setPicker q { k with state := .empty, board := none, sentFor := none, jawTimer := none } s
     let untracked : Prop := jaws = .closed ∧ sensed = true ∧ ¬(old.lastJaws = some .closed ∧ old.lastSensed = some true)
     (k.state = .empty → ¬untracked → takes s0) ∧
     (k.state = .empty → untracked → takes (post w.tag (.gripUntracked q f.cycle) s0)) ∧
     (k.state = .jammed → takes s0) ∧
     (k.state = .opening → jaws = .closed → takes s0) ∧
     (k.state = .opening → jaws = .opened → k.board = none → takes emptied) ∧
     (k.state = .closing → jaws = .opened → takes s0) ∧
     (k.state = .closing → jaws = .closed → ∀ r, k.board = some r →
       (sensed = true → takes (modBoard r (fun b => { b with state := .held })
         (setPicker q { k with state := .holding, sentFor := none, jawTimer := none } s))) ∧
       (sensed = false → takes (post w.tag (.gripFailed q r .notSensed (some f.cycle))
         (modBoard r (fun b => { b with picker := none }) emptied)))) ∧
     (k.state = .closing → jaws = .closed → k.board = none → ∀ r, k.sentFor = some r →
       takes (post w.tag (.gripFailed q r .boardLost (some f.cycle)) emptied))) ∧
  (∀ (w : Wire) (s : State) (f : UpFrame) (rest : List UpFrame) (more : List Item) (q : PickerId) (jaws : Jaws) (sensed : Bool)
     (r : BoardRef) (b : BoardRec),
     s.Reporting f rest (itemOf 0x22 w) more → s.RoleItem (.picker q) w →
     byteNat w.payload 4 = jaws.num → payloadByte w.payload 5 = (if sensed then 1 else 0) →
     (s.picker q).state = .holding → (s.picker q).board = some r → s.boardAt r = some b →
     let k : Picker := { s.picker q with lastJaws := some jaws, lastSensed := some sensed }
     let takes (s' : State) : Prop := exec (.gripState w) s = .next (s'.reportedOn f rest more)
     let lost (st : BoardState) : State := modBoard r (fun b => { b with state := st, picker := none })
       (setPicker q { k with state := .empty, board := none, sentFor := none, jawTimer := none } s)
     let needsHold : Bool := decide (b.uncut < b.hold)
     let aborted : Vector Lane 4 := s.lanes.map fun l => { l with pend := { l.pend with
       abort := l.pend.abort || (needsHold && l.binding.any fun x => decide (s.boardOfTab x.nest x.tab = r)) } }
     let dropped : State := match s.placementOf r with
       | some x => { modBay x.dest.bay (fun y => y.releaseRun x.dest) (lost .lost) with
           placements := s.placements.filter fun y => decide (y.ref ≠ r) }
       | none => lost .lost
     (jaws = .closed → sensed = true → takes (setPicker q k s)) ∧
     (jaws = .opened ∨ sensed = false → b.state = .held →
       takes (post w.tag (.gripLost q r .attached f.cycle) { lost .attached with lanes := aborted })) ∧
     (jaws = .opened ∨ sensed = false → b.state = .freed ∨ b.state = .inTransit →
       takes (settleNest w.tag r.nest (post w.tag (.gripLost q r .lost f.cycle) dropped))))

/-- R73: the jaw timer fails a grip and jams a release. The model's choice: the clock is brought to the timer's end (log 1).
R74: PICKER-CLEAR frees a JAMMED picker last reported open and empty, and shows the picker in every answer but BAD-ARGUMENT.
-/
def Obligations.JawTimerAndPickerClear : Prop :=
  (∀ (s : State) (q : PickerId) (ends : Nat), (s.picker q).jawTimer = some ends → s.inReset = false →
     let k := s.picker q
     let ended (st : PickerState) (board : Option BoardRef) : State :=
       setPicker q { k with state := st, board := board, sentFor := none, jawTimer := none } (s.runTo ends)
     (k.state = .closing → ∀ r, k.sentFor = some r → k.board = some r →
       exec (.jawTimerExpiry q) s = .next (post 0 (.gripFailed q r .timeout none)
         (modBoard r (fun b => { b with picker := none }) (ended .empty none)))) ∧
     (k.state = .closing → ∀ r, k.sentFor = some r → k.board = none →
       exec (.jawTimerExpiry q) s = .next (post 0 (.gripFailed q r .timeout none) (ended .empty none))) ∧
     (k.state = .opening →
       exec (.jawTimerExpiry q) s = .next (post 0 (.pickerJammed q k.lastJaws k.lastSensed) (ended .jammed k.board)))) ∧
  (∀ (w : Wire) (s : State) (f : DownFrame) (rest : List DownFrame) (more : List Item), s.Asked f rest 0x5B w more →
     (2 ≤ byteNat w.payload 4 → exec (.pickerClear w) s = .next (s.answeredOn f rest 0x5B w more .badArgument [])) ∧
     ∀ q : PickerId, byteNat w.payload 4 = q.val →
       let k := s.picker q
       let fields (k : Picker) : List Byte := [k.state.code] ++
         (match k.board with | some r => [1, nestCode r.nest] ++ leBytes 1 r.board | none => [0, 0, 0]) ++
         (match k.lastJaws with | some j => [1, BitVec.ofNat 8 j.num] | none => [0, 0]) ++
         (match k.lastSensed with | some x => [1, if x then 1 else 0] | none => [0, 0])
       let k' : Picker := { k with state := .empty, sentFor := none }
       let clear : Prop := k.lastJaws = some .opened ∧ k.lastSensed = some false
       (k.state = .jammed → clear →
         exec (.pickerClear w) s = .next ((setPicker q k' s).answeredOn f rest 0x5B w more .done (fields k'))) ∧
       (k.state = .empty → exec (.pickerClear w) s = .next (s.answeredOn f rest 0x5B w more .done (fields k))) ∧
       ((k.state = .jammed ∧ ¬clear) ∨ k.state = .closing ∨ k.state = .holding ∨ k.state = .opening →
         exec (.pickerClear w) s = .next (s.answeredOn f rest 0x5B w more .state (fields k))))

/-! ### Bays and placements (chapter 5) -/

/-- R86 to R89: a PLACE is voided by the first condition that holds, searches the bays by the route of its board, and reserves
the run it finds, which is written into the item; where there is none, the span of the notice is that of the bays (log 3). The
bays are in range (`BayInv`, R77). The model's reading: BAY-FULL, REFUSED and the notice of R89 in this order (log 9). R96: a
bay that becomes FULL queues its notice, with its limit and how far it is filled. -/
def Obligations.PlaceReservesARun : Prop :=
  (∀ (w : Wire) (s : State) (f : DownFrame) (rest : List DownFrame) (more : List Item) (q : PickerId),
     s.BayInv → s.Walking f rest (itemOf 0x16 w) more → s.RoleItem (.picker q) w →
     let k := s.picker q
     let held? := k.board.bind s.boardAt
     let code := firstFailing
       [(decide (s.line.state = .running), .halted), (decide (k.state ≠ .jammed), .pickerFault),
        (decide (k.state = .holding), .pickerEmpty), (held?.any fun b => decide (b.state = .inTransit ∧ b.dest = none), .boardState)]
     (∀ c, code = some c → exec (.place w) s = .next (s.voidedOn f rest 0x16 w more c)) ∧
     (code = none → ∀ r, k.board = some r → ∀ b, s.boardAt r = some b →
       let toReject := b.bad || (b.suspect && (s.recipe (s.nest r.nest).slot).suspectOption)
       let sent (s' : State) (d : Destination) : Prop :=
         exec (.place w) s = .next ((s'.reservedFor w.tag f.cycle r d).walkedOn f rest more
           (itemOf 0x16 { w with payload := withField (withField (withField w.payload 4 1 d.bay.val) 5 1 d.first) 6 1 d.span }))
       let noSlot (s' : State) (why : Notice) : Prop :=
         exec (.place w) s = .next ((post w.tag why (post w.tag (.refused 0x16 .noSlot w.tag) s')).walkedOn f rest more
           (voidItem (itemOf 0x16 w) .noSlot))
       let spans := ([0, 1, 2, 3, 4, 5, 6, 7] : List BayId).filterMap fun id => match (s.bay id).kind with
         | .normal v slots pitch _ => if v = b.variant then some (ceilDiv b.height pitch, slots) else none
         | _ => none
       let s1 := s.searched w.tag b.variant b.height
       let found := ([0, 1, 2, 3, 4, 5, 6, 7] : List BayId).findSome? (s.roomIn b.variant b.height)
       (toReject = true → ∀ id c, (s.bay id).kind = .reject c → (∀ j, (s.bay j).kind.isReject = true → j = id) →
         ((s.bay id).state = .ready → sent s ⟨id, 0, 1⟩) ∧ ((s.bay id).state ≠ .ready → noSlot s (.noRoom r (some id)))) ∧
       (toReject = true → (∀ j, (s.bay j).kind.isReject = false) → noSlot s (.noRoom r none)) ∧
       (toReject = false → ∀ d, found = some d → sent s1 d) ∧
       (toReject = false → found = none → (∃ x ∈ spans, x.1 ≤ x.2) →
         noSlot { s1 with free := s.free + 1 } (.noRoom r none)) ∧
       (toReject = false → found = none → (∀ x ∈ spans, x.2 < x.1) →
         ∃ span, (∀ n, spans ≠ [] → (∀ x ∈ spans, x.1 = n) → span = BitVec.ofNat 8 n) ∧
           noSlot { s1 with free := s.free + 1 } (.unfittable r b.variant span)))) ∧
  (∀ (tag : Half) (id : BayId) (s : State),
     let b := s.bay id
     let full (limit filled : Nat) : State := post tag (.bayFull id limit filled) (setBay id { b with state := .full } s)
     (∀ v slots pitch dir t, b.kind = .normal v slots pitch dir → b.table = some t →
       becomeFull tag id s = full slots t.cursor) ∧
     (∀ c, b.kind = .reject c → becomeFull tag id s = full c b.placed))

/-- R92, R93, R96: what completing a placement and ending one without a board do to its bay, its board and its record. The
model's reading: NEST-CLEARED is queued before PLACE-FAILED (log 9). R91 to R94: a matched PLACE-DONE completes the placement
of a PLACING board, marks that of a board still IN-TRANSIT, and ends one without a board, as the place timer's expiry does.
The model's choices: a second early report's cycle is kept (log 10), a REJECT report whose first slot is not 0 matches nothing
(log 13), and the clock is brought to the timer's end (log 1). -/
def Obligations.PlacementsComeToAnEnd : Prop :=
  (∀ (tag : Half) (x : Placement) (cycle : Half) (reason : PlaceReason) (s : State) (b : BoardRec), s.boardAt x.ref = some b →
     let bay := s.bay x.dest.bay
     let closed : State := { s with placements := s.placements.filter fun y => decide (y.ref ≠ x.ref) }
     let serial := (s.nest x.ref.nest).serial
     let kept (bay' : Bay) (st : BoardState) : State := settleNest tag x.ref.nest
       (modBoard x.ref (fun b => { b with state := st, placedAt := some cycle }) (setBay x.dest.bay bay' closed))
     let unplaced : BoardRec :=
       if b.state = .inTransit then { b with dest := none } else if b.state = .placing then { b with state := .lost } else b
     let given (bay' : Bay) : State := post tag (.placeFailed x.ref x.dest.bay x.dest.first reason unplaced.state)
       (settleNest tag x.ref.nest (modBoard x.ref (fun _ => unplaced) (setBay x.dest.bay bay' closed)))
     (∀ v slots pitch dir t, bay.kind = .normal v slots pitch dir → bay.table = some t →
       (dir = .down → x.dest.span ≤ x.dest.first + 1) →
       (∃ t', t.runHolds t' dir x.dest (.occupied (some ⟨x.ref.nest, x.ref.board, serial⟩)) ∧
         completePlacement tag x cycle s = kept { bay with table := some t' } .stacked) ∧
       (∃ t', t.runHolds t' dir x.dest .skipped ∧ endPlacement tag x reason s = given { bay with table := some t' })) ∧
     (∀ c, bay.kind = .reject c →
       completePlacement tag x cycle s =
         kept { bay with reserved := bay.reserved - 1, placed := min c (bay.placed + 1) } .rejected ∧
       endPlacement tag x reason s = given { bay with
         reserved := bay.reserved - 1,
         state := if bay.state = .full ∧ bay.reserved - 1 + bay.placed < c then .ready else bay.state })) ∧
  ((∀ (w : Wire) (s : State) (f : UpFrame) (rest : List UpFrame) (more : List Item) (id : BayId) (sensed : Bool) (x : Placement)
     (b : BoardRec),
     s.Reporting f rest (itemOf 0x25 w) more → s.RoleItem .elevator w → byteNat w.payload 4 = id.val →
     payloadByte w.payload 6 = (if sensed then 1 else 0) → s.matched id (byteNat w.payload 5) = some x → s.boardAt x.ref = some b →
     let early : State := { s with placements := s.placements.map fun y =>
       { y with sensed := if y.ref = x.ref then some f.cycle else y.sensed } }
     (sensed = true → b.state = .placing →
       exec (.placeDone w) s = .next ((completePlacement w.tag x f.cycle s).reportedOn f rest more)) ∧
     (sensed = true → b.state ≠ .placing → exec (.placeDone w) s = .next (early.reportedOn f rest more)) ∧
     (sensed = false →
       exec (.placeDone w) s = .next ((endPlacement w.tag x .notSensed s).reportedOn f rest more))) ∧
   ∀ (s : State) (x : Placement), s.inReset = false → s.placements.find? (fun y => y.ref == x.ref) = some x →
     exec (.placeTimerExpiry x.ref.nest x.ref.board) s = .next (endPlacement 0 x .timeout (s.runTo x.deadline)))

/-- R95: a PLACE-DONE that matches no open placement: a STRAY-PLACE notice, and for a sensed board what its slot becomes. The
model's readings: STRAY-PLACE is queued first (log 9), a bay FULL already queues no second notice (log 12), and a REJECT
report whose first slot is not 0 is stray (log 13). -/
def Obligations.StrayPlaceIsAccountedFor : Prop :=
  ∀ (w : Wire) (s : State) (f : UpFrame) (rest : List UpFrame) (more : List Item) (sensed : Bool),
    s.Reporting f rest (itemOf 0x25 w) more → s.RoleItem .elevator w → payloadByte w.payload 6 = (if sensed then 1 else 0) →
    (∀ id : BayId, byteNat w.payload 4 = id.val → s.matched id (byteNat w.payload 5) = none) →
    let slot := byteNat w.payload 5
    let s1 := post w.tag (.strayPlace (payloadByte w.payload 4) (payloadByte w.payload 5) sensed f.cycle) s
    let takes (s' : State) : Prop := exec (.placeDone w) s = .next (s'.reportedOn f rest more)
    (sensed = false ∨ 8 ≤ byteNat w.payload 4 → takes s1) ∧
    ∀ id : BayId, byteNat w.payload 4 = id.val → sensed = true →
      let b := s.bay id
      let full (limit filled : Nat) (s' : State) : State :=
        post w.tag (.bayFull id limit filled) (modBay id (fun b => { b with state := .full }) s')
      (b.state ≠ .ready → b.state ≠ .full → takes s1) ∧
      (b.state = .ready ∨ b.state = .full →
        (∀ c, b.kind = .reject c →
          let placed := min c (b.placed + 1)
          let s2 := setBay id { b with placed := placed } s1
          takes (if c ≤ b.reserved + placed ∧ b.state = .ready then full c placed s2 else s2)) ∧
        (∀ v slots pitch dir t, b.kind = .normal v slots pitch dir → b.table = some t → t.slots.length = slots →
          let pos (j : Nat) : Nat := match dir with | .up => j | .down => slots - 1 - j
          let put (s' : State) : State :=
            modBay id (fun b => { b with table := b.table.map fun t => { t with slots := t.slots.set slot (.occupied none) } }) s'
          (slots ≤ slot → takes s1) ∧
          (∀ ref, t.slots[slot]? = some (.occupied ref) → takes s1) ∧
          (t.slots[slot]? = some .skipped → takes (put s1)) ∧
          (t.slots[slot]? = some .empty → t.cursor ≤ pos slot →
            let t' : SlotTable :=
              { slots := t.slots.mapIdx fun j y =>
                  if j = slot then .occupied none else if t.cursor ≤ pos j ∧ pos j < pos slot then .skipped else y,
                cursor := pos slot + 1 }
            let s2 := setBay id { b with table := some t' } s1
            takes (if pos slot + 1 = slots ∧ b.state = .ready then full slots slots s2 else s2)) ∧
          (∀ r x, t.slots[slot]? = some (.reserved r) → s.placements.find? (fun y => y.ref == r) = some x →
            takes (put (endPlacement w.tag x .stray s1)))))

/-- R81 to R83: a BAY-STATE report acts on each bay 0 to 7 in turn (log 24: a removal strips the destination of a board
PLACING). The model's reading: PLACE-FAILED is queued before the NEST-CLEARED it causes (log 9). -/
def Obligations.BayReportActsBayByBay : Prop :=
  ∀ (w : Wire) (s : State) (f : UpFrame) (rest : List UpFrame) (more : List Item),
    s.Reporting f rest (itemOf 0x24 w) more → s.RoleItem .elevator w →
    let acted := ([0, 1, 2, 3, 4, 5, 6, 7] : List BayId).foldl
      (fun s id => s.bayReported w.tag ((payloadByte w.payload 4).getLsbD id.val) id) s
    exec (.bayState w) s = .next (acted.reportedOn f rest more)

/-- R79, R80: BAY-CONFIG, in its order of judgement; the runtime state is rebuilt from the presence. R84: BAY-PRESET declares
how far a magazine is filled; at the limit the bay is FULL, with its notice. The model's reading: a preset to the limit queues
BAY-FULL on a bay FULL already, too (log 12). R98: the fields BAY-READ answers with, and its refusals; it changes nothing. -/
def Obligations.BaysAreConfiguredAndRead : Prop :=
  (∀ (w : Wire) (s : State) (f : DownFrame) (rest : List DownFrame) (more : List Item), s.Asked f rest 0x5C w more →
     let p := w.payload
     let answer (r : Result) : State := s.answeredOn f rest 0x5C w more r []
     let named : Prop := byteNat p 4 < 8 ∧ byteNat p 5 < 3 ∧ (byteNat p 5 = 1 → byteNat p 6 ≠ 0 ∧ byteNat p 9 < 2)
     let slots := within 1 120 (byteNat p 7)
     let pitch := within 10 200 (byteNat p 8)
     let capacity := within 1 500 (halfNat p 6)
     let kind : BayKind :=
       if byteNat p 5 = 1 then .normal (byteNat p 6) slots pitch (if byteNat p 9 = 0 then .up else .down)
       else if byteNat p 5 = 2 then .reject capacity else .none
     let clamped : Prop := (byteNat p 5 = 1 ∧ (slots ≠ byteNat p 7 ∨ pitch ≠ byteNat p 8)) ∨
       (byteNat p 5 = 2 ∧ capacity ≠ halfNat p 6)
     (¬named → exec (.bayConfig w) s = .next (answer .badArgument)) ∧
     ∀ id : BayId, byteNat p 4 = id.val → named →
       let second : Prop := byteNat p 5 = 2 ∧ ∃ j, j ≠ id ∧ (s.bay j).kind.isReject = true
       let b := s.bay id
       let state : BayState :=
         if byteNat p 5 = 0 then .inactive else if b.presence = .present then .uncertain else .absent
       (second → exec (.bayConfig w) s = .next (answer .state)) ∧
       (¬second → b.holdsPlacement = true → exec (.bayConfig w) s = .next (answer .inUse)) ∧
       (¬second → b.holdsPlacement = false → exec (.bayConfig w) s = .next (State.answeredOn
         (setBay id { kind := kind, state := state, presence := b.presence, table := none, reserved := 0, placed := 0 } s)
         f rest 0x5C w more (if clamped then .clamped else .done) [state.code]))) ∧
  (∀ (w : Wire) (s : State) (f : DownFrame) (rest : List DownFrame) (more : List Item), s.Asked f rest 0x5D w more →
     let p := w.payload
     let answer (r : Result) : State := s.answeredOn f rest 0x5D w more r []
     (8 ≤ byteNat p 4 → exec (.bayPreset w) s = .next (answer .badArgument)) ∧
     ∀ id : BayId, byteNat p 4 = id.val →
       let b := s.bay id
       let done (limit c : Nat) (b' : Bay) : Prop :=
         let s1 := if c = limit then post w.tag (.bayFull id limit c) (setBay id { b' with state := .full } s)
           else setBay id { b' with state := .ready } s
         exec (.bayPreset w) s = .next (s1.answeredOn f rest 0x5D w more
           (if c = halfNat p 5 then .done else .clamped) [if c = limit then 3 else 2])
       (b.state = .inactive ∨ b.state = .absent → exec (.bayPreset w) s = .next (answer .state)) ∧
       (b.state ≠ .inactive → b.state ≠ .absent → b.holdsPlacement = true → exec (.bayPreset w) s = .next (answer .inUse)) ∧
       (b.state ≠ .inactive → b.state ≠ .absent → b.holdsPlacement = false →
         (∀ v slots pitch dir, b.kind = .normal v slots pitch dir →
           let c := min (halfNat p 5) slots
           let filled (j : Nat) : Bool := match dir with | .up => decide (j < c) | .down => decide (slots - c ≤ j)
           let t : SlotTable := ⟨(List.range slots).map fun j => if filled j then .occupied none else .empty, c⟩
           done slots c { b with table := some t }) ∧
         (∀ cap, b.kind = .reject cap → done cap (min (halfNat p 5) cap) { b with placed := min (halfNat p 5) cap }))) ∧
  (∀ (w : Wire) (s : State) (f : DownFrame) (rest : List DownFrame) (more : List Item), s.Asked f rest 0x5E w more →
     let p := w.payload
     let answer (r : Result) (fields : List Byte) : State := s.answeredOn f rest 0x5E w more r fields
     (8 ≤ byteNat p 4 ∨ 2 ≤ byteNat p 5 → exec (.bayRead w) s = .next (answer .badArgument [])) ∧
     ∀ id : BayId, byteNat p 4 = id.val →
       let b := s.bay id
       let slot := byteNat p 6
       let openHere := leBytes 1 (s.placements.filter fun x => decide (x.dest.bay = id)).length
       let tally (c : Byte) : List Byte :=
         leBytes 1 (match b.table with | some t => (t.slots.filter fun x => decide (x.code = c)).length | none => 0)
       let head := [b.kind.code, b.state.code, b.presence.code]
       (byteNat p 5 = 0 →
         (b.kind = .none → exec (.bayRead w) s = .next (answer .done (head ++ openHere))) ∧
         (∀ v slots pitch dir, b.kind = .normal v slots pitch dir → exec (.bayRead w) s = .next (answer .done
           (head ++ leBytes 1 v ++ leBytes 1 slots ++ leBytes 1 pitch ++ [dir.code] ++
             leBytes 1 (match b.table with | some t => t.cursor | none => 0) ++
             tally 0 ++ tally 1 ++ tally 2 ++ tally 3 ++ openHere))) ∧
         (∀ c, b.kind = .reject c → exec (.bayRead w) s = .next (answer .done
           (head ++ leBytes 2 c ++ leBytes 2 b.reserved ++ leBytes 2 b.placed ++ openHere)))) ∧
       (byteNat p 5 = 1 →
         ((b.kind = .none ∨ b.kind.isReject = true) → exec (.bayRead w) s = .next (answer .state [])) ∧
         (∀ v slots pitch dir, b.kind = .normal v slots pitch dir →
           (slots ≤ slot → exec (.bayRead w) s = .next (answer .badArgument [])) ∧
           (slot < slots → b.table = none → exec (.bayRead w) s = .next (answer .state [])) ∧
           (∀ t, slot < slots → b.table = some t → t.slots.length = slots → ∀ x, t.slots[slot]? = some x →
             exec (.bayRead w) s = .next (answer .done
               ([x.code] ++ leBytes 1 (match dir with | .up => slot | .down => slots - 1 - slot) ++
                 match x with
                 | .occupied (some r) => [1, nestCode r.nest] ++ leBytes 1 r.board ++ leBytes 2 r.serial.toNat
                 | .reserved r => [1, nestCode r.nest] ++ leBytes 1 r.board ++
                     (match s.placements.find? fun y => y.ref == r with
                     | some y => leBytes 2 y.cycle.toNat ++ leBytes 2 (y.deadline - s.now)
                     | none => [0, 0, 0, 0])
                 | _ => [0, 0, 0]))))))

/-! ### Reset and the invariants -/

/-- The state after reset, with the values of the reset tables (R16, R35, R59, R76, R99, R114, R132, R149, R162, R165), meets
every invariant. The levels of the pins, and with them the own address 62 (R156) and the level the filter runs for (R152), are
the model's choice (log 4). -/
def Obligations.ResetMeetsTheInvariants : Prop :=
  let s := State.reset
  (s.LinkInv ∧ s.LaneInv ∧ s.RecipeInv ∧ s.CustodyInv ∧ s.CutInv ∧ s.BoardInv ∧ s.BayInv ∧ s.PlaceInv) ∧
  (s.pending = [] ∧ s.down = [] ∧ s.up = [] ∧ s.sentD = [] ∧ s.sentU = [] ∧ s.lastOrder = 0 ∧ s.placements = [] ∧
    s.table = .unknown ∧ s.ret = { answers := [], notices := [], overflow := false, lost := 0, answerLost := false }) ∧
  (∀ p, s.port p = { state := .up, errors := 0, degraded := false, run := 0 }) ∧
  (∀ r, s.addrOf r = none) ∧
  (∀ i : SlotId, s.recipe i =
    { state := .empty, boards := [], tabs := [], suspectOption := false, useCount := 0, tabLists := [] }) ∧
  s.freeBoards = 256 ∧ s.freeTabs = 1024 ∧
  (∀ n : Nest, (s.nest n).state = .empty ∧ (s.nest n).lastVacuum = none ∧ (s.nest n).lowRun = none ∧
    (s.nest n).boards = [] ∧ (s.nest n).tabs = [] ∧ (s.nest n).vacuumFlag = false) ∧
  (∀ i : LaneId, let l := s.lane i
    (l.state = .inactive ∧ l.spindle = .stopped ∧ l.commanded = none ∧ l.lastSpeed = none ∧ l.lastLoad = none ∧
      l.lastFault = none ∧ l.causes.isEmpty = true ∧ l.bitChangeDue = false ∧ l.recoveryMode = .latch ∧ l.autoWait = 2000 ∧
      l.recoveryTimer = none ∧ l.spinDownTimeout = 4000 ∧ l.spinDownTimer = none ∧ l.cutTimeout = 10000 ∧ l.cutTimer = none ∧
      l.binding = none ∧ l.pend = { abort := false, stop := false, feed := none }) ∧
    l.gov = { mode := .yield, level := 4, mask := 50, coolDown := 1000, restore := 5000, state := .normal, override := 100,
              overRun := none, coolTimer := none, restoreTimer := none } ∧
    l.life = { bitId := 0, wear := 0, warn := 16777215, limit := 16777215, behaviour := .stopNew, warned := false,
               reached := false }) ∧
  (∀ q : PickerId, s.picker q =
    { state := .empty, board := none, sentFor := none, jawTimer := none, lastJaws := none, lastSensed := none }) ∧
  (∀ b : BayId, s.bay b =
    { kind := .none, state := .inactive, presence := .unknown, table := none, reserved := 0, placed := 0 }) ∧
  s.timing = { watchdog := 20, stopFilter := 5, jaw := 1500, place := 5000, vacMask := ⟨200, 200⟩, vacLimit := ⟨40, 40⟩ } ∧
  (s.line.state = .idle ∧ s.line.watchdogHold = false ∧ s.line.watchdog = none ∧ s.line.filtered = .unknown ∧
    s.line.filterTimer = some { high := s.pins.stopSense, ends := s.now + 5 } ∧ s.line.mask = 0xFF ∧
    s.line.recipeLock = false ∧ s.line.limitLock = false ∧ s.line.ownAddr = ownAddressOf s.pins.straps)

/-- Every step keeps the invariant of the ports (R134, R135), the return path (R145, R147), the role table (R138), the line
(R150) and the frames (R133), and that of the recipe store (R1, R2, R5, R7, R9, R12). -/
def Obligations.StepsKeepTheLinkAndTheRecipes : Prop :=
  ∀ s t : State, step s = .next t → (s.LinkInv → t.LinkInv) ∧ (s.RecipeInv → t.RecipeInv)

/-- Every step keeps the invariant of the lanes: the lane state agrees with the binding, the timers, the causes, the spindle
and the park hold (R36, R105, R115, R118, R125), the wear and its flags with the levels (R100, R102, R103), and the governor
with its mode, override and timers (R119 to R122). -/
def Obligations.StepsKeepTheLanes : Prop :=
  ∀ s t : State, s.LaneInv → step s = .next t → t.LaneInv

/-- Every step keeps the pairing of pickers and boards (R60, R61), and with the lanes and the recipes the truth of the cut
bindings and of the uncut counts (R18, R19, R36). -/
def Obligations.StepsKeepCustodyAndCuts : Prop :=
  ∀ s t : State, step s = .next t →
    (s.CustodyInv → t.CustodyInv) ∧ (s.LaneInv → s.RecipeInv → s.CustodyInv → s.CutInv → t.CutInv)

/-- Every step keeps the bays in range with one REJECT bay at the most (R77, R78), and with the recipes the variant, the
height and the hold threshold of every board record in the range of the templates (R18). With these and custody it keeps the
order of the slots before and after the cursor, the ownership of RESERVED slots, and the pairing of open placements and boards
(R88, R90, R96). -/
def Obligations.StepsKeepBaysAndPlacements : Prop :=
  ∀ s t : State, step s = .next t →
    (s.BayInv → t.BayInv) ∧ (s.RecipeInv → s.BoardInv → t.BoardInv) ∧
    (s.CustodyInv → s.BoardInv → s.BayInv → s.PlaceInv → t.PlaceInv)
end

