-- ==== Sys2Proof/Laws/State.lean ====
section
/-! SUPPORT. What each named update of the state does to each field. -/

namespace Sys2Proof.Machine

variable (s : State)

/-! ### setLane -/

@[simp] theorem setLane_pending (i : LaneId) (l : Lane) : (setLane i l s).pending = s.pending := rfl
@[simp] theorem setLane_now (i : LaneId) (l : Lane) : (setLane i l s).now = s.now := rfl
@[simp] theorem setLane_free (i : LaneId) (l : Lane) : (setLane i l s).free = s.free := rfl
@[simp] theorem setLane_pins (i : LaneId) (l : Lane) : (setLane i l s).pins = s.pins := rfl
@[simp] theorem setLane_portU (i : LaneId) (l : Lane) : (setLane i l s).portU = s.portU := rfl
@[simp] theorem setLane_portD (i : LaneId) (l : Lane) : (setLane i l s).portD = s.portD := rfl
@[simp] theorem setLane_down (i : LaneId) (l : Lane) : (setLane i l s).down = s.down := rfl
@[simp] theorem setLane_up (i : LaneId) (l : Lane) : (setLane i l s).up = s.up := rfl
@[simp] theorem setLane_sentD (i : LaneId) (l : Lane) : (setLane i l s).sentD = s.sentD := rfl
@[simp] theorem setLane_sentU (i : LaneId) (l : Lane) : (setLane i l s).sentU = s.sentU := rfl
@[simp] theorem setLane_lastOrder (i : LaneId) (l : Lane) : (setLane i l s).lastOrder = s.lastOrder := rfl
@[simp] theorem setLane_roles (i : LaneId) (l : Lane) : (setLane i l s).roles = s.roles := rfl
@[simp] theorem setLane_recipes (i : LaneId) (l : Lane) : (setLane i l s).recipes = s.recipes := rfl
@[simp] theorem setLane_nests (i : LaneId) (l : Lane) : (setLane i l s).nests = s.nests := rfl
@[simp] theorem setLane_table (i : LaneId) (l : Lane) : (setLane i l s).table = s.table := rfl
@[simp] theorem setLane_lanes (i : LaneId) (l : Lane) : (setLane i l s).lanes = s.lanes.set i.val l i.isLt := rfl
@[simp] theorem setLane_pickers (i : LaneId) (l : Lane) : (setLane i l s).pickers = s.pickers := rfl
@[simp] theorem setLane_bays (i : LaneId) (l : Lane) : (setLane i l s).bays = s.bays := rfl
@[simp] theorem setLane_placements (i : LaneId) (l : Lane) : (setLane i l s).placements = s.placements := rfl
@[simp] theorem setLane_ret (i : LaneId) (l : Lane) : (setLane i l s).ret = s.ret := rfl
@[simp] theorem setLane_line (i : LaneId) (l : Lane) : (setLane i l s).line = s.line := rfl
@[simp] theorem setLane_timing (i : LaneId) (l : Lane) : (setLane i l s).timing = s.timing := rfl

/-! ### setPicker -/

@[simp] theorem setPicker_pending (i : PickerId) (k : Picker) : (setPicker i k s).pending = s.pending := rfl
@[simp] theorem setPicker_now (i : PickerId) (k : Picker) : (setPicker i k s).now = s.now := rfl
@[simp] theorem setPicker_free (i : PickerId) (k : Picker) : (setPicker i k s).free = s.free := rfl
@[simp] theorem setPicker_pins (i : PickerId) (k : Picker) : (setPicker i k s).pins = s.pins := rfl
@[simp] theorem setPicker_portU (i : PickerId) (k : Picker) : (setPicker i k s).portU = s.portU := rfl
@[simp] theorem setPicker_portD (i : PickerId) (k : Picker) : (setPicker i k s).portD = s.portD := rfl
@[simp] theorem setPicker_down (i : PickerId) (k : Picker) : (setPicker i k s).down = s.down := rfl
@[simp] theorem setPicker_up (i : PickerId) (k : Picker) : (setPicker i k s).up = s.up := rfl
@[simp] theorem setPicker_sentD (i : PickerId) (k : Picker) : (setPicker i k s).sentD = s.sentD := rfl
@[simp] theorem setPicker_sentU (i : PickerId) (k : Picker) : (setPicker i k s).sentU = s.sentU := rfl
@[simp] theorem setPicker_lastOrder (i : PickerId) (k : Picker) : (setPicker i k s).lastOrder = s.lastOrder := rfl
@[simp] theorem setPicker_roles (i : PickerId) (k : Picker) : (setPicker i k s).roles = s.roles := rfl
@[simp] theorem setPicker_recipes (i : PickerId) (k : Picker) : (setPicker i k s).recipes = s.recipes := rfl
@[simp] theorem setPicker_nests (i : PickerId) (k : Picker) : (setPicker i k s).nests = s.nests := rfl
@[simp] theorem setPicker_table (i : PickerId) (k : Picker) : (setPicker i k s).table = s.table := rfl
@[simp] theorem setPicker_lanes (i : PickerId) (k : Picker) : (setPicker i k s).lanes = s.lanes := rfl
@[simp] theorem setPicker_pickers (i : PickerId) (k : Picker) : (setPicker i k s).pickers = s.pickers.set i.val k i.isLt := rfl
@[simp] theorem setPicker_bays (i : PickerId) (k : Picker) : (setPicker i k s).bays = s.bays := rfl
@[simp] theorem setPicker_placements (i : PickerId) (k : Picker) : (setPicker i k s).placements = s.placements := rfl
@[simp] theorem setPicker_ret (i : PickerId) (k : Picker) : (setPicker i k s).ret = s.ret := rfl
@[simp] theorem setPicker_line (i : PickerId) (k : Picker) : (setPicker i k s).line = s.line := rfl
@[simp] theorem setPicker_timing (i : PickerId) (k : Picker) : (setPicker i k s).timing = s.timing := rfl

/-! ### setBay -/

@[simp] theorem setBay_pending (i : BayId) (b : Bay) : (setBay i b s).pending = s.pending := rfl
@[simp] theorem setBay_now (i : BayId) (b : Bay) : (setBay i b s).now = s.now := rfl
@[simp] theorem setBay_free (i : BayId) (b : Bay) : (setBay i b s).free = s.free := rfl
@[simp] theorem setBay_pins (i : BayId) (b : Bay) : (setBay i b s).pins = s.pins := rfl
@[simp] theorem setBay_portU (i : BayId) (b : Bay) : (setBay i b s).portU = s.portU := rfl
@[simp] theorem setBay_portD (i : BayId) (b : Bay) : (setBay i b s).portD = s.portD := rfl
@[simp] theorem setBay_down (i : BayId) (b : Bay) : (setBay i b s).down = s.down := rfl
@[simp] theorem setBay_up (i : BayId) (b : Bay) : (setBay i b s).up = s.up := rfl
@[simp] theorem setBay_sentD (i : BayId) (b : Bay) : (setBay i b s).sentD = s.sentD := rfl
@[simp] theorem setBay_sentU (i : BayId) (b : Bay) : (setBay i b s).sentU = s.sentU := rfl
@[simp] theorem setBay_lastOrder (i : BayId) (b : Bay) : (setBay i b s).lastOrder = s.lastOrder := rfl
@[simp] theorem setBay_roles (i : BayId) (b : Bay) : (setBay i b s).roles = s.roles := rfl
@[simp] theorem setBay_recipes (i : BayId) (b : Bay) : (setBay i b s).recipes = s.recipes := rfl
@[simp] theorem setBay_nests (i : BayId) (b : Bay) : (setBay i b s).nests = s.nests := rfl
@[simp] theorem setBay_table (i : BayId) (b : Bay) : (setBay i b s).table = s.table := rfl
@[simp] theorem setBay_lanes (i : BayId) (b : Bay) : (setBay i b s).lanes = s.lanes := rfl
@[simp] theorem setBay_pickers (i : BayId) (b : Bay) : (setBay i b s).pickers = s.pickers := rfl
@[simp] theorem setBay_bays (i : BayId) (b : Bay) : (setBay i b s).bays = s.bays.set i.val b i.isLt := rfl
@[simp] theorem setBay_placements (i : BayId) (b : Bay) : (setBay i b s).placements = s.placements := rfl
@[simp] theorem setBay_ret (i : BayId) (b : Bay) : (setBay i b s).ret = s.ret := rfl
@[simp] theorem setBay_line (i : BayId) (b : Bay) : (setBay i b s).line = s.line := rfl
@[simp] theorem setBay_timing (i : BayId) (b : Bay) : (setBay i b s).timing = s.timing := rfl

/-! ### setRecipe -/

@[simp] theorem setRecipe_pending (i : SlotId) (r : RecipeSlot) : (setRecipe i r s).pending = s.pending := rfl
@[simp] theorem setRecipe_now (i : SlotId) (r : RecipeSlot) : (setRecipe i r s).now = s.now := rfl
@[simp] theorem setRecipe_free (i : SlotId) (r : RecipeSlot) : (setRecipe i r s).free = s.free := rfl
@[simp] theorem setRecipe_pins (i : SlotId) (r : RecipeSlot) : (setRecipe i r s).pins = s.pins := rfl
@[simp] theorem setRecipe_portU (i : SlotId) (r : RecipeSlot) : (setRecipe i r s).portU = s.portU := rfl
@[simp] theorem setRecipe_portD (i : SlotId) (r : RecipeSlot) : (setRecipe i r s).portD = s.portD := rfl
@[simp] theorem setRecipe_down (i : SlotId) (r : RecipeSlot) : (setRecipe i r s).down = s.down := rfl
@[simp] theorem setRecipe_up (i : SlotId) (r : RecipeSlot) : (setRecipe i r s).up = s.up := rfl
@[simp] theorem setRecipe_sentD (i : SlotId) (r : RecipeSlot) : (setRecipe i r s).sentD = s.sentD := rfl
@[simp] theorem setRecipe_sentU (i : SlotId) (r : RecipeSlot) : (setRecipe i r s).sentU = s.sentU := rfl
@[simp] theorem setRecipe_lastOrder (i : SlotId) (r : RecipeSlot) : (setRecipe i r s).lastOrder = s.lastOrder := rfl
@[simp] theorem setRecipe_roles (i : SlotId) (r : RecipeSlot) : (setRecipe i r s).roles = s.roles := rfl
@[simp] theorem setRecipe_recipes (i : SlotId) (r : RecipeSlot) : (setRecipe i r s).recipes = s.recipes.set i.val r i.isLt := rfl
@[simp] theorem setRecipe_nests (i : SlotId) (r : RecipeSlot) : (setRecipe i r s).nests = s.nests := rfl
@[simp] theorem setRecipe_table (i : SlotId) (r : RecipeSlot) : (setRecipe i r s).table = s.table := rfl
@[simp] theorem setRecipe_lanes (i : SlotId) (r : RecipeSlot) : (setRecipe i r s).lanes = s.lanes := rfl
@[simp] theorem setRecipe_pickers (i : SlotId) (r : RecipeSlot) : (setRecipe i r s).pickers = s.pickers := rfl
@[simp] theorem setRecipe_bays (i : SlotId) (r : RecipeSlot) : (setRecipe i r s).bays = s.bays := rfl
@[simp] theorem setRecipe_placements (i : SlotId) (r : RecipeSlot) : (setRecipe i r s).placements = s.placements := rfl
@[simp] theorem setRecipe_ret (i : SlotId) (r : RecipeSlot) : (setRecipe i r s).ret = s.ret := rfl
@[simp] theorem setRecipe_line (i : SlotId) (r : RecipeSlot) : (setRecipe i r s).line = s.line := rfl
@[simp] theorem setRecipe_timing (i : SlotId) (r : RecipeSlot) : (setRecipe i r s).timing = s.timing := rfl

/-! ### setNest -/

@[simp] theorem setNest_pending (n : Nest) (r : NestRec) : (setNest n r s).pending = s.pending := rfl
@[simp] theorem setNest_now (n : Nest) (r : NestRec) : (setNest n r s).now = s.now := rfl
@[simp] theorem setNest_free (n : Nest) (r : NestRec) : (setNest n r s).free = s.free := rfl
@[simp] theorem setNest_pins (n : Nest) (r : NestRec) : (setNest n r s).pins = s.pins := rfl
@[simp] theorem setNest_portU (n : Nest) (r : NestRec) : (setNest n r s).portU = s.portU := rfl
@[simp] theorem setNest_portD (n : Nest) (r : NestRec) : (setNest n r s).portD = s.portD := rfl
@[simp] theorem setNest_down (n : Nest) (r : NestRec) : (setNest n r s).down = s.down := rfl
@[simp] theorem setNest_up (n : Nest) (r : NestRec) : (setNest n r s).up = s.up := rfl
@[simp] theorem setNest_sentD (n : Nest) (r : NestRec) : (setNest n r s).sentD = s.sentD := rfl
@[simp] theorem setNest_sentU (n : Nest) (r : NestRec) : (setNest n r s).sentU = s.sentU := rfl
@[simp] theorem setNest_lastOrder (n : Nest) (r : NestRec) : (setNest n r s).lastOrder = s.lastOrder := rfl
@[simp] theorem setNest_roles (n : Nest) (r : NestRec) : (setNest n r s).roles = s.roles := rfl
@[simp] theorem setNest_recipes (n : Nest) (r : NestRec) : (setNest n r s).recipes = s.recipes := rfl
@[simp] theorem setNest_nests (n : Nest) (r : NestRec) : (setNest n r s).nests = s.nests.set n r := rfl
@[simp] theorem setNest_table (n : Nest) (r : NestRec) : (setNest n r s).table = s.table := rfl
@[simp] theorem setNest_lanes (n : Nest) (r : NestRec) : (setNest n r s).lanes = s.lanes := rfl
@[simp] theorem setNest_pickers (n : Nest) (r : NestRec) : (setNest n r s).pickers = s.pickers := rfl
@[simp] theorem setNest_bays (n : Nest) (r : NestRec) : (setNest n r s).bays = s.bays := rfl
@[simp] theorem setNest_placements (n : Nest) (r : NestRec) : (setNest n r s).placements = s.placements := rfl
@[simp] theorem setNest_ret (n : Nest) (r : NestRec) : (setNest n r s).ret = s.ret := rfl
@[simp] theorem setNest_line (n : Nest) (r : NestRec) : (setNest n r s).line = s.line := rfl
@[simp] theorem setNest_timing (n : Nest) (r : NestRec) : (setNest n r s).timing = s.timing := rfl

/-! ### post -/

@[simp] theorem post_pending (tag : Half) (n : Notice) : (post tag n s).pending = s.pending := rfl
@[simp] theorem post_now (tag : Half) (n : Notice) : (post tag n s).now = s.now := rfl
@[simp] theorem post_free (tag : Half) (n : Notice) : (post tag n s).free = s.free := rfl
@[simp] theorem post_pins (tag : Half) (n : Notice) : (post tag n s).pins = s.pins := rfl
@[simp] theorem post_portU (tag : Half) (n : Notice) : (post tag n s).portU = s.portU := rfl
@[simp] theorem post_portD (tag : Half) (n : Notice) : (post tag n s).portD = s.portD := rfl
@[simp] theorem post_down (tag : Half) (n : Notice) : (post tag n s).down = s.down := rfl
@[simp] theorem post_up (tag : Half) (n : Notice) : (post tag n s).up = s.up := rfl
@[simp] theorem post_sentD (tag : Half) (n : Notice) : (post tag n s).sentD = s.sentD := rfl
@[simp] theorem post_sentU (tag : Half) (n : Notice) : (post tag n s).sentU = s.sentU := rfl
@[simp] theorem post_lastOrder (tag : Half) (n : Notice) : (post tag n s).lastOrder = s.lastOrder := rfl
@[simp] theorem post_roles (tag : Half) (n : Notice) : (post tag n s).roles = s.roles := rfl
@[simp] theorem post_recipes (tag : Half) (n : Notice) : (post tag n s).recipes = s.recipes := rfl
@[simp] theorem post_nests (tag : Half) (n : Notice) : (post tag n s).nests = s.nests := rfl
@[simp] theorem post_table (tag : Half) (n : Notice) : (post tag n s).table = s.table := rfl
@[simp] theorem post_lanes (tag : Half) (n : Notice) : (post tag n s).lanes = s.lanes := rfl
@[simp] theorem post_pickers (tag : Half) (n : Notice) : (post tag n s).pickers = s.pickers := rfl
@[simp] theorem post_bays (tag : Half) (n : Notice) : (post tag n s).bays = s.bays := rfl
@[simp] theorem post_placements (tag : Half) (n : Notice) : (post tag n s).placements = s.placements := rfl
@[simp] theorem post_ret (tag : Half) (n : Notice) : (post tag n s).ret = s.ret.post { tag := tag, notice := n } := rfl
@[simp] theorem post_line (tag : Half) (n : Notice) : (post tag n s).line = s.line := rfl
@[simp] theorem post_timing (tag : Half) (n : Notice) : (post tag n s).timing = s.timing := rfl

/-! ### queueAnswer -/

@[simp] theorem queueAnswer_pending (a : Answer) : (queueAnswer a s).pending = s.pending := rfl
@[simp] theorem queueAnswer_now (a : Answer) : (queueAnswer a s).now = s.now := rfl
@[simp] theorem queueAnswer_free (a : Answer) : (queueAnswer a s).free = s.free := rfl
@[simp] theorem queueAnswer_pins (a : Answer) : (queueAnswer a s).pins = s.pins := rfl
@[simp] theorem queueAnswer_portU (a : Answer) : (queueAnswer a s).portU = s.portU := rfl
@[simp] theorem queueAnswer_portD (a : Answer) : (queueAnswer a s).portD = s.portD := rfl
@[simp] theorem queueAnswer_down (a : Answer) : (queueAnswer a s).down = s.down := rfl
@[simp] theorem queueAnswer_up (a : Answer) : (queueAnswer a s).up = s.up := rfl
@[simp] theorem queueAnswer_sentD (a : Answer) : (queueAnswer a s).sentD = s.sentD := rfl
@[simp] theorem queueAnswer_sentU (a : Answer) : (queueAnswer a s).sentU = s.sentU := rfl
@[simp] theorem queueAnswer_lastOrder (a : Answer) : (queueAnswer a s).lastOrder = s.lastOrder := rfl
@[simp] theorem queueAnswer_roles (a : Answer) : (queueAnswer a s).roles = s.roles := rfl
@[simp] theorem queueAnswer_recipes (a : Answer) : (queueAnswer a s).recipes = s.recipes := rfl
@[simp] theorem queueAnswer_nests (a : Answer) : (queueAnswer a s).nests = s.nests := rfl
@[simp] theorem queueAnswer_table (a : Answer) : (queueAnswer a s).table = s.table := rfl
@[simp] theorem queueAnswer_lanes (a : Answer) : (queueAnswer a s).lanes = s.lanes := rfl
@[simp] theorem queueAnswer_pickers (a : Answer) : (queueAnswer a s).pickers = s.pickers := rfl
@[simp] theorem queueAnswer_bays (a : Answer) : (queueAnswer a s).bays = s.bays := rfl
@[simp] theorem queueAnswer_placements (a : Answer) : (queueAnswer a s).placements = s.placements := rfl
@[simp] theorem queueAnswer_ret (a : Answer) : (queueAnswer a s).ret = { s.ret with answers := s.ret.answers ++ [a] } := rfl
@[simp] theorem queueAnswer_line (a : Answer) : (queueAnswer a s).line = s.line := rfl
@[simp] theorem queueAnswer_timing (a : Answer) : (queueAnswer a s).timing = s.timing := rfl

/-! ### sendDown -/

@[simp] theorem sendDown_pending (f : LinkFrame) : (sendDown f s).pending = s.pending := rfl
@[simp] theorem sendDown_now (f : LinkFrame) : (sendDown f s).now = s.now := rfl
@[simp] theorem sendDown_free (f : LinkFrame) : (sendDown f s).free = s.free := rfl
@[simp] theorem sendDown_pins (f : LinkFrame) : (sendDown f s).pins = s.pins := rfl
@[simp] theorem sendDown_portU (f : LinkFrame) : (sendDown f s).portU = s.portU := rfl
@[simp] theorem sendDown_portD (f : LinkFrame) : (sendDown f s).portD = s.portD := rfl
@[simp] theorem sendDown_down (f : LinkFrame) : (sendDown f s).down = s.down := rfl
@[simp] theorem sendDown_up (f : LinkFrame) : (sendDown f s).up = s.up := rfl
@[simp] theorem sendDown_sentD (f : LinkFrame) : (sendDown f s).sentD = s.sentD ++ [frameBytes f] := rfl
@[simp] theorem sendDown_sentU (f : LinkFrame) : (sendDown f s).sentU = s.sentU := rfl
@[simp] theorem sendDown_lastOrder (f : LinkFrame) : (sendDown f s).lastOrder = s.lastOrder := rfl
@[simp] theorem sendDown_roles (f : LinkFrame) : (sendDown f s).roles = s.roles := rfl
@[simp] theorem sendDown_recipes (f : LinkFrame) : (sendDown f s).recipes = s.recipes := rfl
@[simp] theorem sendDown_nests (f : LinkFrame) : (sendDown f s).nests = s.nests := rfl
@[simp] theorem sendDown_table (f : LinkFrame) : (sendDown f s).table = s.table := rfl
@[simp] theorem sendDown_lanes (f : LinkFrame) : (sendDown f s).lanes = s.lanes := rfl
@[simp] theorem sendDown_pickers (f : LinkFrame) : (sendDown f s).pickers = s.pickers := rfl
@[simp] theorem sendDown_bays (f : LinkFrame) : (sendDown f s).bays = s.bays := rfl
@[simp] theorem sendDown_placements (f : LinkFrame) : (sendDown f s).placements = s.placements := rfl
@[simp] theorem sendDown_ret (f : LinkFrame) : (sendDown f s).ret = s.ret := rfl
@[simp] theorem sendDown_line (f : LinkFrame) : (sendDown f s).line = s.line := rfl
@[simp] theorem sendDown_timing (f : LinkFrame) : (sendDown f s).timing = s.timing := rfl

/-! ### sendUp -/

@[simp] theorem sendUp_pending (f : LinkFrame) : (sendUp f s).pending = s.pending := rfl
@[simp] theorem sendUp_now (f : LinkFrame) : (sendUp f s).now = s.now := rfl
@[simp] theorem sendUp_free (f : LinkFrame) : (sendUp f s).free = s.free := rfl
@[simp] theorem sendUp_pins (f : LinkFrame) : (sendUp f s).pins = s.pins := rfl
@[simp] theorem sendUp_portU (f : LinkFrame) : (sendUp f s).portU = s.portU := rfl
@[simp] theorem sendUp_portD (f : LinkFrame) : (sendUp f s).portD = s.portD := rfl
@[simp] theorem sendUp_down (f : LinkFrame) : (sendUp f s).down = s.down := rfl
@[simp] theorem sendUp_up (f : LinkFrame) : (sendUp f s).up = s.up := rfl
@[simp] theorem sendUp_sentD (f : LinkFrame) : (sendUp f s).sentD = s.sentD := rfl
@[simp] theorem sendUp_sentU (f : LinkFrame) : (sendUp f s).sentU = s.sentU ++ [frameBytes f] := rfl
@[simp] theorem sendUp_lastOrder (f : LinkFrame) : (sendUp f s).lastOrder = s.lastOrder := rfl
@[simp] theorem sendUp_roles (f : LinkFrame) : (sendUp f s).roles = s.roles := rfl
@[simp] theorem sendUp_recipes (f : LinkFrame) : (sendUp f s).recipes = s.recipes := rfl
@[simp] theorem sendUp_nests (f : LinkFrame) : (sendUp f s).nests = s.nests := rfl
@[simp] theorem sendUp_table (f : LinkFrame) : (sendUp f s).table = s.table := rfl
@[simp] theorem sendUp_lanes (f : LinkFrame) : (sendUp f s).lanes = s.lanes := rfl
@[simp] theorem sendUp_pickers (f : LinkFrame) : (sendUp f s).pickers = s.pickers := rfl
@[simp] theorem sendUp_bays (f : LinkFrame) : (sendUp f s).bays = s.bays := rfl
@[simp] theorem sendUp_placements (f : LinkFrame) : (sendUp f s).placements = s.placements := rfl
@[simp] theorem sendUp_ret (f : LinkFrame) : (sendUp f s).ret = s.ret := rfl
@[simp] theorem sendUp_line (f : LinkFrame) : (sendUp f s).line = s.line := rfl
@[simp] theorem sendUp_timing (f : LinkFrame) : (sendUp f s).timing = s.timing := rfl

/-! ### Updates by a function are updates by its value -/

@[simp] theorem modLane_eq (i : LaneId) (f : Lane → Lane) : modLane i f s = setLane i (f (s.lane i)) s := rfl
@[simp] theorem modPicker_eq (i : PickerId) (f : Picker → Picker) : modPicker i f s = setPicker i (f (s.picker i)) s := rfl
@[simp] theorem modBay_eq (i : BayId) (f : Bay → Bay) : modBay i f s = setBay i (f (s.bay i)) s := rfl
@[simp] theorem modRecipe_eq (i : SlotId) (f : RecipeSlot → RecipeSlot) :
    modRecipe i f s = setRecipe i (f (s.recipe i)) s := rfl
@[simp] theorem modNest_eq (n : Nest) (f : NestRec → NestRec) : modNest n f s = setNest n (f (s.nest n)) s := rfl
@[simp] theorem modBoard_eq (r : BoardRef) (f : BoardRec → BoardRec) :
    modBoard r f s = setNest r.nest { s.nest r.nest with boards := (s.nest r.nest).boards.modify r.board f } s := rfl
@[simp] theorem modTab_eq (n : Nest) (t : Nat) (f : TabRec → TabRec) :
    modTab n t f s = setNest n { s.nest n with tabs := (s.nest n).tabs.modify t f } s := rfl

/-! ### Reading a record after an update -/

@[simp] theorem lane_setLane_same (i : LaneId) (l : Lane) : (setLane i l s).lane i = l := by simp [State.lane]
theorem lane_setLane_ne {i j : LaneId} (h : i ≠ j) (l : Lane) : (setLane i l s).lane j = s.lane j := by
  have : i.val ≠ j.val := fun e => h (Fin.ext e)
  simp [State.lane, this]
theorem lane_setLane (i j : LaneId) (l : Lane) : (setLane i l s).lane j = if i = j then l else s.lane j := by
  split
  · subst_vars; simp
  · exact lane_setLane_ne s ‹_› l
@[simp] theorem picker_setPicker_same (i : PickerId) (k : Picker) : (setPicker i k s).picker i = k := by simp [State.picker]
theorem picker_setPicker (i j : PickerId) (k : Picker) :
    (setPicker i k s).picker j = if i = j then k else s.picker j := by
  simp [State.picker, Vector.getElem_set, Fin.ext_iff]
@[simp] theorem bay_setBay_same (i : BayId) (b : Bay) : (setBay i b s).bay i = b := by simp [State.bay]
theorem bay_setBay (i j : BayId) (b : Bay) : (setBay i b s).bay j = if i = j then b else s.bay j := by
  simp [State.bay, Vector.getElem_set, Fin.ext_iff]
@[simp] theorem recipe_setRecipe_same (i : SlotId) (r : RecipeSlot) : (setRecipe i r s).recipe i = r := by simp [State.recipe]
theorem recipe_setRecipe (i j : SlotId) (r : RecipeSlot) :
    (setRecipe i r s).recipe j = if i = j then r else s.recipe j := by
  simp [State.recipe, Vector.getElem_set, Fin.ext_iff]
@[simp] theorem nest_setNest_same (n : Nest) (r : NestRec) : (setNest n r s).nest n = r := by cases n <;> rfl
theorem nest_setNest (n m : Nest) (r : NestRec) : (setNest n r s).nest m = if n = m then r else s.nest m := by
  cases n <;> cases m <;> rfl

@[simp] theorem lane_setNest (n : Nest) (r : NestRec) (i : LaneId) : (setNest n r s).lane i = s.lane i := rfl
@[simp] theorem lane_setPicker (p : PickerId) (k : Picker) (i : LaneId) : (setPicker p k s).lane i = s.lane i := rfl
@[simp] theorem lane_setBay (b : BayId) (r : Bay) (i : LaneId) : (setBay b r s).lane i = s.lane i := rfl
@[simp] theorem lane_post (tag : Half) (n : Notice) (i : LaneId) : (post tag n s).lane i = s.lane i := rfl
@[simp] theorem nest_setLane (i : LaneId) (l : Lane) (n : Nest) : (setLane i l s).nest n = s.nest n := rfl
@[simp] theorem nest_setPicker (p : PickerId) (k : Picker) (n : Nest) : (setPicker p k s).nest n = s.nest n := rfl
@[simp] theorem nest_setBay (b : BayId) (r : Bay) (n : Nest) : (setBay b r s).nest n = s.nest n := rfl
@[simp] theorem nest_post (tag : Half) (m : Notice) (n : Nest) : (post tag m s).nest n = s.nest n := rfl
@[simp] theorem picker_setLane (i : LaneId) (l : Lane) (p : PickerId) : (setLane i l s).picker p = s.picker p := rfl
@[simp] theorem picker_setNest (n : Nest) (r : NestRec) (p : PickerId) : (setNest n r s).picker p = s.picker p := rfl
@[simp] theorem picker_setBay (b : BayId) (r : Bay) (p : PickerId) : (setBay b r s).picker p = s.picker p := rfl
@[simp] theorem picker_post (tag : Half) (m : Notice) (p : PickerId) : (post tag m s).picker p = s.picker p := rfl
@[simp] theorem bay_setLane (i : LaneId) (l : Lane) (b : BayId) : (setLane i l s).bay b = s.bay b := rfl
@[simp] theorem bay_setNest (n : Nest) (r : NestRec) (b : BayId) : (setNest n r s).bay b = s.bay b := rfl
@[simp] theorem bay_setPicker (p : PickerId) (k : Picker) (b : BayId) : (setPicker p k s).bay b = s.bay b := rfl
@[simp] theorem bay_post (tag : Half) (m : Notice) (b : BayId) : (post tag m s).bay b = s.bay b := rfl

end Sys2Proof.Machine
end

