-- ==== Sys2Proof/Laws/Ops.lean ====
section
/-! SUPPORT. What the shared operations on the records can change: each lemma says once which fields an operation may touch and,
where one record decides, what that record becomes. -/

namespace Sys2Proof.Machine

variable (s : State)

/-! ### Lanes -/

/-- R31, R27, R66: only the pending ABORT of a lane bound to a picked tab changes. -/
theorem lane_abortBound (pick : Binding → Bool) (i : LaneId) :
    (abortBound pick s).lane i =
      if (s.lane i).binding.any pick then { s.lane i with pend := { (s.lane i).pend with abort := true } } else s.lane i := by
  unfold abortBound State.lane
  rw [Fin.getElem_fin, Vector.getElem_map]
  rfl

/-- R31: nothing but the lanes changes. -/
theorem abortBound_frame (pick : Binding → Bool) : ∃ l, abortBound pick s = { s with lanes := l } := ⟨_, rfl⟩

/-- R118: a stopped or stopping spindle is left as it is. -/
theorem stopSpindle_frame (i : LaneId) : ∃ l, stopSpindle i s = setLane i l s := ⟨_, rfl⟩

/-- R124: an error cause touches the lane it is raised for and the notice queue. -/
theorem raiseCause_frame (tag : Half) (i : LaneId) (c : Cause) :
    ∃ l r, raiseCause tag i c s = { setLane i l s with ret := r } := by
  simp only [raiseCause]
  split
  · exact ⟨s.lane i, s.ret, by simp [setLane, State.lane]⟩
  · split
    · exact ⟨_, s.ret, rfl⟩
    · exact ⟨_, _, rfl⟩

/-- R124: what an error cause makes of its lane. -/
theorem lane_raiseCause (tag : Half) (i : LaneId) (c : Cause) :
    (raiseCause tag i c s).lane i =
      if (s.lane i).state = .inactive then s.lane i
      else if (s.lane i).causes.has c then (s.lane i).sameCause s.now c else (s.lane i).newCause s.now c := by
  simp only [raiseCause]
  split
  · rfl
  · split <;> simp

/-- R102 to R107: a change of wear or of levels touches the lane and the notice queue, and the lane takes the new life record
with both its flags judged. -/
theorem rewear_frame (tag : Half) (cause : LimitCause) (i : LaneId) (f : Life → Life) :
    ∃ r, rewear tag cause i f s =
      { setLane i ((s.lane i).withLife
          { f (s.lane i).life with
            warned := decide ((f (s.lane i).life).warn ≤ (f (s.lane i).life).wear),
            reached := decide ((f (s.lane i).life).limit ≤ (f (s.lane i).life).wear) }) s with ret := r } := by
  simp only [rewear]
  split <;> split <;> (try split) <;> (try split) <;> exact ⟨_, rfl⟩

/-- R105: taking a life record changes the life record, the state and the pending stop of a lane at most. -/
theorem Lane.withLife_frame (l : Lane) (life : Life) :
    ∃ st p, l.withLife life = { l with life := life, state := st, pend := p } := by
  simp only [Lane.withLife, Lane.park]
  split
  · exact ⟨_, _, rfl⟩
  · split
    · exact ⟨_, l.pend, rfl⟩
    · exact ⟨l.state, l.pend, rfl⟩

/-- R105: a lane bound for READY stands in READY, or in PARKED while the park hold stands. -/
theorem Lane.toReady_state (l : Lane) : l.toReady.state = if l.life.parkHold then .parked else .ready := by
  unfold Lane.toReady Lane.park
  split <;> rfl

/-! ### Nests and boards -/

/-- R23: a nest settles by its state alone, and queues a notice at most. -/
theorem settleNest_frame (tag : Half) (n : Nest) :
    ∃ st r, settleNest tag n s = { setNest n { s.nest n with state := st } s with ret := r } := by
  simp only [settleNest]
  split
  · exact ⟨_, _, rfl⟩
  · refine ⟨(s.nest n).state, s.ret, ?_⟩
    cases n <;> rfl

/-- R23: the boards of every nest stand after a nest has settled. -/
@[simp] theorem settleNest_boards (tag : Half) (n m : Nest) : ((settleNest tag n s).nest m).boards = (s.nest m).boards := by
  obtain ⟨st, r, h⟩ := settleNest_frame s tag n
  rw [h]
  cases n <;> cases m <;> rfl

/-- R23: the tabs of every nest stand after a nest has settled. -/
@[simp] theorem settleNest_tabs (tag : Half) (n m : Nest) : ((settleNest tag n s).nest m).tabs = (s.nest m).tabs := by
  obtain ⟨st, r, h⟩ := settleNest_frame s tag n
  rw [h]
  cases n <;> cases m <;> rfl

/-- R61: unbinding touches the picker and the nest records. -/
theorem unbind_frame (p : PickerId) :
    ∃ nests, unbind p s = setPicker p { s.picker p with board := none } { s with nests := nests } := by
  unfold unbind
  cases (s.picker p).board with
  | none => exact ⟨s.nests, rfl⟩
  | some r => exact ⟨_, rfl⟩

/-! ### Bays and placements -/

/-- R96: a bay becomes FULL, and a notice is queued. -/
theorem becomeFull_frame (tag : Half) (b : BayId) :
    ∃ r, becomeFull tag b s = { setBay b { s.bay b with state := .full } s with ret := r } := ⟨_, rfl⟩

/-- R90: the placements left are those of other boards. -/
theorem mem_closePlacement (r : BoardRef) (p : Placement) :
    p ∈ (closePlacement r s).placements ↔ p ∈ s.placements ∧ p.ref ≠ r := by
  simp [closePlacement]

/-- R90: the placement found for a board is a placement, and its board's. -/
theorem placementOf_some {s : State} {r : BoardRef} {p : Placement} (h : s.placementOf r = some p) :
    p ∈ s.placements ∧ p.ref = r :=
  ⟨List.mem_of_find?_eq_some h, by simpa using List.find?_some h⟩

/-- R92: completing a placement touches the placements, the bays, the nests and the notice queue. -/
theorem completePlacement_frame (tag : Half) (p : Placement) (cycle : Half) :
    ∃ nests bays r, completePlacement tag p cycle s =
      { s with placements := s.placements.filter fun q => q.ref != p.ref, nests := nests, bays := bays, ret := r } := by
  unfold completePlacement
  dsimp only
  generalize hx : modBoard p.ref _ (modBay p.dest.bay _ (closePlacement p.ref s)) = x
  obtain ⟨nests, bays, hx'⟩ : ∃ nests bays,
      x = { closePlacement p.ref s with nests := nests, bays := bays } := ⟨_, _, hx.symm⟩
  obtain ⟨st, r, h⟩ := settleNest_frame x tag p.ref.nest
  exact ⟨_, bays, r, by rw [h, hx']; rfl⟩

/-- R93: ending a placement touches the placements, the bays, the nests and the notice queue. -/
theorem endPlacement_frame (tag : Half) (p : Placement) (reason : PlaceReason) :
    ∃ nests bays r, endPlacement tag p reason s =
      { s with placements := s.placements.filter fun q => q.ref != p.ref, nests := nests, bays := bays, ret := r } := by
  unfold endPlacement
  dsimp only
  generalize hx : modBoard p.ref _ (modBay p.dest.bay _ (closePlacement p.ref s)) = x
  obtain ⟨nests, bays, hx'⟩ : ∃ nests bays,
      x = { closePlacement p.ref s with nests := nests, bays := bays } := ⟨_, _, hx.symm⟩
  obtain ⟨st, r, h⟩ := settleNest_frame x tag p.ref.nest
  generalize settleNest tag p.ref.nest x = y at h ⊢
  subst h hx'
  exact ⟨_, bays, _, rfl⟩

end Sys2Proof.Machine
end

