-- ==== Sys2Proof/Laws/Walk.lean ====
section
/-! SUPPORT. What the shared operations of the walk do: each says once what a command's item comes to when it is the next of its frame. -/

namespace Sys2Proof.Machine

/-! ### The role table -/

theorem mem_allRoles (r : Role) : r ∈ allRoles := by
  cases r with
  | lane i => revert i; decide
  | picker p => revert p; decide
  | elevator => decide
  | table => decide

theorem Role.index_injective : Function.Injective Role.index := by
  have h : ∀ r ∈ allRoles, ∀ q ∈ allRoles, r.index = q.index → r = q := by decide
  exact fun r q e => h r (mem_allRoles r) q (mem_allRoles q) e

theorem State.roleAt_some {s : State} {a : Station} {r : Role} (h : s.roleAt a = some r) : s.addrOf r = some a := by
  simpa using List.find?_some h

theorem State.roleAt_none {s : State} {a : Station} (h : ∀ r, s.addrOf r ≠ some a) : s.roleAt a = none := by
  simp [State.roleAt, h]

theorem State.roleAt_eq_none {s : State} {a : Station} (h : s.roleAt a = none) (r : Role) : s.addrOf r ≠ some a := by
  have := List.find?_eq_none.mp h r (mem_allRoles r)
  simpa using this

/-- In a role table that keeps R138, the role at an address is the one whose entry holds it. -/
theorem State.roleAt_eq {s : State} {a : Station} {r : Role} (ok : s.RolesOk) (h : s.addrOf r = some a) :
    s.roleAt a = some r := by
  cases hq : s.roleAt a with
  | none => exact absurd h (State.roleAt_eq_none hq r)
  | some q =>
    have hq' := State.roleAt_some hq
    refine congrArg some (Role.index_injective (ok.2.2 _ _ ?_ ?_))
    · exact hq'.trans h.symm
    · exact fun e => by simp [State.addrOf] at hq'; simp [hq'] at e

/-- An item at a role's address is routed to that role. -/
theorem State.route_role {s : State} {w : Wire} {r : Role} (h : s.RoleItem r w) : s.route w.addr = .role r := by
  have hr := State.roleAt_eq h.1 h.2
  have hn := h.1.2.1 r.index
  have ha : s.roles[r.index] = some (stationOf w.addr) := h.2
  rw [ha] at hn
  simp only [ne_eq, Option.some.injEq] at hn
  simp only [State.route, if_neg hn.1, if_neg hn.2.1, if_neg hn.2.2, hr]

/-- An item at the own address is routed to the management engine. -/
theorem State.route_own {s : State} {w : Wire} (h : s.OwnItem w) : s.route w.addr = .own := by
  simp only [State.route, h.2, if_neg h.1, if_true]

/-! ### Items of an order frame -/

/-- The next item of the order frame in walk is judged, and leaves as its judgement gives it. -/
theorem walkItem_next {s : State} {f : DownFrame} {rest : List DownFrame} {it : Item} {more : List Item}
    (h : s.Walking f rest it more) (g : Half → State → State × Item) :
    walkItem it g s = (g f.cycle s).1.walkedOn f rest more (g f.cycle s).2 := by
  obtain ⟨hd, hh, ht⟩ := h
  simp [walkItem, hd, hh, ht, State.walkedOn]

/-- A request at the own address is executed and answered, and goes on unchanged. -/
theorem walkRequest_own {s : State} {f : DownFrame} {rest : List DownFrame} {kind : Byte} {w : Wire} {more : List Item}
    (h : s.Asked f rest kind w more) (act : State → State × Reply) :
    walkRequest kind w act s = (act s).1.answeredOn f rest kind w more (act s).2.1 (act s).2.2 := by
  have hroom : ¬(Config.answerCap ≤ s.ret.answers.length) := Nat.not_le.mpr h.2.2
  rw [walkRequest, walkItem_next h.1]
  simp [State.route_own h.2.1, request, hroom, State.answeredOn, State.answered, queueAnswer]

/-- A gated item at the address of a role it belongs to is judged by that role's record. -/
theorem walkGated_role {α : Type} {s : State} {f : DownFrame} {rest : List DownFrame} {kind : Byte} {w : Wire}
    {more : List Item} {r : Role} {belongs : Role → Option α} {x : α} (h : s.Walking f rest (itemOf kind w) more)
    (hr : s.RoleItem r w) (hb : belongs r = some x) (judge : Half → Item → α → State → Verdict) :
    walkGated kind w belongs judge s =
      (settle (itemOf kind w) (judge f.cycle (itemOf kind w) x s)).1.walkedOn f rest more
        (settle (itemOf kind w) (judge f.cycle (itemOf kind w) x s)).2 := by
  have hroute : s.route (itemOf kind w).addr = .role r := State.route_role hr
  rw [walkGated, walkItem_next h]
  simp [gate, hroute, hb]

/-! ### Reports -/

/-- The next report of the return frame in walk is taken by the record of its station's role. -/
theorem walkReport_role {α : Type} {s : State} {f : UpFrame} {rest : List UpFrame} {kind : Byte} {w : Wire}
    {more : List Item} {r : Role} {belongs : Role → Option α} {x : α} (h : s.Reporting f rest (itemOf kind w) more)
    (hr : s.RoleItem r w) (hb : belongs r = some x) (take : α → Half → State → State) :
    walkReport kind w belongs take s = (take x f.cycle s).reportedOn f rest more := by
  obtain ⟨hu, ht⟩ := h
  simp [walkReport, hu, ht, State.roleAt_eq hr.1 hr.2, hb, State.reportedOn]

/-- A report from an address that maps to no role it belongs to is passed over. -/
theorem walkReport_other {α : Type} {s : State} {f : UpFrame} {rest : List UpFrame} {kind : Byte} {w : Wire}
    {more : List Item} {belongs : Role → Option α} (h : s.Reporting f rest (itemOf kind w) more)
    (hn : (s.roleAt (stationOf w.addr)).bind belongs = none) (take : α → Half → State → State) :
    walkReport kind w belongs take s = s.reportedOn f rest more := by
  obtain ⟨hu, ht⟩ := h
  simp [walkReport, hu, ht, hn, State.reportedOn]

/-! ### Timers -/

/-- A running timer expires outside a reset, with the clock at its end at the least. -/
theorem expire_running {s : State} {ends : Nat} (h : s.inReset = false) (act : State → State) :
    expire (some ends) act s = act (s.runTo ends) := by simp [expire, h, State.runTo]

@[simp] theorem expire_stopped (s : State) (act : State → State) : expire none act s = s := rfl

theorem expire_inReset {s : State} (h : s.inReset = true) (timer : Option Nat) (act : State → State) :
    expire timer act s = s := by
  cases timer <;> simp [expire, h]

/-! ### The return path and the line -/

/-- R145: a notice posted to a queue with room is its newest entry. -/
theorem ReturnPath.post_room {r : ReturnPath} (h : r.notices.length < 32) (p : Posted) :
    r.post p = { r with notices := r.notices ++ [p] } := by simp [ReturnPath.post, Config.noticeCap, h]

/-- R145: a notice posted to a full queue is counted as lost. -/
theorem ReturnPath.post_full {r : ReturnPath} (h : 32 ≤ r.notices.length) (p : Posted) :
    r.post p = { r with overflow := true, lost := min 65535 (r.lost + 1) } := by
  simp [ReturnPath.post, Config.noticeCap, Nat.not_lt.mpr h]

@[simp] theorem ReturnPath.post_answers (r : ReturnPath) (p : Posted) : (r.post p).answers = r.answers := by
  unfold ReturnPath.post; split <;> rfl

@[simp] theorem ReturnPath.post_answerLost (r : ReturnPath) (p : Posted) : (r.post p).answerLost = r.answerLost := by
  unfold ReturnPath.post; split <;> rfl

/-- R150: what judging the line can change: its state, and the notice queue. -/
theorem judgeLine_frame (before : HoldSet) (s : State) :
    ∃ l r, judgeLine before s = { s with line := { s.line with state := l }, ret := r } := by
  unfold judgeLine
  split
  · exact ⟨s.line.state, s.ret, rfl⟩
  · dsimp only
    split
    · exact ⟨_, _, rfl⟩
    · exact ⟨_, s.ret, rfl⟩

end Sys2Proof.Machine
end

