-- ==== Sys2Proof/Laws/PerInstr.lean ====
section
/-! SUPPORT. What is shown of the commands one constructor at a time: the item a row stands for has the kind its class has, and
its sixteen bytes read back as it. -/

namespace Sys2Proof.Machine

theorem length_leBytes (k n : Nat) : (leBytes k n).length = k := by
  induction k generalizing n with
  | zero => rfl
  | succ k ih => simp [leBytes, ih]

theorem ofLeBytes_leBytes (k n : Nat) : ofLeBytes (leBytes k n) = n % 256 ^ k := by
  induction k generalizing n with
  | zero => simp [leBytes, ofLeBytes, Nat.mod_one]
  | succ k ih =>
    have hb : (BitVec.ofNat 8 n).toNat = n % 256 := by simp
    rw [leBytes, ofLeBytes, ih, hb, Nat.pow_succ', Nat.mod_mul]

/-- R166: the sixteen bytes of an item give it back. -/
theorem itemOfBytes_itemBytes (it : Item) : itemOfBytes (itemBytes it) = it := by
  obtain ⟨addr, kind, tag, payload⟩ := it
  have h2 := length_leBytes 2 tag.toNat
  have h12 := length_leBytes 12 payload.toNat
  have e2 : BitVec.ofNat 16 (tag.toNat % 65536) = tag := by
    rw [Nat.mod_eq_of_lt tag.isLt]; simp
  have e12 : BitVec.ofNat 96 (payload.toNat % 79228162514264337593543950336) = payload := by
    rw [Nat.mod_eq_of_lt payload.isLt]; simp
  simp [itemOfBytes, itemBytes, payloadOf, List.drop_append, h2, h12, ofLeBytes_leBytes, e2, e12,
    List.take_of_length_le]

end Sys2Proof.Machine

namespace Sys2Proof.Laws.ItemRows

open Sys2Proof.Machine

/-- R137, R140, R166, R168: a row that is an item of a frame has a kind of its own class, and the item's bytes read back as it. -/
def Statement (i : Instr) : Prop :=
  (∀ k w, gatedItem i = some (k, w) → Kind.isGated k = true ∧ itemOfBytes (itemBytes (itemOf k w)) = itemOf k w) ∧
  (∀ k w, requestItem i = some (k, w) → Kind.isRequest k = true ∧ itemOfBytes (itemBytes (itemOf k w)) = itemOf k w) ∧
  ∀ k w r, reportItem i = some (k, w, r) → Kind.isReport k = true ∧ itemOfBytes (itemBytes (itemOf k w)) = itemOf k w

/-- A row that is no item. -/
theorem of_none {i : Instr} (g : gatedItem i = none) (q : requestItem i = none) (r : reportItem i = none) : Statement i :=
  ⟨fun _ _ h => (nomatch g.symm.trans h), fun _ _ h => (nomatch q.symm.trans h), fun _ _ _ h => (nomatch r.symm.trans h)⟩

theorem of_gated {i : Instr} {k : Byte} {w : Wire} (g : gatedItem i = some (k, w)) (hk : Kind.isGated k = true)
    (q : requestItem i = none) (r : reportItem i = none) : Statement i := by
  refine ⟨fun k' w' h => ?_, fun _ _ h => (nomatch q.symm.trans h), fun _ _ _ h => (nomatch r.symm.trans h)⟩
  obtain ⟨rfl, rfl⟩ := Prod.mk.inj (Option.some.inj (g.symm.trans h))
  exact ⟨hk, itemOfBytes_itemBytes _⟩

theorem of_request {i : Instr} {k : Byte} {w : Wire} (q : requestItem i = some (k, w)) (hk : Kind.isRequest k = true)
    (g : gatedItem i = none) (r : reportItem i = none) : Statement i := by
  refine ⟨fun _ _ h => (nomatch g.symm.trans h), fun k' w' h => ?_, fun _ _ _ h => (nomatch r.symm.trans h)⟩
  obtain ⟨rfl, rfl⟩ := Prod.mk.inj (Option.some.inj (q.symm.trans h))
  exact ⟨hk, itemOfBytes_itemBytes _⟩

theorem of_report {i : Instr} {k : Byte} {w : Wire} {l : List Role} (r : reportItem i = some (k, w, l))
    (hk : Kind.isReport k = true) (g : gatedItem i = none) (q : requestItem i = none) : Statement i := by
  refine ⟨fun _ _ h => (nomatch g.symm.trans h), fun _ _ h => (nomatch q.symm.trans h), fun k' w' l' h => ?_⟩
  have e := Option.some.inj (r.symm.trans h)
  simp only [Prod.mk.injEq] at e
  obtain ⟨rfl, rfl, -⟩ := e
  exact ⟨hk, itemOfBytes_itemBytes _⟩

theorem frameArrival (port : Port) (bytes : List Byte) : Statement (.frameArrival port bytes) := of_none rfl rfl rfl
theorem itemPass (kind : Byte) (w : Wire) : Statement (.itemPass kind w) := of_none rfl rfl rfl
theorem cut (w : Wire) : Statement (.cut w) :=
  of_gated rfl rfl rfl rfl
theorem spinStart (w : Wire) : Statement (.spinStart w) :=
  of_gated rfl rfl rfl rfl
theorem spinStop (w : Wire) : Statement (.spinStop w) :=
  of_gated rfl rfl rfl rfl
theorem feed (w : Wire) : Statement (.feed w) :=
  of_gated rfl rfl rfl rfl
theorem grip (w : Wire) : Statement (.grip w) :=
  of_gated rfl rfl rfl rfl
theorem openJaws (w : Wire) : Statement (.openJaws w) :=
  of_gated rfl rfl rfl rfl
theorem lift (w : Wire) : Statement (.lift w) :=
  of_gated rfl rfl rfl rfl
theorem place (w : Wire) : Statement (.place w) :=
  of_gated rfl rfl rfl rfl
theorem shuttle (w : Wire) : Statement (.shuttle w) :=
  of_gated rfl rfl rfl rfl
theorem haltFrame : Statement .haltFrame := of_none rfl rfl rfl
theorem insertion : Statement .insertion := of_none rfl rfl rfl
theorem returnFill : Statement .returnFill := of_none rfl rfl rfl
theorem cutDone (w : Wire) : Statement (.cutDone w) :=
  of_report rfl rfl rfl rfl
theorem laneState (w : Wire) : Statement (.laneState w) :=
  of_report rfl rfl rfl rfl
theorem gripState (w : Wire) : Statement (.gripState w) :=
  of_report rfl rfl rfl rfl
theorem tableState (w : Wire) : Statement (.tableState w) :=
  of_report rfl rfl rfl rfl
theorem bayState (w : Wire) : Statement (.bayState w) :=
  of_report rfl rfl rfl rfl
theorem placeDone (w : Wire) : Statement (.placeDone w) :=
  of_report rfl rfl rfl rfl
theorem cutTimerExpiry (lane : LaneId) : Statement (.cutTimerExpiry lane) := of_none rfl rfl rfl
theorem jawTimerExpiry (picker : PickerId) : Statement (.jawTimerExpiry picker) := of_none rfl rfl rfl
theorem placeTimerExpiry (nest : Nest) (board : Nat) : Statement (.placeTimerExpiry nest board) := of_none rfl rfl rfl
theorem spinDownTimerExpiry (lane : LaneId) : Statement (.spinDownTimerExpiry lane) := of_none rfl rfl rfl
theorem recoveryTimerExpiry (lane : LaneId) : Statement (.recoveryTimerExpiry lane) := of_none rfl rfl rfl
theorem coolDownTimerExpiry (lane : LaneId) : Statement (.coolDownTimerExpiry lane) := of_none rfl rfl rfl
theorem restoreTimerExpiry (lane : LaneId) : Statement (.restoreTimerExpiry lane) := of_none rfl rfl rfl
theorem cycleWatchdogExpiry : Statement .cycleWatchdogExpiry := of_none rfl rfl rfl
theorem stopsenseChange (high : Bool) : Statement (.stopsenseChange high) := of_none rfl rfl rfl
theorem filterTimerExpiry : Statement .filterTimerExpiry := of_none rfl rfl rfl
theorem powerOnReset (straps : Station) : Statement (.powerOnReset straps) := of_none rfl rfl rfl
theorem nresetAssert : Statement .nresetAssert := of_none rfl rfl rfl
theorem pinReset (straps : Station) : Statement (.pinReset straps) := of_none rfl rfl rfl
theorem statusRead (w : Wire) : Statement (.statusRead w) :=
  of_request rfl rfl rfl rfl
theorem run (w : Wire) : Statement (.run w) :=
  of_request rfl rfl rfl rfl
theorem halt (w : Wire) : Statement (.halt w) :=
  of_request rfl rfl rfl rfl
theorem reset (w : Wire) : Statement (.reset w) :=
  of_request rfl rfl rfl rfl
theorem roleSet (w : Wire) : Statement (.roleSet w) :=
  of_request rfl rfl rfl rfl
theorem timingSet (w : Wire) : Statement (.timingSet w) :=
  of_request rfl rfl rfl rfl
theorem alertMask (w : Wire) : Statement (.alertMask w) :=
  of_request rfl rfl rfl rfl
theorem lock (w : Wire) : Statement (.lock w) :=
  of_request rfl rfl rfl rfl
theorem laneConfig (w : Wire) : Statement (.laneConfig w) :=
  of_request rfl rfl rfl rfl
theorem governorSet (w : Wire) : Statement (.governorSet w) :=
  of_request rfl rfl rfl rfl
theorem lifeSet (w : Wire) : Statement (.lifeSet w) :=
  of_request rfl rfl rfl rfl
theorem wearPreset (w : Wire) : Statement (.wearPreset w) :=
  of_request rfl rfl rfl rfl
theorem bitChange (w : Wire) : Statement (.bitChange w) :=
  of_request rfl rfl rfl rfl
theorem laneClear (w : Wire) : Statement (.laneClear w) :=
  of_request rfl rfl rfl rfl
theorem laneRead (w : Wire) : Statement (.laneRead w) :=
  of_request rfl rfl rfl rfl
theorem recipeOpen (w : Wire) : Statement (.recipeOpen w) :=
  of_request rfl rfl rfl rfl
theorem recipeBoards (w : Wire) : Statement (.recipeBoards w) :=
  of_request rfl rfl rfl rfl
theorem recipeTabs (w : Wire) : Statement (.recipeTabs w) :=
  of_request rfl rfl rfl rfl
theorem recipeFinish (w : Wire) : Statement (.recipeFinish w) :=
  of_request rfl rfl rfl rfl
theorem recipeDrop (w : Wire) : Statement (.recipeDrop w) :=
  of_request rfl rfl rfl rfl
theorem recipeRead (w : Wire) : Statement (.recipeRead w) :=
  of_request rfl rfl rfl rfl
theorem nestLoad (w : Wire) : Statement (.nestLoad w) :=
  of_request rfl rfl rfl rfl
theorem nestUnload (w : Wire) : Statement (.nestUnload w) :=
  of_request rfl rfl rfl rfl
theorem nestClear (w : Wire) : Statement (.nestClear w) :=
  of_request rfl rfl rfl rfl
theorem nestRead (w : Wire) : Statement (.nestRead w) :=
  of_request rfl rfl rfl rfl
theorem boardRead (w : Wire) : Statement (.boardRead w) :=
  of_request rfl rfl rfl rfl
theorem tabRead (w : Wire) : Statement (.tabRead w) :=
  of_request rfl rfl rfl rfl
theorem pickerClear (w : Wire) : Statement (.pickerClear w) :=
  of_request rfl rfl rfl rfl
theorem bayConfig (w : Wire) : Statement (.bayConfig w) :=
  of_request rfl rfl rfl rfl
theorem bayPreset (w : Wire) : Statement (.bayPreset w) :=
  of_request rfl rfl rfl rfl
theorem bayRead (w : Wire) : Statement (.bayRead w) :=
  of_request rfl rfl rfl rfl
theorem undefinedRequest (kind : Byte) (w : Wire) : Statement (.undefinedRequest kind w) := by
  refine ⟨nofun, fun k w' h => ?_, nofun⟩
  simp only [requestItem] at h
  split at h
  · obtain ⟨rfl, rfl⟩ := Prod.mk.inj (Option.some.inj h)
    exact ⟨by simp [Kind.isRequest]; omega, itemOfBytes_itemBytes _⟩
  · exact nomatch h
theorem supplyApplied : Statement .supplyApplied := of_none rfl rfl rfl

end Sys2Proof.Laws.ItemRows
end

