-- ==== Sys2Proof/Tests/Slice0.lean ====
section
/-! SUPPORT. Tests: the spec's worked values, what the well-formedness checks refuse, one step of a command on a small state,
and for each statement with hypotheses data that meets them (`witness_…`). -/

namespace Sys2Proof.Tests

open Sys2Proof.Machine

/-! ### A small cell -/

/-- An item's bytes besides its kind, with tag 5. -/
def wire (addr : Byte) (bytes : List Byte) : Wire := { addr := addr, tag := 5, payload := payloadOf bytes }

/-- The addresses 11 to 18 in the order LANE0 to LANE3, PICKER0, PICKER1, ELEVATOR, TABLE. -/
def roles8 : Vector (Option Station) 8 := #v[some 11, some 12, some 13, some 14, some 15, some 16, some 17, some 18]

def lane0 : Lane := { Lane.initial with state := .ready, spindle := .atSpeed }

/-- A board with two tabs, cut one by one with one tab to hold it. -/
def board0 (tabs : List Nat) : BoardRec :=
  { state := .attached, uncut := tabs.length, hold := 1, variant := 3, height := 85, tabs := tabs, bad := false, suspect := false,
    picker := none, dest := none, freedAt := none, placedAt := none }

def tab0 (b : Nat) : TabRec := { board := b, state := .intact, lane := none, cutAt := none, faults := 0 }

def nest0 : NestRec :=
  { NestRec.cleared with state := .loaded, serial := 7, boards := [board0 [0, 1], board0 [2]], tabs := [tab0 0, tab0 0, tab0 1], lastVacuum := some 60 }

def recipe0 : RecipeSlot :=
  { state := .ready, boards := [some ⟨3, 85, 1⟩, some ⟨3, 85, 1⟩], tabs := [some ⟨0, some 20⟩, some ⟨0, none⟩, some ⟨1, none⟩],
    suspectOption := false, useCount := 1, tabLists := [[0, 1], [2]] }

/-- A NORMAL bay of six slots, the first taken, and a REJECT bay of two. -/
def bay0 : Bay :=
  { kind := .normal 3 6 50 .up, state := .ready, presence := .present, reserved := 0, placed := 0,
    table := some { slots := [.occupied none, .empty, .empty, .empty, .empty, .empty], cursor := 1 } }

def bay7 : Bay := { kind := .reject 2, state := .ready, presence := .present, table := none, reserved := 0, placed := 0 }

/-- A running cell: nest A loaded and at work, lanes ready and at speed, a NORMAL and a REJECT bay in place. -/
def cell : State :=
  { State.reset with
    roles := roles8, lanes := Vector.replicate 4 lane0, nests := ⟨nest0, NestRec.cleared⟩, table := .a,
    recipes := #v[recipe0, RecipeSlot.cleared, RecipeSlot.cleared, RecipeSlot.cleared, RecipeSlot.cleared, RecipeSlot.cleared,
      RecipeSlot.cleared, RecipeSlot.cleared],
    bays := #v[bay0, Bay.initial, Bay.initial, Bay.initial, Bay.initial, Bay.initial, Bay.initial, bay7],
    line := { State.reset.line with state := .running, filtered := .closed, filterTimer := none } }

/-- The order frame, of cycle number 9, that carries one item. -/
def frame (kind addr : Byte) (bytes : List Byte) : DownFrame :=
  { isHalt := false, cycle := 9, todo := [itemOf kind (wire addr bytes)], out := [] }

/-- A state with one item to be walked. -/
def walk (kind addr : Byte) (bytes : List Byte) (s : State) : State := { s with down := [frame kind addr bytes] }

/-- A return frame, of cycle number 9, that carries one report. -/
def heard (kind addr : Byte) (bytes : List Byte) : UpFrame :=
  { cycle := 9, items := [itemOf kind (wire addr bytes)], todo := [itemOf kind (wire addr bytes)] }

/-- A state with one report to be taken. -/
def hear (kind addr : Byte) (bytes : List Byte) (s : State) : State := { s with up := [heard kind addr bytes] }

/-- The state after a command; no command stops. -/
def after (c : Instr) (s : State) : State :=
  match exec c s with
  | .next t => t
  | .fault f => nomatch f
  | .refused _ => s

/-- The result and the fields of the newest answer. -/
def answerOf (s : State) : Option (Result × List Byte) := s.ret.answers.getLast?.map fun a => (a.result, a.fields)

/-- The code of the newest REFUSED notice, where the newest notice is one. -/
def refusalOf (s : State) : Option RefusalCode :=
  match s.ret.notices.getLast? with
  | some ⟨_, .refused _ c _⟩ => some c
  | _ => none

/-- The walked frame's item, as it will leave. -/
def sentOf (s : State) : Option Item := s.down.head?.bind fun f => f.out.getLast?

/-! ### When the hypotheses of the walk are met -/

theorem walking (kind addr : Byte) (bytes : List Byte) (s : State) :
    (walk kind addr bytes s).Walking (frame kind addr bytes) [] (itemOf kind (wire addr bytes)) [] := ⟨rfl, rfl, rfl⟩

theorem reporting (kind addr : Byte) (bytes : List Byte) (s : State) :
    (hear kind addr bytes s).Reporting (heard kind addr bytes) [] (itemOf kind (wire addr bytes)) [] := ⟨rfl, rfl⟩

/-- The request is asked of the state that carries it to the own address 62. -/
abbrev Asks (kind : Byte) (bytes : List Byte) (s : State) : Prop :=
  (walk kind 62 bytes s).Asked (frame kind 62 bytes) [] kind (wire 62 bytes) []

theorem asks {s : State} (kind : Byte) (bytes : List Byte) (h : s.line.ownAddr = 62) (r : s.ret.answers.length < 16) :
    Asks kind bytes s := ⟨walking kind 62 bytes s, ⟨h ▸ by decide, h ▸ rfl⟩, r⟩

theorem roles8_get {s : State} (hr : s.roles = roles8) (i : Fin 8) : s.roles[i] = roles8[i] := by simp only [hr]

theorem roles8_ok {s : State} (h : s.line.ownAddr = 62) (hr : s.roles = roles8) : s.RolesOk := by
  refine ⟨by rw [h]; decide, fun i => ?_, fun i j => ?_⟩
  · rw [roles8_get hr, h]; revert i; decide
  · rw [roles8_get hr, roles8_get hr]; revert i j; decide

theorem roleItem {s : State} (r : Role) (bytes : List Byte) (h : s.line.ownAddr = 62) (hr : s.roles = roles8) :
    s.RoleItem r (wire (BitVec.ofNat 8 (11 + r.index.val)) bytes) := by
  refine ⟨roles8_ok h hr, ?_⟩
  show s.roles[r.index] = some (stationOf (BitVec.ofNat 8 (11 + r.index.val)))
  rw [roles8_get hr]
  rcases r with i | i | _ | _
  · revert i; decide
  · revert i; decide
  · decide
  · decide

/-- Some request of a kind, some state it is asked of, and what both meet. -/
abbrev AskedWith (kind : Byte) (C : Wire → State → Prop) : Prop :=
  ∃ w s f rest more, s.Asked f rest kind w more ∧ C w s

theorem askedWith {kind : Byte} {C : Wire → State → Prop} (bytes : List Byte) (s : State) (h : s.line.ownAddr = 62)
    (r : s.ret.answers.length < 16) (c : C (wire 62 bytes) (walk kind 62 bytes s)) : AskedWith kind C :=
  ⟨_, _, _, _, _, asks kind bytes h r, c⟩

/-- Some item to a role's station, some state that walks it, and what both meet. -/
abbrev WalkedWith (kind : Byte) (r : Role) (C : Wire → State → Prop) : Prop :=
  ∃ w s f rest more, s.Walking f rest (itemOf kind w) more ∧ s.RoleItem r w ∧ C w s

theorem walkedWith {kind : Byte} {C : Wire → State → Prop} {r : Role} (bytes : List Byte) (s : State)
    (h : s.line.ownAddr = 62) (hr : s.roles = roles8)
    (c : C (wire (BitVec.ofNat 8 (11 + r.index.val)) bytes) (walk kind (BitVec.ofNat 8 (11 + r.index.val)) bytes s)) :
    WalkedWith kind r C :=
  ⟨_, _, _, _, _, walking kind _ bytes s, roleItem r bytes h hr, c⟩

/-- Some report of a role's station, some state that takes it, and what both meet. -/
abbrev HeardWith (kind : Byte) (r : Role) (C : Wire → State → Prop) : Prop :=
  ∃ w s f rest more, s.Reporting f rest (itemOf kind w) more ∧ s.RoleItem r w ∧ C w s

theorem heardWith {kind : Byte} {C : Wire → State → Prop} {r : Role} (bytes : List Byte) (s : State)
    (h : s.line.ownAddr = 62) (hr : s.roles = roles8)
    (c : C (wire (BitVec.ofNat 8 (11 + r.index.val)) bytes) (hear kind (BitVec.ofNat 8 (11 + r.index.val)) bytes s)) :
    HeardWith kind r C :=
  ⟨_, _, _, _, _, reporting kind _ bytes s, roleItem r bytes h hr, c⟩

/-! ### Data that meets the statements' hypotheses, clause by clause -/

def lined (l : LineState) (f : Filtered) : State := { cell with line := { cell.line with state := l, filtered := f } }
def locked : State := { cell with line := { cell.line with recipeLock := true, limitLock := true } }
def withLane (l : Lane) : State := setLane 0 l cell
def withPicker (k : Picker) : State := setPicker 0 k cell
def withBay (b : Bay) : State := setBay 0 b cell

theorem witness_StoppedTimersDoNotExpire :
    (cell.lane 3).cutTimer = none ∧ (cell.lane 0).spinDownTimer = none ∧ (cell.lane 0).recoveryTimer = none ∧
    (cell.lane 0).gov.coolTimer = none ∧ (cell.lane 0).gov.restoreTimer = none ∧ (cell.picker 1).jawTimer = none ∧
    cell.placements = [] ∧ cell.line.watchdog = none ∧ cell.line.filterTimer = none ∧
    ({ cell with pins := { cell.pins with nreset := true } } : State).inReset = true := by decide

theorem witness_FramesReadBack :
    (List.replicate 24 (itemOf 0x12 (wire 11 [100]))).length ≤ 24 ∧
    parseFrame (frameBytes { kind := 2, cycle := 9, items := [] }) = some { kind := 2, cycle := 9, items := [] } := by
  decide +kernel

theorem witness_PortsJudgeTheirFrames :
    (cell.inReset = false ∧ parseFrame [] = none ∧ (cell.port .u).state = .up ∧ (cell.port .d).state = .up) ∧
    (parseFrame (frameBytes { kind := 1, cycle := 9, items := [] })).isSome = true ∧
    (let s : State := { cell with portU := { state := .down, errors := 255, degraded := true, run := 62 } }
     s.inReset = false ∧ (s.port .u).state = .down ∧ (s.port .u).run + 1 < 64) ∧
    (let s : State := { cell with portD := { state := .down, errors := 255, degraded := true, run := 63 } }
     (s.port .d).state = .down ∧ 64 ≤ (s.port .d).run + 1) := by decide +kernel

theorem witness_AddressTestsJudgeTheGatedItems :
    (Instr.cut (wire 63 [])).wellFormed = true ∧ gatedItem (.cut (wire 63 [])) = some (0x10, wire 63 []) ∧
    (walk 0x10 63 [] cell).Walking (frame 0x10 63 []) [] (itemOf 0x10 (wire 63 [])) [] ∧
    stationOf (wire 63 []).addr = 63 ∧ stationOf (wire 62 []).addr = cell.line.ownAddr ∧
    (stationOf (wire 19 []).addr ≠ 0 ∧ ∀ r, cell.addrOf r ≠ some (stationOf (wire 19 []).addr)) ∧
    (stationOf (wire 0 []).addr = 0 ∧ cell.line.ownAddr ≠ 0) ∧
    WalkedWith 0x10 .table (fun _ _ => Role.table ∉ gatedRoles 0x10) ∧
    (stationOf (wire 62 []).addr = cell.line.ownAddr ∧ ¬(0x40 ≤ (0x3F : Byte).toNat)) ∧
    (stationOf (wire 11 []).addr ≠ cell.line.ownAddr ∧ ¬((0x18 : Byte).toNat ≤ 0x17)) := by
  refine ⟨rfl, rfl, walking _ _ _ _, by decide, by decide, ⟨by decide, ?_⟩, by decide, ?_, by decide, by decide⟩
  · rintro (i | i | _ | _)
    · revert i; decide
    · revert i; decide
    · decide
    · decide
  · exact walkedWith (s := cell) [] rfl rfl (by decide)

theorem witness_RewrittenItemsHoldTheirBytes : 4 ≤ 15 ∧ 15 + 1 ≤ 16 ∧ 4 ≤ 4 ∧ 15 ≤ 15 := by decide

/-- A full answer queue. -/
def fullQueue : State :=
  { cell with ret := { cell.ret with answers := List.replicate 16 { tag := 1, kind := 0x40, result := .done, fields := [] } } }

theorem witness_RequestsPassOrAreLostOrUnnamed :
    requestItem (.run (wire 63 [])) = some (0x41, wire 63 []) ∧
    (walk 0x41 63 [] cell).Walking (frame 0x41 63 []) [] (itemOf 0x41 (wire 63 [])) [] ∧ stationOf (wire 63 []).addr = 63 ∧
    stationOf (wire 61 []).addr ≠ cell.line.ownAddr ∧
    ((walk 0x41 62 [] fullQueue).OwnItem (wire 62 []) ∧ 16 ≤ (walk 0x41 62 [] fullQueue).ret.answers.length) ∧
    AskedWith 0x5F (fun _ _ => 0x5F ≤ (0x5F : Byte).toNat ∧ (0x5F : Byte).toNat ≤ 0x7F) ∧ AskedWith 0x7F (fun _ _ => (0x7F : Byte).toNat ≤ 0x7F) :=
  ⟨rfl, walking _ _ _ _, by decide, by decide, ⟨⟨by decide, by decide⟩, by decide⟩,
    askedWith (s := cell) [] rfl (by decide) (by decide), askedWith (s := cell) [] rfl (by decide) (by decide)⟩

/-- An order frame all of whose items have been walked, and the same with Port D DOWN. -/
def walked : State := { cell with down := [{ isHalt := false, cycle := 9, todo := [], out := [itemOf 0x12 (wire 11 [100])] }] }
def walkedDown : State := { walked with portD := { state := .down, errors := 255, degraded := true, run := 0 } }

theorem witness_InsertionFillsTheRoom :
    (∃ f rest, walked.down = f :: rest ∧ f.isHalt = false ∧ f.todo = [] ∧ walked.portD.state = .up) ∧
    (∃ f rest, walkedDown.down = f :: rest ∧ f.isHalt = false ∧ f.todo = [] ∧ walkedDown.portD.state = .down) :=
  ⟨⟨_, _, rfl, rfl, rfl, rfl⟩, ⟨_, _, rfl, rfl, rfl, rfl⟩⟩

theorem witness_HaltFramesStopTheCell :
    (∃ s : State, ∃ f rest, s.down = f :: rest ∧ f.isHalt = true) ∧
    (∃ s : State, ∃ ends, s.line.watchdog = some ends ∧ s.inReset = false) :=
  ⟨⟨{ cell with down := [{ isHalt := true, cycle := 9, todo := [itemOf 0x11 (wire 11 [0, 0])], out := [] }] }, _, _, rfl, rfl⟩,
    ⟨{ cell with line := { cell.line with watchdog := some 20 } }, _, rfl, rfl⟩⟩

theorem witness_ReturnFrameTakesAnswersThenNotices :
    ∃ s : State, ∃ f rest, s.up = f :: rest ∧ f.todo = [] := ⟨{ cell with up := [{ cycle := 9, items := [], todo := [] }] }, _, _, rfl, rfl⟩

theorem witness_ReportsThatAreNotTaken :
    (reportItem (.cutDone (wire 18 [])) = some (0x20, wire 18 [], [.lane 0, .lane 1, .lane 2, .lane 3]) ∧
      (hear 0x20 18 [] cell).Reporting (heard 0x20 18 []) [] (itemOf 0x20 (wire 18 [])) [] ∧
      ∀ r ∈ ([.lane 0, .lane 1, .lane 2, .lane 3] : List Role), cell.addrOf r ≠ some (stationOf (wire 18 []).addr)) ∧
    HeardWith 0x21 (.lane 0) (fun w _ => 1 < (payloadByte w.payload 7).toNat) ∧
    HeardWith 0x22 (.picker 1) (fun w _ => 1 < (payloadByte w.payload 4).toNat) ∧
    HeardWith 0x22 (.picker 1) (fun w _ => 1 < (payloadByte w.payload 5).toNat) ∧
    HeardWith 0x23 .table (fun w _ => 2 < (payloadByte w.payload 6).toNat) ∧
    HeardWith 0x25 .elevator (fun w _ => 1 < (payloadByte w.payload 6).toNat) :=
  ⟨⟨rfl, reporting _ _ _ _, by decide⟩, heardWith (s := cell) [0, 0, 0, 2] rfl rfl (by decide),
    heardWith (s := cell) [2, 0] rfl rfl (by decide), heardWith (s := cell) [0, 2] rfl rfl (by decide),
    heardWith (s := cell) [50, 50, 3] rfl rfl (by decide), heardWith (s := cell) [0, 0, 2] rfl rfl (by decide)⟩

theorem witness_RunAndHaltSetTheLine :
    AskedWith 0x41 (fun _ s => s.line.state = .idle ∧ s.line.filtered = .closed) ∧
    AskedWith 0x41 (fun _ s => s.line.state = .idle ∧ s.line.filtered ≠ .closed) ∧
    AskedWith 0x41 (fun _ s => s.line.state = .running) ∧ AskedWith 0x41 (fun _ s => s.line.state = .held) ∧
    AskedWith 0x42 (fun _ s => s.line.state ≠ .held) ∧ AskedWith 0x42 (fun _ s => s.line.state = .held) :=
  ⟨askedWith [] (lined .idle .closed) rfl (by decide) (by decide), askedWith [] (lined .idle .unknown) rfl (by decide) (by decide),
    askedWith [] cell rfl (by decide) (by decide), askedWith [] (lined .held .opened) rfl (by decide) (by decide),
    askedWith [] cell rfl (by decide) (by decide), askedWith [] (lined .held .opened) rfl (by decide) (by decide)⟩

theorem witness_OnlyRunStartsTheLine :
    ∃ c s t, exec c s = .next t ∧ t.line.state = .running ∧ s.line.state ≠ .running :=
  ⟨.run (wire 62 []), walk 0x41 62 [] (lined .idle .closed), _, rfl, by decide, by decide⟩

theorem witness_SafetyInputIsFiltered :
    (∃ s : State, s.inReset = false ∧ s.pins.stopSense ≠ true ∧ s.line.filtered = .closed) ∧
    (∃ s : State, s.inReset = false ∧ s.pins.stopSense ≠ true ∧ s.line.filtered ≠ .closed) ∧
    (∃ s : State, ∃ t, s.line.filterTimer = some t ∧ s.inReset = false) :=
  ⟨⟨cell, by decide⟩, ⟨State.reset, by decide⟩, ⟨State.reset, _, rfl, rfl⟩⟩

theorem witness_AlertFollowsItsConditions : AskedWith 0x46 (fun _ _ => True) :=
  askedWith [0xFF] cell rfl (by decide) trivial

theorem witness_LocksAreSetAndLast :
    AskedWith 0x47 (fun w _ => 1 < (payloadByte w.payload 4).toNat ∨ 1 < (payloadByte w.payload 5).toNat) ∧
    AskedWith 0x47 (fun w _ => (payloadByte w.payload 4).toNat ≤ 1 ∧ (payloadByte w.payload 5).toNat ≤ 1) ∧
    (∃ c s t, exec c s = .next t ∧ c = .powerOnReset 5) ∧
    (∃ c s t, exec c s = .next t ∧ (∀ a, c ≠ .powerOnReset a ∧ c ≠ .pinReset a) ∧ (∀ w, c ≠ .lock w) ∧
      s.line.recipeLock = true ∧ s.line.limitLock = true) :=
  ⟨askedWith [0, 2] cell rfl (by decide) (by decide), askedWith [1, 0] cell rfl (by decide) (by decide),
    ⟨_, cell, _, rfl, rfl⟩, ⟨.run (wire 62 []), locked, _, rfl, fun _ => ⟨nofun, nofun⟩, nofun, by decide⟩⟩

theorem witness_StatusReadShowsTheLine :
    AskedWith 0x40 (fun w _ => (payloadByte w.payload 4).toNat = 0) ∧ AskedWith 0x40 (fun w _ => (payloadByte w.payload 4).toNat = 1) ∧
    AskedWith 0x40 (fun w _ => (payloadByte w.payload 4).toNat = 2) ∧ AskedWith 0x40 (fun w _ => 2 < (payloadByte w.payload 4).toNat) :=
  ⟨askedWith [0] cell rfl (by decide) (by decide), askedWith [1] cell rfl (by decide) (by decide),
    askedWith [2] cell rfl (by decide) (by decide), askedWith [3] cell rfl (by decide) (by decide)⟩

theorem witness_RoleSetWritesOneEntry :
    AskedWith 0x44 (fun _ s => s.line.recipeLock = true) ∧
    AskedWith 0x44 (fun w s => s.line.recipeLock = false ∧ ¬(byteNat w.payload 4 < 8)) ∧
    AskedWith 0x44 (fun w s => s.line.recipeLock = false ∧ payloadByte w.payload 5 = 63) ∧
    AskedWith 0x44 (fun w s => s.line.recipeLock = false ∧ byteNat w.payload 4 = 7 ∧ payloadByte w.payload 5 = 11 ∧
      s.roles[(0 : Fin 8)] = some 11) ∧
    AskedWith 0x44 (fun w s => s.line.recipeLock = false ∧ byteNat w.payload 4 = 7 ∧ payloadByte w.payload 5 = 1 ∧
      ∀ j : Fin 8, s.roles[j] ≠ some 1) :=
  ⟨askedWith [0, 11] locked rfl (by decide) (by decide), askedWith [8, 11] cell rfl (by decide) (by decide),
    askedWith [7, 63] cell rfl (by decide) (by decide), askedWith [7, 11] cell rfl (by decide) (by decide),
    askedWith [7, 1] cell rfl (by decide) (by decide)⟩

theorem witness_TimingSetWritesOneSetting :
    AskedWith 0x45 (fun w _ => 8 ≤ byteNat w.payload 4) ∧ AskedWith 0x45 (fun w _ => byteNat w.payload 4 < 8) :=
  ⟨askedWith [8, 1, 0] cell rfl (by decide) (by decide), askedWith [7, 9, 0] cell rfl (by decide) (by decide)⟩

theorem witness_ResetsStopAndEndInTheirTables :
    ∃ s : State, s.pins.supplyStable = false ∨ s.pins.nreset = true :=
  ⟨{ cell with pins := { cell.pins with nreset := true } }, .inr rfl⟩

theorem witness_LinkResetKeepsTheConfiguration : AskedWith 0x43 (fun _ s => s.line.limitLock = true) :=
  askedWith [] locked rfl (by decide) (by decide)

/-- A cell with a CUT of a tab of nest A in flight on lane 0. -/
def cutting : State := after (.cut (wire 11 [0, 0, 40, 0, 4, 0])) (walk 0x10 11 [0, 0, 40, 0, 4, 0] cell)

theorem witness_CutIsJudgedThenAdmitted :
    WalkedWith 0x10 (.lane 0) (fun w s => firstFailing (cutChecks s 0 w.payload) = some .halted) ∧
    WalkedWith 0x10 (.lane 0) (fun w s => firstFailing (cutChecks s 0 w.payload) = some .holdRequired) ∧
    WalkedWith 0x10 (.lane 0) (fun w s => firstFailing (cutChecks s 0 w.payload) = none ∧
      nestOfByte (payloadByte w.payload 4) = some .a ∧ (s.nest .a).tabs[byteNat w.payload 5]? = some (tab0 0)) :=
  ⟨walkedWith [0, 0, 40] (lined .idle .closed) rfl rfl (by decide), walkedWith [0, 2, 40] cell rfl rfl (by decide),
    walkedWith [0, 0, 40] cell rfl rfl (by decide)⟩

theorem cell_cutInv : cell.CutInv := by
  refine ⟨fun i => ?_, ?_, ?_⟩
  · revert i; decide
  · decide
  · decide

theorem witness_UnvoidedCutKeepsTheHoldLaw :
    ∃ w s t f rest more, State.CutInv s ∧ s.Walking f rest (itemOf 0x10 w) more ∧ s.RoleItem (.lane 0) w ∧ exec (.cut w) s = .next t ∧
      ∃ it, t.down = { f with todo := more, out := f.out ++ [it] } :: rest ∧ it.kind = 0x10 :=
  ⟨wire 11 [0, 0, 40], walk 0x10 11 [0, 0, 40] cell, _, _, _, _, cell_cutInv, walking _ _ _ _, roleItem (.lane 0) _ rfl rfl, rfl,
    withFeed (itemOf 0x10 (wire 11 [0, 0, 40])) 20, by decide, by decide⟩

theorem witness_FeedIsClamped : 1 < appliedFeed 40 70 none ∧ 70 ≤ 100 := by decide

theorem witness_CausesAndCutEndsPlaceTheLane :
    (let l : Lane := { (cutting.lane 0) with causes := Causes.none.add .driveFault, recoveryMode := .auto }
     l.causes.isEmpty = false ∧ l.recoveryMode = .auto ∧ l.causes.latching = false ∧ l.state ≠ .recovering) ∧
    (let l : Lane := { (cutting.lane 0) with causes := Causes.none.add .spindown, recoveryMode := .auto }
     l.causes.isEmpty = false ∧ l.causes.latching = true) ∧
    (let l : Lane := { (cutting.lane 0) with causes := Causes.none.add .driveFault }
     l.causes.isEmpty = false ∧ l.recoveryMode = .latch) ∧
    (let l : Lane := { (cutting.lane 0) with life := { Life.initial with behaviour := .park, reached := true } }
     l.causes.isEmpty = true ∧ l.life.parkHold = true) ∧
    ((cutting.lane 0).causes.isEmpty = true ∧ (cutting.lane 0).life.parkHold = false) := by decide

/-- The CUT of the only tab of board 1 in flight on lane 0, with the board in a given state and held by a given picker. -/
def lastCut (st : BoardState) (p : Option PickerId) (k : PickerState) : State :=
  let s := modBoard ⟨.a, 1⟩ (fun b => { b with state := st, picker := p, uncut := 0 }) cell
  let s := modTab .a 2 (fun t => { t with state := .cutting, lane := some 0 }) s
  let s := setPicker 0 { Picker.cleared with state := k, board := some ⟨.a, 1⟩ } s
  setLane 0 { lane0 with
    state := .cutting, cutTimer := some 100, binding := some { nest := .a, tab := 2, feed := 40, path := 0, cycle := 9, govAbort := false } } s

theorem witness_MatchedReportEndsTheCut :
    (∃ b t x, HeardWith 0x20 (.lane 0) (fun w s => s.CutReported 0 w.payload b t x ∧ payloadByte w.payload 6 = 1 ∧
      ¬∀ j ∈ x.tabs, j = b.tab ∨ ((s.nest b.nest).tabs[j]?).map TabRec.state = some .cut)) ∧
    (∃ b t x, HeardWith 0x20 (.lane 0) (fun w s => s.CutReported 0 w.payload b t x ∧ payloadByte w.payload 6 = 1 ∧
      (∀ j ∈ x.tabs, j = b.tab ∨ ((s.nest b.nest).tabs[j]?).map TabRec.state = some .cut) ∧ x.state = .held)) ∧
    (∃ b t x, HeardWith 0x20 (.lane 0) (fun w s => s.CutReported 0 w.payload b t x ∧
      (∀ j ∈ x.tabs, j = b.tab ∨ ((s.nest b.nest).tabs[j]?).map TabRec.state = some .cut) ∧ x.state = .attached ∧
      (∀ q, x.picker = some q → (s.picker q).state ≠ .closing))) ∧
    (∃ b t x, HeardWith 0x20 (.lane 0) (fun w s => s.CutReported 0 w.payload b t x ∧
      (∀ j ∈ x.tabs, j = b.tab ∨ ((s.nest b.nest).tabs[j]?).map TabRec.state = some .cut) ∧ x.state = .attached ∧
      x.picker = some 0 ∧ (s.picker 0).state = .closing)) ∧
    (∃ b t x, HeardWith 0x20 (.lane 0) (fun w s => s.CutReported 0 w.payload b t x ∧ payloadByte w.payload 6 = 2)) ∧
    (∃ b t x, HeardWith 0x20 (.lane 0) (fun w s => s.CutReported 0 w.payload b t x ∧ payloadByte w.payload 6 = 3)) :=
  ⟨⟨_, _, _, heardWith [0, 0, 1] cutting rfl rfl ⟨⟨rfl, rfl, rfl, rfl, rfl, rfl⟩, by decide, by decide⟩⟩,
    ⟨_, _, _, heardWith [0, 2, 1] (lastCut .held (some 0) .holding) rfl rfl ⟨⟨rfl, rfl, rfl, rfl, rfl, rfl⟩, by decide, by decide, rfl⟩⟩,
    ⟨_, _, _, heardWith [0, 2, 1] (lastCut .attached none .empty) rfl rfl ⟨⟨rfl, rfl, rfl, rfl, rfl, rfl⟩, by decide, rfl, nofun⟩⟩,
    ⟨_, _, _, heardWith [0, 2, 1] (lastCut .attached (some 0) .closing) rfl rfl ⟨⟨rfl, rfl, rfl, rfl, rfl, rfl⟩, by decide, rfl, rfl, rfl⟩⟩,
    ⟨_, _, _, heardWith [0, 0, 2] cutting rfl rfl ⟨⟨rfl, rfl, rfl, rfl, rfl, rfl⟩, by decide⟩⟩,
    ⟨_, _, _, heardWith [0, 0, 3] cutting rfl rfl ⟨⟨rfl, rfl, rfl, rfl, rfl, rfl⟩, by decide⟩⟩⟩

theorem witness_CutTimerEndsTheCut :
    ∃ ends b t, (cutting.lane 0).cutTimer = some ends ∧ cutting.inReset = false ∧ (cutting.lane 0).binding = some b ∧
      (cutting.nest b.nest).tabs[b.tab]? = some t := ⟨_, _, _, rfl, rfl, rfl, rfl⟩

theorem witness_LateCutReportOnlyCountsWear :
    HeardWith 0x20 (.lane 0) (fun _ s => (s.lane 0).state ≠ .cutting) ∧
    HeardWith 0x20 (.lane 0) (fun w _ => payloadByte w.payload 6 ≠ 1 ∧ payloadByte w.payload 6 ≠ 2 ∧ payloadByte w.payload 6 ≠ 3) ∧
    HeardWith 0x20 (.lane 0) (fun w s => ∀ b, (s.lane 0).binding = some b →
      ¬(nestOfByte (payloadByte w.payload 4) = some b.nest ∧ byteNat w.payload 5 = b.tab)) :=
  ⟨heardWith [0, 0, 1] cell rfl rfl (by decide), heardWith [0, 0, 4] cutting rfl rfl (by decide),
    heardWith [0, 1, 1] cutting rfl rfl (by rintro b h; cases h; decide)⟩

theorem witness_LifeSetStoresClampedLevels :
    AskedWith 0x4A (fun w _ => 4 ≤ byteNat w.payload 4) ∧ AskedWith 0x4A (fun w _ => 4 ≤ byteNat w.payload 5) ∧
    AskedWith 0x4A (fun w s => byteNat w.payload 4 = 3 ∧ payloadByte w.payload 5 = Behaviour.park.code ∧ s.line.limitLock = true ∧
      Behaviour.park ≠ (s.lane 3).life.behaviour) ∧
    AskedWith 0x4A (fun w s => byteNat w.payload 4 = 3 ∧ payloadByte w.payload 5 = Behaviour.park.code ∧ s.line.limitLock = false) :=
  ⟨askedWith [4, 0] cell rfl (by decide) (by decide), askedWith [3, 4] cell rfl (by decide) (by decide),
    askedWith [3, 2, 1, 0, 0, 9, 0, 0] locked rfl (by decide) (by decide),
    askedWith [3, 2, 1, 0, 0, 9, 0, 0] cell rfl (by decide) (by decide)⟩

/-- Lane 0 with a bit worn 500 units. -/
def wornCell : State := withLane { lane0 with life := { Life.initial with wear := 500 }, spindle := .stopped }

theorem witness_WearPresetAndBitChange :
    AskedWith 0x4B (fun w _ => 4 ≤ byteNat w.payload 4) ∧
    AskedWith 0x4B (fun w s => byteNat w.payload 4 = 0 ∧ byteNat w.payload 5 + 256 * byteNat w.payload 6 = 499 ∧
      byteNat w.payload 7 = 0 ∧ byteNat w.payload 8 = 0 ∧ (s.lane 0).life.wear = 500) ∧
    AskedWith 0x4B (fun w s => byteNat w.payload 4 = 0 ∧ byteNat w.payload 5 + 256 * byteNat w.payload 6 = 500 ∧
      (s.lane 0).life.wear = 500) ∧
    AskedWith 0x4C (fun w _ => 4 ≤ byteNat w.payload 4) ∧
    AskedWith 0x4C (fun w s => byteNat w.payload 4 = 3 ∧ (s.lane 3).spindle ≠ .stopped) ∧
    AskedWith 0x4C (fun w s => byteNat w.payload 4 = 0 ∧ (s.lane 0).spindle = .stopped ∧ (s.lane 0).state ≠ .cutting) :=
  ⟨askedWith [4] wornCell rfl (by decide) (by decide), askedWith [0, 243, 1] wornCell rfl (by decide) (by decide),
    askedWith [0, 244, 1] wornCell rfl (by decide) (by decide), askedWith [4] wornCell rfl (by decide) (by decide),
    askedWith [3, 9, 0] wornCell rfl (by decide) (by decide), askedWith [0, 9, 0] wornCell rfl (by decide) (by decide)⟩

theorem witness_WearNeverFalls :
    ∃ c s t, State.LaneInv s ∧ exec c s = .next t ∧ (t.lane 0).life.wear < (s.lane 0).life.wear :=
  ⟨.bitChange (wire 62 [0, 9, 0]), walk 0x4C 62 [0, 9, 0] wornCell, _, by intro i; revert i; decide, rfl, by decide⟩

theorem witness_SpindleAndFeedOrders :
    WalkedWith 0x11 (.lane 0) (fun w s => 0 < halfNat w.payload 4 ∧ s.line.state ≠ .running) ∧
    WalkedWith 0x11 (.lane 0) (fun w s => 0 < halfNat w.payload 4 ∧ s.line.state = .running ∧ (s.lane 0).state = .ready) ∧
    WalkedWith 0x11 (.lane 3) (fun w _ => halfNat w.payload 4 = 0) ∧ WalkedWith 0x12 (.lane 0) (fun _ _ => True) :=
  ⟨walkedWith [1, 0] (lined .idle .closed) rfl rfl (by decide), walkedWith [1, 0] cell rfl rfl (by decide),
    walkedWith [0, 0] cell rfl rfl (by decide), walkedWith [100] cell rfl rfl trivial⟩

/-- Lane 0 with its governor in a state, and the run of overload it is in. -/
def governed (g : GovState) (m : GovMode) (run : Option Nat) : State :=
  { withLane { lane0 with gov := { Governor.initial with state := g, mode := m, overRun := run } } with now := 1000 }

theorem witness_LaneReportIsTakenInOrder :
    HeardWith 0x21 (.lane 0) (fun w s => payloadByte w.payload 7 = 1 ∧ (s.lane 0).state = .inactive) ∧
    HeardWith 0x21 (.lane 0) (fun w s => payloadByte w.payload 7 = 0 ∧ (s.lane 0).state ≠ .inactive ∧ (s.lane 0).gov.state = .stepped) ∧
    HeardWith 0x21 (.lane 0) (fun w s => payloadByte w.payload 7 = 0 ∧ (s.lane 0).gov.state = .normal ∧
      byteNat w.payload 6 ≤ 60 + 10 * (s.lane 0).gov.level) ∧
    HeardWith 0x21 (.lane 0) (fun w s => payloadByte w.payload 7 = 0 ∧ (s.lane 0).gov.state = .normal ∧
      60 + 10 * (s.lane 0).gov.level < byteNat w.payload 6 ∧ (s.lane 0).gov.overRun = none) ∧
    HeardWith 0x21 (.lane 0) (fun w s => 60 + 10 * (s.lane 0).gov.level < byteNat w.payload 6 ∧
      (s.lane 0).gov.overRun = some 951 ∧ s.now - 951 < (s.lane 0).gov.mask) ∧
    HeardWith 0x21 (.lane 0) (fun w s => 60 + 10 * (s.lane 0).gov.level < byteNat w.payload 6 ∧
      (s.lane 0).gov.overRun = some 950 ∧ (s.lane 0).gov.mask ≤ s.now - 950 ∧ (s.lane 0).gov.state = .normal ∧ (s.lane 0).gov.mode = .yield) ∧
    HeardWith 0x21 (.lane 0) (fun w s => 60 + 10 * (s.lane 0).gov.level < byteNat w.payload 6 ∧
      (s.lane 0).gov.overRun = some 950 ∧ (s.lane 0).gov.mask ≤ s.now - 950 ∧ (s.lane 0).gov.mode = .trip) :=
  ⟨heardWith [0, 0, 0, 1] (withLane Lane.initial) rfl rfl (by decide), heardWith [0, 0, 101, 0] (governed .stepped .yield none) rfl rfl (by decide),
    heardWith [0, 0, 100, 0] (governed .normal .yield none) rfl rfl (by decide),
    heardWith [0, 0, 101, 0] (governed .normal .yield none) rfl rfl (by decide),
    heardWith [0, 0, 101, 0] (governed .normal .yield (some 951)) rfl rfl (by decide),
    heardWith [0, 0, 101, 0] (governed .normal .yield (some 950)) rfl rfl (by decide),
    heardWith [0, 0, 101, 0] (governed .normal .trip (some 950)) rfl rfl (by decide)⟩

theorem witness_LaneTimersExpire :
    (let l : Lane := { lane0 with spinDownTimer := some 9, spindle := .spinningDown }
     (withLane l).inReset = false ∧ ((withLane l).lane 0).spinDownTimer = some 9 ∧ ((withLane l).lane 0).spindle = .spinningDown) ∧
    (let l : Lane := { lane0 with recoveryTimer := some 9, state := .recovering, spindle := .stopped, lastLoad := some 90 }
     l.recoveryTimer = some 9 ∧ l.state = .recovering ∧ l.lastFault ≠ some true ∧ l.lastLoad.getD 0 ≤ l.gov.effectiveLimit - 10 ∧
       l.spindle = .stopped ∧ l.causes.latching = false) ∧
    (let l : Lane := { lane0 with recoveryTimer := some 9, state := .recovering, spindle := .stopped, lastLoad := some 91 }
     l.state = .recovering ∧ ¬(l.lastLoad.getD 0 ≤ l.gov.effectiveLimit - 10)) ∧
    (let g : Governor := { Governor.initial with state := .stepped, override := 40, coolTimer := some 9 }
     g.coolTimer = some 9 ∧ g.state = .stepped ∧ g.override = 40 ∧ 60 + 10 * g.level < 101) ∧
    (let g : Governor := { Governor.initial with state := .stepped, override := 25, coolTimer := some 9 }
     g.override = 25 ∧ 60 + 10 * g.level < 101 ∧ 90 ≤ 60 + 10 * g.level - 10 ∧ (60 + 10 * g.level - 10 < 91 ∧ 91 ≤ 60 + 10 * g.level)) ∧
    (let g : Governor := { Governor.initial with state := .fallback, restoreTimer := some 9 }
     g.restoreTimer = some 9 ∧ g.state = .fallback ∧ 80 ≤ 60 + 10 * (g.level - 1) - 10 ∧ 60 + 10 * (g.level - 1) - 10 < 81) := by decide

theorem witness_LaneConfigAndLaneClear :
    AskedWith 0x48 (fun w _ => 4 ≤ byteNat w.payload 4) ∧ AskedWith 0x48 (fun w _ => 2 ≤ byteNat w.payload 5) ∧
    AskedWith 0x48 (fun w _ => 2 ≤ byteNat w.payload 6) ∧
    AskedWith 0x48 (fun w s => byteNat w.payload 4 = 0 ∧ payloadByte w.payload 5 = 1 ∧ payloadByte w.payload 6 = RecoveryMode.auto.code ∧
      s.line.limitLock = true ∧ RecoveryMode.auto ≠ (s.lane 0).recoveryMode) ∧
    AskedWith 0x48 (fun w s => payloadByte w.payload 5 = 0 ∧ payloadByte w.payload 6 = RecoveryMode.latch.code ∧ s.line.limitLock = false ∧
      (s.lane 0).state = .ready ∧ (s.lane 0).spindle ≠ .stopped) ∧
    AskedWith 0x48 (fun w s => payloadByte w.payload 5 = 1 ∧ payloadByte w.payload 6 = RecoveryMode.auto.code ∧ s.line.limitLock = false) ∧
    AskedWith 0x4D (fun w _ => 4 ≤ byteNat w.payload 4) ∧
    AskedWith 0x4D (fun _ s => (s.lane 0).state = .error ∧ (s.lane 0).lastFault ≠ some true ∧
      (s.lane 0).lastLoad.getD 0 ≤ (s.lane 0).gov.effectiveLimit - 10 ∧ (s.lane 0).spindle = .stopped) ∧
    AskedWith 0x4D (fun _ s => (s.lane 0).state = .recovering ∧ (s.lane 0).spindle ≠ .stopped) ∧
    AskedWith 0x4D (fun _ s => (s.lane 0).state = .cutting) ∧ AskedWith 0x4D (fun _ s => (s.lane 0).state = .ready) :=
  ⟨askedWith [4] cell rfl (by decide) (by decide), askedWith [0, 2] cell rfl (by decide) (by decide),
    askedWith [0, 0, 2] cell rfl (by decide) (by decide), askedWith [0, 1, 1] locked rfl (by decide) (by decide),
    askedWith [0, 0, 0] cell rfl (by decide) (by decide), askedWith [0, 1, 1] cell rfl (by decide) (by decide),
    askedWith [4] cell rfl (by decide) (by decide),
    askedWith [0] (withLane { lane0 with state := .error, spindle := .stopped, causes := Causes.none.add .overload }) rfl (by decide) (by decide),
    askedWith [0] (withLane { lane0 with state := .recovering }) rfl (by decide) (by decide), askedWith [0] cutting rfl (by decide) (by decide),
    askedWith [0] cell rfl (by decide) (by decide)⟩

theorem witness_GovernorSetAndLaneRead :
    AskedWith 0x49 (fun w _ => 4 ≤ byteNat w.payload 4) ∧ AskedWith 0x49 (fun w _ => 2 ≤ byteNat w.payload 5) ∧
    AskedWith 0x49 (fun w _ => 7 < byteNat w.payload 6) ∧
    AskedWith 0x49 (fun w s => payloadByte w.payload 5 = GovMode.yield.code ∧ byteNat w.payload 6 ≤ 7 ∧ s.line.limitLock = true ∧
      (s.lane 0).gov.level < byteNat w.payload 6) ∧
    AskedWith 0x49 (fun w s => byteNat w.payload 4 = 0 ∧ payloadByte w.payload 5 = GovMode.trip.code ∧ byteNat w.payload 6 = 7 ∧
      s.line.limitLock = false) ∧
    AskedWith 0x4E (fun w _ => 4 ≤ byteNat w.payload 4) ∧ AskedWith 0x4E (fun w _ => 4 ≤ byteNat w.payload 5) ∧
    AskedWith 0x4E (fun w _ => byteNat w.payload 4 = 3 ∧ byteNat w.payload 5 = 0) ∧ AskedWith 0x4E (fun w _ => byteNat w.payload 4 = 3 ∧ byteNat w.payload 5 = 1) ∧
    AskedWith 0x4E (fun w _ => byteNat w.payload 4 = 3 ∧ byteNat w.payload 5 = 2) ∧ AskedWith 0x4E (fun w _ => byteNat w.payload 4 = 3 ∧ byteNat w.payload 5 = 3) :=
  ⟨askedWith [4] cell rfl (by decide) (by decide), askedWith [0, 2] cell rfl (by decide) (by decide),
    askedWith [0, 0, 8] cell rfl (by decide) (by decide), askedWith [0, 0, 5] locked rfl (by decide) (by decide),
    askedWith [0, 1, 7] cell rfl (by decide) (by decide), askedWith [4, 0] cell rfl (by decide) (by decide),
    askedWith [0, 4] cell rfl (by decide) (by decide), askedWith [3, 0] cell rfl (by decide) (by decide),
    askedWith [3, 1] cell rfl (by decide) (by decide), askedWith [3, 2] cell rfl (by decide) (by decide),
    askedWith [3, 3] cell rfl (by decide) (by decide)⟩

/-- Slot 1 is being built with one board and one tab: as opened, with its board template, and with both templates. -/
def building (b : Option BoardTemplate) (t : Option TabTemplate) : State :=
  setRecipe 1 { RecipeSlot.cleared with state := .building, boards := [b], tabs := [t] } cell

theorem witness_RecipeOpenDropAndRead :
    AskedWith 0x4F (fun _ s => s.line.recipeLock = true) ∧
    AskedWith 0x4F (fun w s => s.line.recipeLock = false ∧ 8 ≤ byteNat w.payload 4) ∧
    AskedWith 0x4F (fun w s => s.line.recipeLock = false ∧ 64 < byteNat w.payload 5) ∧
    AskedWith 0x4F (fun w s => byteNat w.payload 4 = 0 ∧ byteNat w.payload 5 = 64 ∧ halfNat w.payload 6 = 256 ∧ 0 < (s.recipe 0).useCount) ∧
    AskedWith 0x4F (fun w s => byteNat w.payload 4 = 7 ∧ byteNat w.payload 5 = 64 ∧ s.freeBoards < 64) ∧
    AskedWith 0x4F (fun w s => byteNat w.payload 4 = 7 ∧ byteNat w.payload 5 = 64 ∧ halfNat w.payload 6 = 256 ∧
      (s.recipe 7).useCount = 0 ∧ 64 ≤ s.freeBoards ∧ 256 ≤ s.freeTabs) ∧
    AskedWith 0x53 (fun _ s => s.line.recipeLock = true) ∧ AskedWith 0x53 (fun w _ => 8 ≤ byteNat w.payload 4) ∧
    AskedWith 0x53 (fun w s => byteNat w.payload 4 = 0 ∧ 0 < (s.recipe 0).useCount) ∧
    AskedWith 0x53 (fun w s => byteNat w.payload 4 = 7 ∧ (s.recipe 7).useCount = 0) ∧
    AskedWith 0x54 (fun w _ => 8 ≤ byteNat w.payload 4) ∧ AskedWith 0x54 (fun w _ => 3 ≤ byteNat w.payload 5) ∧
    AskedWith 0x54 (fun w _ => byteNat w.payload 4 = 0 ∧ byteNat w.payload 5 = 0) ∧
    AskedWith 0x54 (fun w s => byteNat w.payload 5 = 1 ∧ (s.recipe 0).boards.length ≤ byteNat w.payload 6) ∧
    AskedWith 0x54 (fun w s => byteNat w.payload 5 = 1 ∧ byteNat w.payload 6 < (s.recipe 0).boards.length) ∧
    AskedWith 0x54 (fun w s => byteNat w.payload 5 = 2 ∧ (s.recipe 0).tabs.length ≤ byteNat w.payload 6) ∧
    AskedWith 0x54 (fun w s => byteNat w.payload 5 = 2 ∧ byteNat w.payload 6 < (s.recipe 0).tabs.length) :=
  ⟨askedWith [0, 1, 1, 0, 0] locked rfl (by decide) (by decide), askedWith [8, 1, 1, 0, 0] cell rfl (by decide) (by decide),
    askedWith [0, 65, 65, 0, 0] cell rfl (by decide) (by decide), askedWith [0, 64, 0, 1, 0] cell rfl (by decide) (by decide),
    askedWith [7, 64, 0, 1, 0] (setRecipe 2 { RecipeSlot.cleared with state := .building, boards := List.replicate 254 none } cell)
      rfl (by decide) (by decide +kernel),
    askedWith [7, 64, 0, 1, 0] cell rfl (by decide) (by decide), askedWith [0] locked rfl (by decide) (by decide),
    askedWith [8] cell rfl (by decide) (by decide), askedWith [0] cell rfl (by decide) (by decide),
    askedWith [7] cell rfl (by decide) (by decide), askedWith [8, 0, 0] cell rfl (by decide) (by decide),
    askedWith [0, 3, 0] cell rfl (by decide) (by decide), askedWith [0, 0, 0] cell rfl (by decide) (by decide),
    askedWith [0, 1, 2] cell rfl (by decide) (by decide), askedWith [0, 1, 1] cell rfl (by decide) (by decide),
    askedWith [0, 2, 3] cell rfl (by decide) (by decide), askedWith [0, 2, 2] cell rfl (by decide) (by decide)⟩

theorem witness_RecipeTemplatesAreStored :
    AskedWith 0x50 (fun _ s => s.line.recipeLock = true) ∧
    AskedWith 0x50 (fun w s => s.line.recipeLock = false ∧ ¬(byteNat w.payload 4 / 16 % 8 ≤ 3)) ∧
    AskedWith 0x50 (fun w s => byteNat w.payload 4 % 16 = 0 ∧ byteNat w.payload 4 / 16 % 8 = 1 ∧ (rawBoard w.payload 0).variant = 3 ∧
      (rawBoard w.payload 0).hold = 4 ∧ (s.recipe 0).state ≠ .building) ∧
    AskedWith 0x50 (fun w s => byteNat w.payload 4 % 16 = 1 ∧ byteNat w.payload 4 / 16 % 8 = 1 ∧ (rawBoard w.payload 0).variant = 3 ∧
      (rawBoard w.payload 0).hold = 4 ∧ (s.recipe 1).state = .building ∧ (s.recipe 1).boards.length ≤ (rawBoard w.payload 0).index) ∧
    AskedWith 0x50 (fun w s => byteNat w.payload 4 / 16 % 8 = 1 ∧ (rawBoard w.payload 0).variant = 3 ∧
      (rawBoard w.payload 0).hold = 4 ∧ (s.recipe 1).state = .building ∧ (rawBoard w.payload 0).index < (s.recipe 1).boards.length) ∧
    AskedWith 0x51 (fun _ s => s.line.recipeLock = true) ∧ AskedWith 0x51 (fun w _ => ¬(byteNat w.payload 4 / 16 % 8 ≤ 4)) ∧
    AskedWith 0x51 (fun w s => byteNat w.payload 4 % 16 = 0 ∧ byteNat w.payload 4 / 16 % 8 = 1 ∧ (s.recipe 0).state ≠ .building) ∧
    AskedWith 0x51 (fun w s => byteNat w.payload 4 % 16 = 1 ∧ byteNat w.payload 4 / 16 % 8 = 1 ∧ (s.recipe 1).state = .building ∧
      (s.recipe 1).tabs.length ≤ (rawTab w.payload 0).number) ∧
    AskedWith 0x51 (fun w s => byteNat w.payload 4 % 16 = 1 ∧ byteNat w.payload 4 / 16 % 8 = 1 ∧ (s.recipe 1).state = .building ∧
      (rawTab w.payload 0).number < (s.recipe 1).tabs.length ∧ (rawTab w.payload 0).board < (s.recipe 1).boards.length) :=
  ⟨askedWith [16] locked rfl (by decide) (by decide), askedWith [64] cell rfl (by decide) (by decide),
    askedWith [16, 0, 7] cell rfl (by decide) (by decide), askedWith [17, 1, 7] (building none none) rfl (by decide) (by decide),
    askedWith [17, 0, 7] (building none none) rfl (by decide) (by decide), askedWith [16] locked rfl (by decide) (by decide),
    askedWith [80] cell rfl (by decide) (by decide), askedWith [16] cell rfl (by decide) (by decide),
    askedWith [17, 1] (building none none) rfl (by decide) (by decide), askedWith [17, 0] (building none none) rfl (by decide) (by decide)⟩

theorem witness_RecipeFinishChecksInOrder :
    AskedWith 0x52 (fun _ s => s.line.recipeLock = true) ∧ AskedWith 0x52 (fun w s => s.line.recipeLock = false ∧ 8 ≤ byteNat w.payload 4) ∧
    AskedWith 0x52 (fun w s => byteNat w.payload 4 = 0 ∧ (s.recipe 0).state ≠ .building) ∧
    AskedWith 0x52 (fun w s => byteNat w.payload 4 = 1 ∧ (s.recipe 1).state = .building ∧ failsCheck (s.recipe 1) 0 0 = true) ∧
    AskedWith 0x52 (fun _ s => failsCheck (s.recipe 1) 1 0 = true ∧ ∀ j < 2, failsCheck (s.recipe 1) 0 j = false) ∧
    AskedWith 0x52 (fun _ s => failsCheck (s.recipe 1) 3 0 = true ∧ ∀ d < 3, ∀ j < 2, failsCheck (s.recipe 1) d j = false) ∧
    AskedWith 0x52 (fun _ s => (s.recipe 1).state = .building ∧ ∀ d < 4, ∀ j < 2, failsCheck (s.recipe 1) d j = false) :=
  ⟨askedWith [1] locked rfl (by decide) (by decide), askedWith [8] cell rfl (by decide) (by decide),
    askedWith [0] cell rfl (by decide) (by decide), askedWith [1] (building none none) rfl (by decide) (by decide),
    askedWith [1] (building (some ⟨3, 85, 1⟩) none) rfl (by decide) (by decide),
    askedWith [1] (building (some ⟨3, 85, 2⟩) (some ⟨0, none⟩)) rfl (by decide) (by decide),
    askedWith [1] (building (some ⟨3, 85, 1⟩) (some ⟨0, none⟩)) rfl (by decide) (by decide)⟩

theorem witness_NestLoadBuildsTheRecords :
    AskedWith 0x55 (fun w _ => 2 ≤ byteNat w.payload 4) ∧ AskedWith 0x55 (fun w _ => 8 ≤ byteNat w.payload 5) ∧
    AskedWith 0x55 (fun w s => payloadByte w.payload 4 = nestCode .a ∧ byteNat w.payload 5 = 0 ∧ (s.nest .a).state ≠ .empty) ∧
    AskedWith 0x55 (fun w s => payloadByte w.payload 4 = nestCode .b ∧ byteNat w.payload 5 = 7 ∧ (s.recipe 7).state ≠ .ready) ∧
    AskedWith 0x55 (fun w s => payloadByte w.payload 4 = nestCode .b ∧ byteNat w.payload 5 = 0 ∧ (s.nest .b).state = .empty ∧
      (s.recipe 0).state = .ready ∧ (∀ b ∈ (s.recipe 0).boards, b.isSome = true) ∧ ∀ t ∈ (s.recipe 0).tabs, t.isSome = true) :=
  ⟨askedWith [2, 0] cell rfl (by decide) (by decide), askedWith [1, 8] cell rfl (by decide) (by decide),
    askedWith [0, 0] cell rfl (by decide) (by decide), askedWith [1, 7] cell rfl (by decide) (by decide),
    askedWith [1, 0] cell rfl (by decide) (by decide)⟩

/-- Nest A with its VACUUM flag set and a last vacuum. -/
def flagged (v : Option Nat) : State := setNest .a { nest0 with vacuumFlag := true, lastVacuum := v } cell

theorem witness_NestsAreGivenUpAndCleared :
    AskedWith 0x56 (fun w _ => 2 ≤ byteNat w.payload 4) ∧
    AskedWith 0x56 (fun w s => payloadByte w.payload 4 = nestCode .b ∧ (s.nest .b).state = .empty) ∧
    AskedWith 0x56 (fun w s => payloadByte w.payload 4 = nestCode .a ∧ (s.nest .a).state = .loaded ∧ ∃ t ∈ (s.nest .a).tabs, t.state = .cutting) ∧
    AskedWith 0x56 (fun w s => payloadByte w.payload 4 = nestCode .a ∧ (s.nest .a).state = .loaded ∧
      (∀ b ∈ (s.nest .a).boards, b.state = .attached ∧ b.picker = none) ∧ ∀ t ∈ (s.nest .a).tabs, t.state ≠ .cutting) ∧
    AskedWith 0x56 (fun _ s => (s.nest .a).state = .cleared) ∧
    AskedWith 0x57 (fun w _ => 2 ≤ byteNat w.payload 4) ∧
    AskedWith 0x57 (fun w s => payloadByte w.payload 4 = nestCode .b ∧ (s.nest .b).vacuumFlag = false) ∧
    AskedWith 0x57 (fun w s => payloadByte w.payload 4 = nestCode .a ∧ (s.nest .a).vacuumFlag = true ∧
      ∃ v ∈ (s.nest .a).lastVacuum, s.timing.vacLimit.get .a ≤ v) ∧
    AskedWith 0x57 (fun w s => payloadByte w.payload 4 = nestCode .a ∧ (s.nest .a).vacuumFlag = true ∧
      ¬∃ v ∈ (s.nest .a).lastVacuum, s.timing.vacLimit.get .a ≤ v) ∧
    (let r : NestRec := { nest0 with boards := [{ board0 [0] with state := .stacked }, { board0 [1] with state := .lost }] }
     r.state = .loaded ∧ ∀ b ∈ r.boards, b.state = .stacked ∨ b.state = .rejected ∨ b.state = .lost) ∧
    ((cell.nest .b).state ≠ .loaded ∧ ∃ b ∈ (cell.nest .a).boards, b.state = .attached) :=
  ⟨askedWith [2] cell rfl (by decide) (by decide), askedWith [1] cell rfl (by decide) (by decide),
    askedWith [0] cutting rfl (by decide) (by decide), askedWith [0] cell rfl (by decide) (by decide),
    askedWith [0] (setNest .a { nest0 with state := .cleared } cell) rfl (by decide) (by decide),
    askedWith [2] cell rfl (by decide) (by decide), askedWith [1] cell rfl (by decide) (by decide),
    askedWith [0] (flagged (some 40)) rfl (by decide) ⟨rfl, rfl, 40, rfl, by decide⟩,
    askedWith [0] (flagged (some 39)) rfl (by decide) ⟨rfl, rfl, by rintro ⟨v, h, h'⟩; cases h; revert h'; decide⟩, by decide, by decide⟩

theorem witness_NestReadsShowTheRecords :
    AskedWith 0x58 (fun w _ => 2 ≤ byteNat w.payload 4) ∧ AskedWith 0x58 (fun w _ => payloadByte w.payload 4 = nestCode .b) ∧
    AskedWith 0x59 (fun w _ => 2 ≤ byteNat w.payload 4) ∧ AskedWith 0x59 (fun w _ => 2 ≤ byteNat w.payload 6) ∧
    AskedWith 0x59 (fun w s => payloadByte w.payload 4 = nestCode .b ∧ byteNat w.payload 6 < 2 ∧ (s.nest .b).state = .empty) ∧
    AskedWith 0x59 (fun w s => payloadByte w.payload 4 = nestCode .a ∧ (s.nest .a).state ≠ .empty ∧ (s.nest .a).boards[byteNat w.payload 5]? = none) ∧
    AskedWith 0x59 (fun w s => payloadByte w.payload 4 = nestCode .a ∧ byteNat w.payload 6 = 0 ∧ (s.nest .a).boards[byteNat w.payload 5]? = some (board0 [2])) ∧
    AskedWith 0x59 (fun w s => payloadByte w.payload 4 = nestCode .a ∧ byteNat w.payload 6 = 1 ∧ (s.nest .a).boards[byteNat w.payload 5]? = some (board0 [2])) ∧
    AskedWith 0x5A (fun w _ => 2 ≤ byteNat w.payload 4) ∧
    AskedWith 0x5A (fun w s => payloadByte w.payload 4 = nestCode .b ∧ (s.nest .b).state = .empty) ∧
    AskedWith 0x5A (fun w s => payloadByte w.payload 4 = nestCode .a ∧ (s.nest .a).state ≠ .empty ∧ (s.nest .a).tabs[byteNat w.payload 5]? = none) ∧
    AskedWith 0x5A (fun w s => payloadByte w.payload 4 = nestCode .a ∧ (s.nest .a).state ≠ .empty ∧ (s.nest .a).tabs[byteNat w.payload 5]? = some (tab0 1)) :=
  ⟨askedWith [2] cell rfl (by decide) (by decide), askedWith [1] cell rfl (by decide) (by decide),
    askedWith [2, 0, 0] cell rfl (by decide) (by decide), askedWith [0, 0, 2] cell rfl (by decide) (by decide),
    askedWith [1, 0, 0] cell rfl (by decide) (by decide), askedWith [0, 2, 0] cell rfl (by decide) (by decide),
    askedWith [0, 1, 0] cell rfl (by decide) (by decide), askedWith [0, 1, 1] cell rfl (by decide) (by decide),
    askedWith [2, 0] cell rfl (by decide) (by decide), askedWith [1, 0] cell rfl (by decide) (by decide),
    askedWith [0, 3] cell rfl (by decide) (by decide), askedWith [0, 2] cell rfl (by decide) (by decide)⟩

theorem witness_ShuttleNeedsAFreeNest :
    WalkedWith 0x17 .table (fun _ s => s.line.state ≠ .running) ∧
    WalkedWith 0x17 .table (fun _ s => s.line.state = .running ∧ s.table = .a ∧ s.Engaged .a) ∧
    WalkedWith 0x17 .table (fun _ s => s.line.state = .running ∧ s.table ≠ .b ∧ ¬s.Engaged .a) :=
  ⟨walkedWith [] (lined .held .opened) rfl rfl (by decide), walkedWith [] cutting rfl rfl ⟨rfl, rfl, .inl (by decide)⟩,
    walkedWith [] cell rfl rfl ⟨rfl, by decide, by
      rintro (⟨t, ht, h⟩ | ⟨b, hb, h⟩)
      · revert t; decide
      · rcases h with h | h | ⟨p, hp, -⟩
        · revert b; decide
        · revert b; decide
        · have : ∀ b ∈ nest0.boards, b.picker = none := by decide
          rw [this b hb] at hp; cases hp⟩⟩

/-- Nest A with a last vacuum and the start of a low run. -/
def vacuumed (v : Nat) (low : Option Nat) (now : Nat) : State :=
  { setNest .a { nest0 with lastVacuum := some v, lowRun := low } cell with now := now }

theorem witness_TableReportsAndKeepOut :
    ((vacuumed 40 none 0).nest .a).lastVacuum = some 40 ∧ (vacuumed 40 none 0).timing.vacLimit.get .a ≤ 40 ∧
    (((vacuumed 39 none 0).nest .a).lowRun = none ∧ 39 < (vacuumed 39 none 0).timing.vacLimit.get .a ∧
      ∃ b ∈ ((vacuumed 39 none 0).nest .a).boards, b.state = .attached) ∧
    (let s := vacuumed 39 (some 1) 200; (s.nest .a).lowRun = some 1 ∧ s.now - 1 < s.timing.vacMask.get .a) ∧
    (let s := vacuumed 39 (some 0) 200; (s.nest .a).lowRun = some 0 ∧ s.timing.vacMask.get .a ≤ s.now - 0) ∧
    HeardWith 0x23 .table (fun w s => payloadByte w.payload 6 = WorkPos.code .a ∧ s.table = .a) ∧
    HeardWith 0x23 .table (fun w s => payloadByte w.payload 6 = WorkPos.code .moving ∧ s.table.nest? = some .a ∧ WorkPos.moving ≠ s.table ∧ s.Engaged .a) :=
  ⟨by decide, by decide, by decide, by decide, by decide, heardWith [60, 60, 0] cell rfl rfl (by decide),
    heardWith [60, 60, 2] cutting rfl rfl ⟨by decide, rfl, by decide, .inl (by decide)⟩⟩

/-- Picker 0 bound to board 1 of nest A, with the board in a given state and with a given destination. -/
def gripped (k : PickerState) (st : BoardState) (uncut : Nat) (d : Option Destination) : State :=
  setPicker 0 { Picker.cleared with state := k, board := some ⟨.a, 1⟩, sentFor := some ⟨.a, 1⟩, jawTimer := some 9 }
    (modBoard ⟨.a, 1⟩ (fun b => { b with state := st, uncut := uncut, picker := some 0, dest := d }) cell)

def dest0 : Destination := { bay := 0, first := 1, span := 2 }

/-- An open placement of board 1 in bay 0, slots 1 and 2, with its sensed early field. -/
def placed0 (st : BoardState) (early : Option Half) : State :=
  let s := gripped .holding st 0 (some dest0)
  let t : SlotTable := { slots := [.occupied none, .reserved ⟨.a, 1⟩, .reserved ⟨.a, 1⟩, .empty, .empty, .empty], cursor := 3 }
  { setBay 0 { bay0 with table := some t } s with placements := [{ ref := ⟨.a, 1⟩, dest := dest0, cycle := 9, sensed := early, deadline := 5000 }] }

theorem witness_GripAndLiftAreJudged :
    WalkedWith 0x13 (.picker 0) (fun w s => (s.picker 0).state = .empty ∧ nestOfByte (payloadByte w.payload 4) = none) ∧
    WalkedWith 0x13 (.picker 0) (fun w s => (s.picker 0).state = .empty ∧ nestOfByte (payloadByte w.payload 4) = some .a ∧
      (s.nest .a).state = .loaded ∧ s.table = .a ∧ (s.nest .a).boards[byteNat w.payload 5]? = none) ∧
    WalkedWith 0x13 (.picker 0) (fun w s => (s.picker 0).state = .empty ∧ nestOfByte (payloadByte w.payload 4) = some .a ∧
      (s.nest .a).state = .loaded ∧ s.table = .a ∧ (s.nest .a).boards[byteNat w.payload 5]? = some (board0 [2])) ∧
    WalkedWith 0x15 (.picker 0) (fun _ s => s.line.state = .running ∧ (s.picker 0).state = .empty) ∧
    WalkedWith 0x15 (.picker 0) (fun _ s => s.line.state = .running ∧ (s.picker 0).state = .holding ∧
      ((s.picker 0).board.bind s.boardAt).map BoardRec.state = some .freed) :=
  ⟨walkedWith [2, 0] cell rfl rfl (by decide), walkedWith [0, 2] cell rfl rfl (by decide), walkedWith [0, 1] cell rfl rfl (by decide),
    walkedWith [] cell rfl rfl (by decide), walkedWith [] (gripped .holding .freed 0 none) rfl rfl (by decide)⟩

theorem witness_OpenReleasesOnlyASafeBoard :
    WalkedWith 0x14 (.picker 0) (fun _ s => (s.picker 0).state = .empty) ∧ WalkedWith 0x14 (.picker 0) (fun _ s => (s.picker 0).state = .jammed) ∧
    WalkedWith 0x14 (.picker 0) (fun _ s => (s.picker 0).state = .closing ∧ (s.picker 0).board = none) ∧
    WalkedWith 0x14 (.picker 0) (fun _ s => (s.picker 0).state = .closing ∧ (s.picker 0).board = some ⟨.a, 1⟩ ∧
      (s.boardAt ⟨.a, 1⟩).map BoardRec.state = some .attached) ∧
    WalkedWith 0x14 (.picker 0) (fun _ s => (s.picker 0).state = .holding ∧ (s.picker 0).board = some ⟨.a, 1⟩ ∧
      ∃ b ∈ s.boardAt ⟨.a, 1⟩, b.state = .held ∧ b.hold ≤ b.uncut) ∧
    WalkedWith 0x14 (.picker 0) (fun _ s => (s.picker 0).state = .holding ∧ ∃ b ∈ s.boardAt ⟨.a, 1⟩, b.state = .held ∧ b.uncut < b.hold) ∧
    WalkedWith 0x14 (.picker 0) (fun _ s => (s.picker 0).state = .holding ∧ ∃ b ∈ s.boardAt ⟨.a, 1⟩, b.state = .freed) ∧
    WalkedWith 0x14 (.picker 0) (fun _ s => (s.picker 0).state = .holding ∧ ∃ b ∈ s.boardAt ⟨.a, 1⟩, b.state = .inTransit ∧ b.dest = none) ∧
    WalkedWith 0x14 (.picker 0) (fun _ s => (∃ b ∈ s.boardAt ⟨.a, 1⟩, b.state = .inTransit ∧ b.dest ≠ none) ∧
      (s.placementOf ⟨.a, 1⟩).map Placement.sensed = some none) ∧
    WalkedWith 0x14 (.picker 0) (fun _ s => (∃ b ∈ s.boardAt ⟨.a, 1⟩, b.state = .inTransit ∧ b.dest ≠ none) ∧
      (s.placementOf ⟨.a, 1⟩).map Placement.sensed = some (some 3)) :=
  ⟨walkedWith [] cell rfl rfl (by decide), walkedWith [] (withPicker { Picker.cleared with state := .jammed }) rfl rfl (by decide),
    walkedWith [] (withPicker { Picker.cleared with state := .closing }) rfl rfl (by decide),
    walkedWith [] (gripped .closing .attached 1 none) rfl rfl (by decide),
    walkedWith [] (gripped .holding .held 1 none) rfl rfl ⟨rfl, rfl, _, rfl, by decide⟩,
    walkedWith [] (gripped .holding .held 0 none) rfl rfl ⟨rfl, _, rfl, by decide⟩,
    walkedWith [] (gripped .holding .freed 0 none) rfl rfl ⟨rfl, _, rfl, by decide⟩,
    walkedWith [] (gripped .holding .inTransit 0 none) rfl rfl ⟨rfl, _, rfl, by decide⟩,
    walkedWith [] (placed0 .inTransit none) rfl rfl ⟨⟨_, rfl, by decide⟩, by decide⟩,
    walkedWith [] (placed0 .inTransit (some 3)) rfl rfl ⟨⟨_, rfl, by decide⟩, by decide⟩⟩

theorem witness_GripReportsAreTaken :
    HeardWith 0x22 (.picker 0) (fun w s => byteNat w.payload 4 = Jaws.opened.num ∧ payloadByte w.payload 5 = 1 ∧ (s.picker 0).state = .empty) ∧
    HeardWith 0x22 (.picker 0) (fun w s => byteNat w.payload 4 = Jaws.closed.num ∧ payloadByte w.payload 5 = 1 ∧ (s.picker 0).state = .empty ∧
      (s.picker 0).lastJaws = none) ∧
    HeardWith 0x22 (.picker 0) (fun w s => byteNat w.payload 4 = Jaws.closed.num ∧ payloadByte w.payload 5 = 0 ∧ (s.picker 0).state = .jammed) ∧
    HeardWith 0x22 (.picker 0) (fun w s => byteNat w.payload 4 = Jaws.closed.num ∧ (s.picker 0).state = .opening) ∧
    HeardWith 0x22 (.picker 0) (fun w s => byteNat w.payload 4 = Jaws.opened.num ∧ (s.picker 0).state = .opening ∧ (s.picker 0).board = none) ∧
    HeardWith 0x22 (.picker 0) (fun w s => byteNat w.payload 4 = Jaws.opened.num ∧ (s.picker 0).state = .closing) ∧
    HeardWith 0x22 (.picker 0) (fun w s => byteNat w.payload 4 = Jaws.closed.num ∧ payloadByte w.payload 5 = 1 ∧ (s.picker 0).state = .closing ∧
      (s.picker 0).board = some ⟨.a, 1⟩) ∧
    HeardWith 0x22 (.picker 0) (fun w s => byteNat w.payload 4 = Jaws.closed.num ∧ payloadByte w.payload 5 = 0 ∧ (s.picker 0).state = .closing ∧
      (s.picker 0).board = some ⟨.a, 1⟩) ∧
    HeardWith 0x22 (.picker 0) (fun w s => byteNat w.payload 4 = Jaws.closed.num ∧ (s.picker 0).state = .closing ∧ (s.picker 0).board = none ∧
      (s.picker 0).sentFor = some ⟨.a, 1⟩) ∧
    HeardWith 0x22 (.picker 0) (fun w s => byteNat w.payload 4 = Jaws.closed.num ∧ payloadByte w.payload 5 = 1 ∧ (s.picker 0).state = .holding ∧
      (s.picker 0).board = some ⟨.a, 1⟩ ∧ s.boardAt ⟨.a, 1⟩ ≠ none) ∧
    HeardWith 0x22 (.picker 0) (fun w s => payloadByte w.payload 5 = 0 ∧ (s.picker 0).state = .holding ∧ (s.boardAt ⟨.a, 1⟩).map BoardRec.state = some .held) ∧
    HeardWith 0x22 (.picker 0) (fun w s => byteNat w.payload 4 = Jaws.opened.num ∧ (s.picker 0).state = .holding ∧
      (s.boardAt ⟨.a, 1⟩).map BoardRec.state = some .inTransit) :=
  let p (k : PickerState) (r : Option BoardRef) : State := withPicker { Picker.cleared with state := k, sentFor := r }
  ⟨heardWith [0, 1] cell rfl rfl (by decide), heardWith [1, 1] cell rfl rfl (by decide), heardWith [1, 0] (p .jammed none) rfl rfl ⟨rfl, rfl, rfl⟩,
    heardWith [1, 0] (p .opening none) rfl rfl ⟨rfl, rfl⟩, heardWith [0, 0] (p .opening none) rfl rfl ⟨rfl, rfl, rfl⟩,
    heardWith [0, 0] (p .closing none) rfl rfl ⟨rfl, rfl⟩, heardWith [1, 1] (gripped .closing .attached 1 none) rfl rfl (by decide),
    heardWith [1, 0] (gripped .closing .attached 1 none) rfl rfl (by decide), heardWith [1, 1] (p .closing (some ⟨.a, 1⟩)) rfl rfl ⟨rfl, rfl, rfl, rfl⟩,
    heardWith [1, 1] (gripped .holding .held 1 none) rfl rfl (by decide), heardWith [1, 0] (gripped .holding .held 1 none) rfl rfl (by decide),
    heardWith [0, 1] (placed0 .inTransit none) rfl rfl (by decide)⟩

theorem witness_JawTimerAndPickerClear :
    (let s := gripped .closing .attached 1 none
     (s.picker 0).jawTimer = some 9 ∧ s.inReset = false ∧ (s.picker 0).state = .closing ∧ (s.picker 0).sentFor = some ⟨.a, 1⟩ ∧
       (s.picker 0).board = some ⟨.a, 1⟩) ∧
    (let s := withPicker { Picker.cleared with state := .closing, sentFor := some ⟨.a, 1⟩, jawTimer := some 9 }
     (s.picker 0).jawTimer = some 9 ∧ (s.picker 0).state = .closing ∧ (s.picker 0).board = none) ∧
    (let s := withPicker { Picker.cleared with state := .opening, jawTimer := some 9 }
     (s.picker 0).jawTimer = some 9 ∧ (s.picker 0).state = .opening) ∧
    AskedWith 0x5B (fun w _ => 2 ≤ byteNat w.payload 4) ∧
    AskedWith 0x5B (fun w s => byteNat w.payload 4 = 0 ∧ (s.picker 0).state = .jammed ∧ (s.picker 0).lastJaws = some .opened ∧
      (s.picker 0).lastSensed = some false) ∧
    AskedWith 0x5B (fun w s => byteNat w.payload 4 = 1 ∧ (s.picker 1).state = .empty) ∧
    AskedWith 0x5B (fun w s => byteNat w.payload 4 = 0 ∧ (s.picker 0).state = .jammed ∧ (s.picker 0).lastJaws = none) ∧
    AskedWith 0x5B (fun w s => byteNat w.payload 4 = 0 ∧ (s.picker 0).state = .holding) :=
  ⟨by decide, by decide, by decide, askedWith [2] cell rfl (by decide) (by decide),
    askedWith [0] (withPicker { Picker.cleared with state := .jammed, lastJaws := some .opened, lastSensed := some false }) rfl (by decide) (by decide),
    askedWith [1] cell rfl (by decide) (by decide), askedWith [0] (withPicker { Picker.cleared with state := .jammed }) rfl (by decide) (by decide),
    askedWith [0] (gripped .holding .held 1 none) rfl (by decide) (by decide)⟩

/-- Picker 0 carries board 1, bad or not, of a variant. -/
def carrying (bad : Bool) (variant height : Nat) : State :=
  modBoard ⟨.a, 1⟩ (fun b => { b with bad := bad, variant := variant, height := height }) (gripped .holding .inTransit 0 none)

theorem bay0_ok : Bay.Ok bay0 :=
  ⟨by simp [BayKind.Ok, bay0], by decide, by decide, by decide, by decide, by decide, by decide, by decide, by decide⟩

theorem initial_bay_ok : Bay.Ok Bay.initial :=
  ⟨trivial, by decide, by decide, by decide, by decide, by decide, by decide, by decide, by decide⟩

theorem bay7_ok (st : BayState) (h : st = .ready ∨ st = .full) : Bay.Ok { bay7 with state := st } := by
  obtain rfl | rfl := h <;>
    exact ⟨by simp [BayKind.Ok, bay7], by decide, by decide, by decide, by decide, by decide, by decide, by decide, by decide⟩

/-- A state whose bay 0 is `bay0`, whose bay 7 is in range, and whose other bays are unconfigured. -/
theorem bays_in_range (s : State) (h0 : s.bay 0 = bay0) (h7 : (s.bay 7).Ok) (hi : ∀ i, i ≠ 0 → i ≠ 7 → s.bay i = Bay.initial) :
    s.BayInv := by
  refine ⟨fun i => ?_, fun i j ri rj => ?_⟩
  · by_cases e0 : i = 0
    · rw [e0, h0]; exact bay0_ok
    · by_cases e7 : i = 7
      · rw [e7]; exact h7
      · rw [hi i e0 e7]; exact initial_bay_ok
  · have only7 : ∀ k, (s.bay k).kind.isReject = true → k = 7 := fun k hk => by
      by_cases e0 : k = 0
      · rw [e0, h0] at hk; cases hk
      · by_cases e7 : k = 7
        · exact e7
        · rw [hi k e0 e7] at hk; cases hk
    rw [only7 i ri, only7 j rj]

/-- The same with the REJECT bay of `cell`. -/
theorem cell_bays_in_range (s : State) (h0 : s.bay 0 = bay0) (h7 : s.bay 7 = bay7)
    (hi : ∀ i, i ≠ 0 → i ≠ 7 → s.bay i = Bay.initial) : s.BayInv :=
  bays_in_range s h0 (h7 ▸ bay7_ok .ready (.inl rfl)) hi

theorem witness_PlaceReservesARun :
    WalkedWith 0x16 (.picker 0) (fun _ s => s.BayInv ∧ s.line.state ≠ .running) ∧
    WalkedWith 0x16 (.picker 0) (fun _ s => s.BayInv ∧ (∃ b ∈ s.boardAt ⟨.a, 1⟩, b.state = .inTransit ∧ b.dest = none ∧ b.bad = true) ∧
      (s.bay 7).kind = .reject 2 ∧ (s.bay 7).state = .ready ∧ ∀ j, (s.bay j).kind.isReject = true → j = 7) ∧
    WalkedWith 0x16 (.picker 0) (fun _ s => s.BayInv ∧ (∃ b ∈ s.boardAt ⟨.a, 1⟩, b.state = .inTransit ∧ b.dest = none ∧ b.bad = true) ∧
      (s.bay 7).kind = .reject 2 ∧ (s.bay 7).state ≠ .ready) ∧
    WalkedWith 0x16 (.picker 0) (fun _ s => s.BayInv ∧ (∃ b ∈ s.boardAt ⟨.a, 1⟩, b.bad = true) ∧ ∀ j, (s.bay j).kind.isReject = false) ∧
    WalkedWith 0x16 (.picker 0) (fun _ s => s.BayInv ∧ (∃ b ∈ s.boardAt ⟨.a, 1⟩, b.bad = false) ∧
      ([0, 1, 2, 3, 4, 5, 6, 7] : List BayId).findSome? (s.roomIn 3 250) = some ⟨0, 1, 5⟩) ∧
    WalkedWith 0x16 (.picker 0) (fun _ s => s.BayInv ∧ (∃ b ∈ s.boardAt ⟨.a, 1⟩, b.bad = false) ∧
      ([0, 1, 2, 3, 4, 5, 6, 7] : List BayId).findSome? (s.roomIn 3 251) = none ∧ ceilDiv 251 50 ≤ 6) ∧
    WalkedWith 0x16 (.picker 0) (fun _ s => s.BayInv ∧ (∃ b ∈ s.boardAt ⟨.a, 1⟩, b.bad = false) ∧
      ([0, 1, 2, 3, 4, 5, 6, 7] : List BayId).findSome? (s.roomIn 3 301) = none ∧ 6 < ceilDiv 301 50) ∧
    WalkedWith 0x16 (.picker 0) (fun _ s => s.BayInv ∧ (∃ b ∈ s.boardAt ⟨.a, 1⟩, b.bad = false) ∧
      ([0, 1, 2, 3, 4, 5, 6, 7] : List BayId).findSome? (s.roomIn 4 85) = none) ∧
    ((cell.bay 0).kind = .normal 3 6 50 .up ∧ (cell.bay 0).table ≠ none ∧ (cell.bay 7).kind = .reject 2) :=
  ⟨walkedWith [] (lined .idle .closed) rfl rfl ⟨cell_bays_in_range _ rfl rfl (by decide), by decide⟩,
    walkedWith [] (carrying true 3 85) rfl rfl ⟨cell_bays_in_range _ rfl rfl (by decide), ⟨_, rfl, by decide⟩, by decide⟩,
    walkedWith [] (setBay 7 { bay7 with state := .full } (carrying true 3 85)) rfl rfl 
      ⟨bays_in_range _ rfl (bay7_ok .full (.inr rfl)) (by decide), ⟨_, rfl, by decide⟩, by decide⟩,
    walkedWith [] (setBay 7 Bay.initial (carrying true 3 85)) rfl rfl 
      ⟨bays_in_range _ rfl initial_bay_ok (by decide), ⟨_, rfl, by decide⟩, by decide⟩,
    walkedWith [] (carrying false 3 250) rfl rfl ⟨cell_bays_in_range _ rfl rfl (by decide), ⟨_, rfl, by decide⟩, by decide⟩,
    walkedWith [] (carrying false 3 251) rfl rfl ⟨cell_bays_in_range _ rfl rfl (by decide), ⟨_, rfl, by decide⟩, by decide⟩,
    walkedWith [] (carrying false 3 301) rfl rfl ⟨cell_bays_in_range _ rfl rfl (by decide), ⟨_, rfl, by decide⟩, by decide⟩,
    walkedWith [] (carrying false 4 85) rfl rfl ⟨cell_bays_in_range _ rfl rfl (by decide), ⟨_, rfl, by decide⟩, by decide⟩, by decide⟩

/-- An open placement of board 1 in the REJECT bay. -/
def rejecting : State :=
  { setBay 7 { bay7 with reserved := 2, state := .full } (gripped .holding .placing 0 (some ⟨7, 0, 1⟩)) with
    placements := [{ ref := ⟨.a, 1⟩, dest := ⟨7, 0, 1⟩, cycle := 9, sensed := none, deadline := 5000 }] }

theorem witness_PlacementsComeToAnEnd :
    (∃ x b, (placed0 .placing none).placements = [x] ∧ (placed0 .placing none).boardAt x.ref = some b ∧
      ((placed0 .placing none).bay x.dest.bay).kind = .normal 3 6 50 .up ∧ ((placed0 .placing none).bay x.dest.bay).table ≠ none) ∧
    (∃ x b, rejecting.placements = [x] ∧ rejecting.boardAt x.ref = some b ∧ (rejecting.bay x.dest.bay).kind = .reject 2) ∧
    HeardWith 0x25 .elevator (fun w s => byteNat w.payload 4 = 0 ∧ payloadByte w.payload 6 = 1 ∧
      (s.matched 0 (byteNat w.payload 5)).map Placement.ref = some ⟨.a, 1⟩ ∧ (s.boardAt ⟨.a, 1⟩).map BoardRec.state = some .placing) ∧
    HeardWith 0x25 .elevator (fun w s => byteNat w.payload 4 = 0 ∧ payloadByte w.payload 6 = 1 ∧
      (s.matched 0 (byteNat w.payload 5)).map Placement.ref = some ⟨.a, 1⟩ ∧ (s.boardAt ⟨.a, 1⟩).map BoardRec.state = some .inTransit) ∧
    HeardWith 0x25 .elevator (fun w s => byteNat w.payload 4 = 7 ∧ payloadByte w.payload 6 = 0 ∧
      (s.matched 7 (byteNat w.payload 5)).map Placement.ref = some ⟨.a, 1⟩ ∧ s.boardAt ⟨.a, 1⟩ ≠ none) ∧
    (∃ x, (placed0 .placing none).inReset = false ∧ (placed0 .placing none).placements.find? (fun y => y.ref == x.ref) = some x) :=
  ⟨⟨_, _, rfl, rfl, by decide⟩, ⟨_, _, rfl, rfl, by decide⟩, heardWith [0, 1, 1] (placed0 .placing none) rfl rfl (by decide),
    heardWith [0, 1, 1] (placed0 .inTransit none) rfl rfl (by decide), heardWith [7, 0, 0] rejecting rfl rfl (by decide),
    ⟨{ ref := ⟨.a, 1⟩, dest := dest0, cycle := 9, sensed := none, deadline := 5000 }, by decide⟩⟩

/-- Bay 0 with one slot SKIPPED and, where asked, one RESERVED for the open placement of `placed0`. -/
def skippedSlot : State :=
  withBay { bay0 with table := some { slots := [.skipped, .occupied none, .empty, .empty, .empty, .empty], cursor := 2 } }

theorem witness_StrayPlaceIsAccountedFor :
    HeardWith 0x25 .elevator (fun w _ => payloadByte w.payload 6 = 1 ∧ 8 ≤ byteNat w.payload 4) ∧
    HeardWith 0x25 .elevator (fun w s => payloadByte w.payload 6 = 1 ∧ byteNat w.payload 4 = 1 ∧ s.matched 1 (byteNat w.payload 5) = none ∧
      (s.bay 1).state ≠ .ready ∧ (s.bay 1).state ≠ .full) ∧
    HeardWith 0x25 .elevator (fun w s => byteNat w.payload 4 = 7 ∧ s.matched 7 (byteNat w.payload 5) = none ∧ (s.bay 7).state = .ready ∧
      (s.bay 7).kind = .reject 2) ∧
    HeardWith 0x25 .elevator (fun w s => byteNat w.payload 4 = 0 ∧ s.matched 0 (byteNat w.payload 5) = none ∧ (s.bay 0).state = .ready ∧
      6 ≤ byteNat w.payload 5) ∧
    HeardWith 0x25 .elevator (fun w s => byteNat w.payload 4 = 0 ∧ (s.bay 0).table.bind (fun t => t.slots[byteNat w.payload 5]?) = some (.occupied none)) ∧
    HeardWith 0x25 .elevator (fun w s => s.matched 0 (byteNat w.payload 5) = none ∧ (s.bay 0).table.bind (fun t => t.slots[byteNat w.payload 5]?) = some .skipped) ∧
    HeardWith 0x25 .elevator (fun w s => s.matched 0 (byteNat w.payload 5) = none ∧
      (s.bay 0).table.bind (fun t => t.slots[byteNat w.payload 5]?) = some .empty ∧ (s.bay 0).table.map SlotTable.cursor = some 1 ∧ byteNat w.payload 5 = 5) ∧
    HeardWith 0x25 .elevator (fun w s => s.matched 0 (byteNat w.payload 5) = none ∧
      (s.bay 0).table.bind (fun t => t.slots[byteNat w.payload 5]?) = some (.reserved ⟨.a, 1⟩) ∧
      (s.placements.find? fun y => y.ref == (⟨.a, 1⟩ : BoardRef)) ≠ none) :=
  ⟨heardWith [8, 0, 1] cell rfl rfl (by decide), heardWith [1, 0, 1] cell rfl rfl (by decide), heardWith [7, 0, 1] cell rfl rfl (by decide),
    heardWith [0, 6, 1] cell rfl rfl (by decide), heardWith [0, 0, 1] cell rfl rfl (by decide), heardWith [0, 0, 1] skippedSlot rfl rfl (by decide),
    heardWith [0, 5, 1] cell rfl rfl (by decide), heardWith [0, 2, 1] (placed0 .placing none) rfl rfl (by decide)⟩

theorem witness_BayReportActsBayByBay : HeardWith 0x24 .elevator (fun _ _ => True) := heardWith [129] cell rfl rfl trivial

theorem witness_BaysAreConfiguredAndRead :
    AskedWith 0x5C (fun w _ => ¬byteNat w.payload 4 < 8) ∧ AskedWith 0x5C (fun w _ => byteNat w.payload 5 = 3) ∧
    AskedWith 0x5C (fun w _ => byteNat w.payload 4 = 0 ∧ byteNat w.payload 5 = 1 ∧ byteNat w.payload 6 = 0) ∧
    AskedWith 0x5C (fun w s => byteNat w.payload 4 = 0 ∧ byteNat w.payload 5 = 2 ∧ (s.bay 7).kind.isReject = true) ∧
    AskedWith 0x5C (fun w s => byteNat w.payload 4 = 0 ∧ byteNat w.payload 5 = 0 ∧ (s.bay 0).holdsPlacement = true) ∧
    AskedWith 0x5C (fun w s => byteNat w.payload 4 = 7 ∧ byteNat w.payload 5 = 2 ∧ (s.bay 7).holdsPlacement = false ∧
      ¬∃ j : BayId, j ≠ 7 ∧ (s.bay j).kind.isReject = true) ∧
    AskedWith 0x5D (fun w _ => 8 ≤ byteNat w.payload 4) ∧ AskedWith 0x5D (fun w s => byteNat w.payload 4 = 1 ∧ (s.bay 1).state = .inactive) ∧
    AskedWith 0x5D (fun w s => byteNat w.payload 4 = 0 ∧ (s.bay 0).state = .ready ∧ (s.bay 0).holdsPlacement = true) ∧
    AskedWith 0x5D (fun w s => byteNat w.payload 4 = 0 ∧ (s.bay 0).state = .ready ∧ (s.bay 0).holdsPlacement = false ∧ halfNat w.payload 5 = 6) ∧
    AskedWith 0x5D (fun w s => byteNat w.payload 4 = 7 ∧ (s.bay 7).kind = .reject 2 ∧ (s.bay 7).holdsPlacement = false ∧ halfNat w.payload 5 = 2) ∧
    AskedWith 0x5E (fun w _ => 8 ≤ byteNat w.payload 4) ∧ AskedWith 0x5E (fun w _ => 2 ≤ byteNat w.payload 5) ∧
    AskedWith 0x5E (fun w s => byteNat w.payload 4 = 1 ∧ byteNat w.payload 5 = 0 ∧ (s.bay 1).kind = .none) ∧
    AskedWith 0x5E (fun w s => byteNat w.payload 4 = 0 ∧ byteNat w.payload 5 = 0 ∧ (s.bay 0).kind = .normal 3 6 50 .up) ∧
    AskedWith 0x5E (fun w s => byteNat w.payload 4 = 7 ∧ byteNat w.payload 5 = 0 ∧ (s.bay 7).kind = .reject 2) ∧
    AskedWith 0x5E (fun w s => byteNat w.payload 4 = 7 ∧ byteNat w.payload 5 = 1 ∧ (s.bay 7).kind.isReject = true) ∧
    AskedWith 0x5E (fun w s => byteNat w.payload 5 = 1 ∧ (s.bay 0).kind = .normal 3 6 50 .up ∧ 6 ≤ byteNat w.payload 6) ∧
    AskedWith 0x5E (fun w s => byteNat w.payload 5 = 1 ∧ byteNat w.payload 6 < 6 ∧ (s.bay 0).table = none) ∧
    AskedWith 0x5E (fun w s => byteNat w.payload 5 = 1 ∧ byteNat w.payload 6 = 5 ∧ (s.bay 0).table.bind (fun t => t.slots[byteNat w.payload 6]?) = some .empty) :=
  ⟨askedWith [8, 0] cell rfl (by decide) (by decide), askedWith [0, 3] cell rfl (by decide) (by decide),
    askedWith [0, 1, 0] cell rfl (by decide) (by decide), askedWith [0, 2, 2] cell rfl (by decide) (by decide),
    askedWith [0, 0] (placed0 .placing none) rfl (by decide) (by decide), askedWith [7, 2, 2] cell rfl (by decide) (by decide),
    askedWith [8, 0] cell rfl (by decide) (by decide), askedWith [1, 0] cell rfl (by decide) (by decide),
    askedWith [0, 6] (placed0 .placing none) rfl (by decide) (by decide), askedWith [0, 6] cell rfl (by decide) (by decide),
    askedWith [7, 2] cell rfl (by decide) (by decide), askedWith [8, 0] cell rfl (by decide) (by decide),
    askedWith [0, 2] cell rfl (by decide) (by decide), askedWith [1, 0] cell rfl (by decide) (by decide),
    askedWith [0, 0] cell rfl (by decide) (by decide), askedWith [7, 0] cell rfl (by decide) (by decide),
    askedWith [7, 1] cell rfl (by decide) (by decide), askedWith [0, 1, 6] cell rfl (by decide) (by decide),
    askedWith [0, 1, 5] (withBay { bay0 with table := none, state := .uncertain }) rfl (by decide) (by decide),
    askedWith [0, 1, 5] cell rfl (by decide) (by decide)⟩

theorem reset_cut : State.CutInv { State.reset with pending := [.run (wire 62 [])] } := by
  refine ⟨fun i b h => ?_, by decide, by decide⟩
  have e : ∀ i : LaneId, (State.reset.lane i).binding = none := by decide
  change b ∈ (State.reset.lane i).binding at h
  rw [e i] at h
  cases h

theorem reset_custody : State.CustodyInv { State.reset with pending := [.run (wire 62 [])] } := ⟨by decide, by decide, by decide⟩

theorem reset_bay : State.BayInv { State.reset with pending := [.run (wire 62 [])] } := by
  refine ⟨fun i => ?_, by decide⟩
  have : ∀ i : BayId, State.reset.bay i = Bay.initial := by decide
  show ((State.reset.bay i)).Ok
  rw [this i]
  exact initial_bay_ok

theorem reset_place : State.PlaceInv { State.reset with pending := [.run (wire 62 [])] } := by
  refine ⟨List.nodup_nil, nofun, fun i => ?_, by decide⟩
  have h : State.reset.bay i = Bay.initial := by revert i; decide
  refine ⟨?_, ?_, ?_⟩
  · show (match (State.reset.bay i).kind, (State.reset.bay i).table with | .normal _ _ _ dir, some t => _ | _, _ => True)
    rw [h]; trivial
  · show (State.reset.bay i).FullOk
    rw [h]; trivial
  · show (State.reset.bay i).kind.isReject = true → _
    rw [h]; nofun

theorem witness_StepsKeepTheInvariants :
    ∃ s t : State, (State.LinkInv s ∧ State.RecipeInv s) ∧ State.LaneInv s ∧ (State.CustodyInv s ∧ State.CutInv s) ∧
      (State.BoardInv s ∧ State.BayInv s ∧ State.PlaceInv s) ∧ step s = .next t ∧ s.pending ≠ [] :=
  ⟨{ State.reset with pending := [.run (wire 62 [])] }, _, ⟨by decide, by decide⟩, by decide, ⟨reset_custody, reset_cut⟩,
    ⟨by decide, reset_bay, reset_place⟩, rfl, by decide⟩

/-! ### What the well-formedness checks refuse -/

theorem test_spinStart_with_speed_0_is_refused : (Instr.spinStart (wire 11 [0, 0])).wellFormed = false := by decide
theorem test_spinStop_with_a_speed_is_refused : (Instr.spinStop (wire 11 [0, 1])).wellFormed = false := by decide
theorem test_undefinedRequest_below_5Fh_is_refused : (Instr.undefinedRequest 0x5E (wire 62 [])).wellFormed = false := by decide
theorem test_undefinedRequest_above_7Fh_is_refused : (Instr.undefinedRequest 0x80 (wire 62 [])).wellFormed = false := by decide
theorem test_placeTimerExpiry_of_board_64_is_refused : (Instr.placeTimerExpiry .a 64).wellFormed = false := by decide

/-! ### The spec's worked values -/

/-- R166's check word by hand: "123456789" gives FC891918h under this polynomial, start value and inversion. -/
theorem test_check_word : crc32 [0x31, 0x32, 0x33, 0x34, 0x35, 0x36, 0x37, 0x38, 0x39] = 0xFC891918 := by decide +kernel

/-- R44's worked cases. -/
theorem test_feed_clamp :
    appliedFeed 40 70 none = 28 ∧ appliedFeed 40 70 (some 20) = 20 ∧ appliedFeed 3 25 none = 1 ∧ appliedFeed 0 100 none = 1 ∧
    appliedFeed 250 85 none = 170 ∧ appliedFeed 80 85 (some 30) = 30 := by decide

/-- R101's worked increments, and the largest. -/
theorem test_wear_increments :
    wearIncrement 300 40 = 244 ∧ wearIncrement 412 38 = 328 ∧ wearIncrement 180 131 = 274 ∧ wearIncrement 5 0 = 3 ∧
    wearIncrement 1 200 = 2 ∧ wearIncrement 1000 255 = 2063 ∧ wearIncrement 0 255 = 0 ∧ wearIncrement 65535 255 = 135166 := by decide

/-- R85's spans in the worked examples of chapter 5. -/
theorem test_spans : spanOf 95 40 = 3 ∧ spanOf 120 30 = 4 ∧ spanOf 400 100 = 4 ∧ spanOf 400 30 = 14 ∧ spanOf 5 200 = 1 := by decide

/-- The worked example of R141: room for two, three pending ABORTs and SPIN-stops, and lane 3's stop already in the frame. -/
theorem test_crowded_frame :
    let p (l : Lane) (a s : Bool) (f : Option Nat) : Lane := { l with pend := { abort := a, stop := s, feed := f } }
    let s : State := { cell with lanes := #v[lane0, p lane0 true true none, p lane0 false false (some 70), p lane0 true true none] }
    let r := s.inserted (List.replicate 21 (itemOf 0x13 (wire 15 [0, 0])) ++ [itemOf 0x11 (wire 14 [0, 0])])
    (r.2.drop 22).map (fun it => (it.kind, it.addr)) = [(0x18, 12), (0x18, 14)] ∧
    (r.1.lanes.toList.map fun l => (l.pend.abort, l.pend.stop, l.pend.feed)) =
      [(false, false, none), (false, true, none), (false, false, some 70), (false, false, none)] := by decide

/-! ### One step of a command -/

theorem test_step_idles_on_an_empty_queue : (match step cell with | .next t => t.now | _ => 99) = 1 := by decide

theorem test_table_words_spell_no_command : decodeTableWord 8 0 = none ∧ (cell.withFetchWord 8 0).pending = [] := by decide

theorem test_frameArrival_counts_a_failed_frame : (after (.frameArrival .d []) cell).portD.errors = 8 := by decide

theorem test_frameArrival_takes_the_255th_error :
    let t := after (.frameArrival .u []) { cell with portU := { state := .up, errors := 248, degraded := true, run := 0 } }
    t.portU.state = .down ∧ t.line.state = .held := by decide

theorem test_itemPass_passes_an_ABORT :
    sentOf (after (.itemPass 0x18 (wire 11 [])) (walk 0x18 11 [] cell)) = some (itemOf 0x18 (wire 11 [])) := by decide

theorem test_cut_is_admitted_with_the_capped_feed :
    sentOf cutting = some (itemOf 0x10 (wire 11 [0, 0, 20, 0, 4, 0])) ∧ (cutting.lane 0).cutTimer = some 10000 ∧
    ((cutting.nest .a).boards.map BoardRec.uncut) = [1, 1] := by decide

theorem test_cut_of_the_last_tab_needs_the_board_held :
    refusalOf (after (.cut (wire 11 [0, 2, 40])) (walk 0x10 11 [0, 2, 40] cell)) = some .holdRequired := by decide

theorem test_spinStart_is_clamped :
    (let t := after (.spinStart (wire 11 [9, 0])) (walk 0x11 11 [9, 0] cell)
     ((t.lane 0).commanded, (t.lane 0).spindle) = (some 10, .runningUp) ∧ sentOf t = some (itemOf 0x11 (wire 11 [10, 0]))) := by decide

theorem test_spinStop_passes_on_a_held_line :
    ((after (.spinStop (wire 11 [0, 0])) (walk 0x11 11 [0, 0] (lined .held .opened))).lane 0).spinDownTimer = some 4000 := by decide

theorem test_feed_is_scaled_by_the_override :
    sentOf (after (.feed (wire 11 [70])) (walk 0x12 11 [70] (withLane { lane0 with gov := { Governor.initial with override := 55 } }))) =
      some (itemOf 0x12 (wire 11 [38])) := by decide

theorem test_grip_binds_the_board :
    let t := after (.grip (wire 15 [0, 1])) (walk 0x13 15 [0, 1] cell)
    ((t.picker 0).state, (t.boardAt ⟨.a, 1⟩).bind BoardRec.picker) = (.closing, some 0) := by decide

theorem test_open_of_a_freed_board_is_voided :
    refusalOf (after (.openJaws (wire 15 [])) (walk 0x14 15 [] (gripped .holding .freed 0 none))) = some .notPlaced := by decide

theorem test_open_places_a_board_in_transit :
    let t := after (.openJaws (wire 15 [])) (walk 0x14 15 [] (placed0 .inTransit none))
    ((t.picker 0).state, (t.boardAt ⟨.a, 1⟩).map BoardRec.state) = (.opening, some .placing) := by decide

theorem test_lift_takes_a_freed_board :
    ((after (.lift (wire 15 [])) (walk 0x15 15 [] (gripped .holding .freed 0 none))).boardAt ⟨.a, 1⟩).map BoardRec.state = some .inTransit := by decide

theorem test_place_reserves_slots_1_and_2 :
    sentOf (after (.place (wire 15 [])) (walk 0x16 15 [] (carrying false 3 85))) = some (itemOf 0x16 (wire 15 [0, 1, 2])) := by decide

theorem test_place_of_a_bad_board_fills_the_reject_bay :
    ((after (.place (wire 15 [])) (walk 0x16 15 [] (setBay 7 { bay7 with placed := 1 } (carrying true 3 85)))).bay 7).state = .full := by decide

theorem test_shuttle_moves_and_is_blocked :
    (after (.shuttle (wire 18 [])) (walk 0x17 18 [] cell)).table = .moving ∧
    refusalOf (after (.shuttle (wire 18 [])) (walk 0x17 18 [] cutting)) = some .shuttleBlocked := by decide

theorem test_insertion_sends_the_frame :
    ((after .insertion walked).sentD.map fun b => b.take 8) = [[0x01, 1, 9, 0, 11, 0x12, 5, 0]] := by decide +kernel

theorem test_haltFrame_voids_a_grip :
    let s : State := { cell with down := [{ isHalt := true, cycle := 9, todo := [itemOf 0x13 (wire 15 [0, 1])], out := [] }] }
    refusalOf (after .haltFrame s) = some .halted := by decide +kernel

theorem test_returnFill_sends_notices :
    ((after .returnFill { post 0 (.portDown .d) cell with up := [{ cycle := 9, items := [], todo := [] }] }).sentU.map fun b => b.take 6) =
      [[0x02, 1, 9, 0, 62, 0x2F]] := by decide +kernel

theorem test_cutDone_COMPLETE_of_the_last_tab_frees_a_held_board :
    let t := after (.cutDone (wire 11 [0, 2, 1, 38, 0x9C, 1])) (hear 0x20 11 [0, 2, 1, 38, 0x9C, 1] (lastCut .held (some 0) .holding))
    ((t.boardAt ⟨.a, 1⟩).map BoardRec.state, (t.lane 0).state, (t.lane 0).life.wear) = (some .freed, .ready, 328) := by decide

theorem test_cutDone_ABORTED_faults_the_tab :
    let t := after (.cutDone (wire 11 [0, 0, 2, 0, 0, 0])) (hear 0x20 11 [0, 0, 2, 0, 0, 0] cutting)
    ((t.nest .a).tabs.map fun x => (x.state, x.faults)) = [(.faulted, 1), (.intact, 0), (.intact, 0)] := by decide

/-- R117: at a commanded 180, a report of 171 is at speed and one of 170 is not. -/
theorem test_laneState_95_percent :
    let s := withLane { lane0 with spindle := .runningUp, commanded := some 180 }
    ((after (.laneState (wire 11 [171, 0, 0, 0])) (hear 0x21 11 [171, 0, 0, 0] s)).lane 0).spindle = .atSpeed ∧
    ((after (.laneState (wire 11 [170, 0, 0, 0])) (hear 0x21 11 [170, 0, 0, 0] s)).lane 0).spindle = .runningUp := by decide

theorem test_gripState_takes_the_hold :
    let t := after (.gripState (wire 15 [1, 1])) (hear 0x22 15 [1, 1] (gripped .closing .attached 1 none))
    ((t.picker 0).state, (t.boardAt ⟨.a, 1⟩).map BoardRec.state) = (.holding, some .held) := by decide

theorem test_gripState_loses_a_board_in_transit :
    let t := after (.gripState (wire 15 [0, 0])) (hear 0x22 15 [0, 0] (placed0 .inTransit none))
    ((t.boardAt ⟨.a, 1⟩).map BoardRec.state, t.placements, (t.bay 0).table.map fun x => x.slots.getD 1 .empty) =
      (some .lost, [], some .skipped) := by decide

theorem test_tableState_unexpected_move :
    let t := after (.tableState (wire 18 [60, 60, 1])) (hear 0x23 18 [60, 60, 1] cutting)
    (t.table, (t.nest .a).lastVacuum) = (.b, some 60) := by decide

/-- R31, R27, R66: the ABORTs such a report gives. -/
theorem test_abortBound_aborts : ((abortBound (fun _ => true) cutting).lane 0).pend.abort = true := by
  unfold abortBound State.lane
  rw [Fin.getElem_fin, Vector.getElem_map]; decide

theorem test_bayState_removal_makes_the_bay_absent :
    let t := after (.bayState (wire 17 [0x80])) (hear 0x24 17 [0x80] cell)
    ((t.bay 0).state, (t.bay 7).state) = (.absent, .ready) := by decide

theorem test_placeDone_stacks_the_board :
    let t := after (.placeDone (wire 17 [0, 1, 1])) (hear 0x25 17 [0, 1, 1] (placed0 .placing none))
    ((t.boardAt ⟨.a, 1⟩).map BoardRec.state, t.placements) = (some .stacked, []) := by decide

theorem test_cutTimerExpiry_faults_without_a_count :
    let t := after (.cutTimerExpiry 0) cutting
    ((t.lane 0).state, (t.lane 0).pend.abort, t.now, ((t.nest .a).tabs.map fun x => (x.state, x.faults)).head?) =
      (.error, true, 10000, some (.faulted, 0)) := by decide

theorem test_jawTimerExpiry_jams_an_opening_picker :
    ((after (.jawTimerExpiry 0) (withPicker { Picker.cleared with state := .opening, jawTimer := some 9 })).picker 0).state = .jammed := by decide

theorem test_placeTimerExpiry_loses_the_board :
    let t := after (.placeTimerExpiry .a 1) (placed0 .placing none)
    ((t.boardAt ⟨.a, 1⟩).map BoardRec.state, (t.bay 0).table.map fun x => x.cursor) = (some .lost, some 3) := by decide

theorem test_spinDownTimerExpiry_latches_SPINDOWN :
    let s := withLane { lane0 with spindle := .spinningDown, spinDownTimer := some 9, recoveryMode := .auto }
    ((after (.spinDownTimerExpiry 0) s).lane 0).state = .error := by decide

theorem test_recoveryTimerExpiry_restores :
    let s := withLane { lane0 with state := .recovering, causes := Causes.none.add .overload, recoveryTimer := some 9, spindle := .stopped }
    ((after (.recoveryTimerExpiry 0) s).lane 0).state = .ready := by decide

theorem test_coolDownTimerExpiry_steps_down :
    let s := withLane { lane0 with
      lastLoad := some 101, gov := { Governor.initial with state := .stepped, override := 85, coolTimer := some 9 } }
    ((after (.coolDownTimerExpiry 0) s).lane 0).gov.override = 70 := by decide

theorem test_restoreTimerExpiry_returns_to_NORMAL :
    let s := withLane { lane0 with lastLoad := some 80, gov := { Governor.initial with state := .fallback, restoreTimer := some 9 } }
    ((after (.restoreTimerExpiry 0) s).lane 0).gov.state = .normal := by decide

theorem test_cycleWatchdogExpiry_holds_the_line :
    let t := after .cycleWatchdogExpiry { cutting with line := { cutting.line with watchdog := some 20 } }
    t.line.state = .held ∧ (t.sentD.map fun b => b.take 6) = [[0x03, 5, 0, 0, 11, 0x18]] := by decide +kernel

theorem test_stopsenseChange_starts_the_filter :
    (after (.stopsenseChange false) { cell with pins := { cell.pins with stopSense := true } }).line.filterTimer = some { high := false, ends := 5 } := by
  decide

theorem test_filterTimerExpiry_holds_the_line :
    (after .filterTimerExpiry { cell with line := { cell.line with filterTimer := some { high := false, ends := 5 } } }).line.state = .held := by decide

/-- R156: a reading of 63 is taken as 62. -/
theorem test_powerOnReset_reads_the_straps :
    (after (.powerOnReset 63) cell).line.ownAddr = 62 ∧ (after (.powerOnReset 5) cell).line.ownAddr = 5 := by decide

theorem test_pinReset_keeps_the_wear : ((after (.pinReset 5) wornCell).lane 0).life.wear = 500 := by
  show (Vector.map Lane.pinReset wornCell.lanes)[(0 : Fin 4)].life.wear = 500
  rw [Fin.getElem_fin, Vector.getElem_map]; decide

theorem test_resets_begin :
    (after .supplyApplied walked).down = [] ∧ (after .nresetAssert walked).inReset = true := by decide

theorem test_statusRead_shows_part_0 :
    answerOf (after (.statusRead (wire 62 [0])) (walk 0x40 62 [0] cell)) = some (.done, [1, 0, 1, 0, 0, 0xFF, 0, 0, 0, 62, 0]) := by decide

theorem test_run_on_a_running_line_is_refused :
    answerOf (after (.run (wire 62 [])) (walk 0x41 62 [] cell)) = some (.state, [1, 0]) := by decide

theorem test_halt_idles_the_line : (after (.halt (wire 62 [])) (walk 0x42 62 [] cell)).line.state = .idle := by decide

theorem test_reset_empties_the_nests :
    let t := after (.reset (wire 62 [])) (walk 0x43 62 [] cutting)
    ((t.nest .a).state, t.table, t.line.state) = (.empty, .unknown, .idle) := by decide

theorem test_roleSet_frees_an_entry :
    (after (.roleSet (wire 62 [7, 0xFF])) (walk 0x44 62 [7, 0xFF] cell)).addrOf .table = none := by decide

theorem test_timingSet_clamps :
    let t := after (.timingSet (wire 62 [0, 1, 0])) (walk 0x45 62 [0, 1, 0] cell)
    t.timing.watchdog = 2 ∧ answerOf t = some (.clamped, [0, 2, 0]) := by decide

theorem test_alertMask_drives_the_output :
    let s := setBay 0 { bay0 with state := .full } cell
    s.alertOut = true ∧ (after (.alertMask (wire 62 [0xEF])) (walk 0x46 62 [0xEF] s)).alertOut = false := by decide

theorem test_lock_sets_one : (after (.lock (wire 62 [0, 1])) (walk 0x47 62 [0, 1] cell)).line.limitLock = true := by decide

theorem test_laneConfig_activates_a_lane :
    let t := after (.laneConfig (wire 62 [0, 1, 0, 50, 0, 244, 1, 100, 0])) (walk 0x48 62 [0, 1, 0, 50, 0, 244, 1, 100, 0] (withLane Lane.initial))
    ((t.lane 0).state, (t.lane 0).cutTimeout, (answerOf t).map Prod.fst) = (.ready, 100, some .clamped) := by decide

theorem test_governorSet_under_the_lock :
    (answerOf (after (.governorSet (wire 62 [0, 0, 5])) (walk 0x49 62 [0, 0, 5] locked))).map Prod.fst = some .locked := by decide

theorem test_lifeSet_brings_the_warn_level_under_the_limit :
    let t := after (.lifeSet (wire 62 [0, 1, 0, 2, 0, 0, 1, 0])) (walk 0x4A 62 [0, 1, 0, 2, 0, 0, 1, 0] cell)
    ((t.lane 0).life.warn, (t.lane 0).life.limit) = (256, 256) := by decide

theorem test_wearPreset_refuses_to_lower :
    answerOf (after (.wearPreset (wire 62 [0, 243, 1])) (walk 0x4B 62 [0, 243, 1] wornCell)) = some (.state, []) := by decide

theorem test_bitChange_tells_the_old_wear :
    answerOf (after (.bitChange (wire 62 [0, 9, 0])) (walk 0x4C 62 [0, 9, 0] wornCell)) = some (.done, [0, 0, 0xF4, 1, 0, 9, 0]) := by decide

theorem test_laneClear_restores :
    let s := withLane { lane0 with state := .error, spindle := .stopped, causes := Causes.none.add .spindown }
    answerOf (after (.laneClear (wire 62 [0])) (walk 0x4D 62 [0] s)) = some (.done, [1, 0]) := by decide

theorem test_laneRead_shows_the_life_record :
    answerOf (after (.laneRead (wire 62 [0, 3])) (walk 0x4E 62 [0, 3] wornCell)) =
      some (.done, [0, 0, 0xF4, 1, 0, 0xFF, 0xFF, 0xFF, 0xFF, 0xFF, 0xFF, 1, 0, 0, 0, 0, 0x0B, 0xFE, 0xFF]) := by decide

theorem test_recipeOpen_reserves :
    answerOf (after (.recipeOpen (wire 62 [1, 3, 6, 0, 0])) (walk 0x4F 62 [1, 3, 6, 0, 0] cell)) = some (.done, [251, 0, 247, 3]) := by decide

theorem test_recipeBoards_stores :
    ((after (.recipeBoards (wire 62 [17, 0, 7, 0])) (walk 0x50 62 [17, 0, 7, 0] (building none none))).recipe 1).boards = [some ⟨3, 5, 4⟩] := by decide

theorem test_recipeTabs_stores_no_cap_for_0 :
    ((after (.recipeTabs (wire 62 [17, 0, 0, 0])) (walk 0x51 62 [17, 0, 0, 0] (building none none))).recipe 1).tabs = [some ⟨0, none⟩] := by decide

theorem test_recipeFinish_names_the_failed_check :
    answerOf (after (.recipeFinish (wire 62 [1])) (walk 0x52 62 [1] (building (some ⟨3, 85, 2⟩) (some ⟨0, none⟩)))) = some (.inconsistent, [3, 0]) := by decide

theorem test_recipeDrop_in_use :
    (answerOf (after (.recipeDrop (wire 62 [0])) (walk 0x53 62 [0] cell))).map Prod.fst = some .inUse := by decide

theorem test_recipeRead_shows_a_tab :
    answerOf (after (.recipeRead (wire 62 [0, 2, 0])) (walk 0x54 62 [0, 2, 0] cell)) = some (.done, [1, 0, 20]) := by decide

theorem test_nestLoad_builds_the_panel :
    let t := after (.nestLoad (wire 62 [1, 0, 8, 0, 2])) (walk 0x55 62 [1, 0, 8, 0, 2] cell)
    answerOf t = some (.done, [2, 3, 0, 1]) ∧ ((t.nest .b).boards.map fun b => (b.bad, b.uncut)) = [(false, 2), (true, 1)] ∧
    (t.recipe 0).useCount = 2 := by decide

theorem test_nestUnload_counts_the_attached :
    answerOf (after (.nestUnload (wire 62 [0])) (walk 0x56 62 [0] cell)) = some (.done, [2]) := by decide

theorem test_nestClear_needs_the_vacuum :
    answerOf (after (.nestClear (wire 62 [0])) (walk 0x57 62 [0] (flagged (some 39)))) = some (.state, []) ∧
    answerOf (after (.nestClear (wire 62 [0])) (walk 0x57 62 [0] (flagged (some 40)))) = some (.done, []) := by decide

theorem test_nestRead_shows_the_nest :
    answerOf (after (.nestRead (wire 62 [0])) (walk 0x58 62 [0] cell)) =
      some (.done, [1, 0, 1, 60, 40, 0, 0, 7, 0, 2, 0, 3, 0, 0, 0, 0]) := by decide

theorem test_boardRead_shows_the_board :
    answerOf (after (.boardRead (wire 62 [0, 0, 0])) (walk 0x59 62 [0, 0, 0] cell)) = some (.done, [0, 2, 1, 3, 85, 0, 0, 0, 0, 0]) := by decide

theorem test_tabRead_shows_a_cutting_tab :
    answerOf (after (.tabRead (wire 62 [0, 0])) (walk 0x5A 62 [0, 0] cutting)) = some (.done, [0, 1, 1, 0, 0, 0, 0, 0]) := by decide

theorem test_pickerClear_of_a_holding_picker :
    answerOf (after (.pickerClear (wire 62 [0])) (walk 0x5B 62 [0] (gripped .holding .held 1 none))) =
      some (.state, [2, 1, 0, 1, 0, 0, 0, 0]) := by decide

theorem test_bayConfig_clamps_the_slots :
    answerOf (after (.bayConfig (wire 62 [1, 1, 3, 121, 50, 0])) (walk 0x5C 62 [1, 1, 3, 121, 50, 0] cell)) = some (.clamped, [1]) := by decide

theorem test_bayPreset_to_the_limit_fills :
    let t := after (.bayPreset (wire 62 [0, 9, 0])) (walk 0x5D 62 [0, 9, 0] cell)
    (t.bay 0).state = .full ∧ answerOf t = some (.clamped, [3]) := by decide

theorem test_bayRead_shows_a_slot :
    answerOf (after (.bayRead (wire 62 [0, 1, 1])) (walk 0x5E 62 [0, 1, 1] (placed0 .placing none))) =
      some (.done, [1, 1, 1, 0, 1, 9, 0, 136, 19]) := by decide

theorem test_undefinedRequest_is_a_bad_argument :
    answerOf (after (.undefinedRequest 0x7F (wire 62 [])) (walk 0x7F 62 [] cell)) = some (.badArgument, []) := by decide

end Sys2Proof.Tests
end

