-- ==== Sys2Proof/Proofs/Shuttle.lean ====
section
/-! The SHUTTLE item (R28, R29): when the nest at work is engaged, how the item is judged, and what its command comes to. -/

namespace Sys2Proof.Machine

/-! ### The nest at work -/

/-- R27, R28: the model's test for an engaged nest is the relation the statements name. -/
theorem State.engaged_iff (s : State) (n : Nest) : s.engaged n = true ↔ s.Engaged n := by
  simp only [State.engaged, State.Engaged, Bool.or_eq_true, List.any_eq_true, decide_eq_true_eq, or_assoc]
  refine or_congr_right (exists_congr fun b => and_congr_right fun _ => or_congr_right (or_congr_right ?_))
  cases b.picker with
  | none => simp
  | some p => simp

/-- R26: there is a nest at work only in positions A and B. -/
theorem WorkPos.nest?_any_iff (pos : WorkPos) (P : Nest → Bool) :
    pos.nest?.any P = true ↔ (pos = .a ∧ P .a = true) ∨ (pos = .b ∧ P .b = true) := by
  cases pos <;> simp [WorkPos.nest?]

/-- R28: the nest at work is engaged. -/
theorem State.nestAtWork_engaged_iff (s : State) :
    s.table.nest?.any s.engaged = true ↔ (s.table = .a ∧ s.Engaged .a) ∨ (s.table = .b ∧ s.Engaged .b) := by
  simp only [WorkPos.nest?_any_iff, State.engaged_iff]

/-! ### Judging a SHUTTLE -/

section Judge
variable {s : State} (cycle : Half) (it : Item)

theorem judgeShuttle_halted (h : s.line.state ≠ .running) : judgeShuttle cycle it () s = .void .halted s [] := by
  rw [judgeShuttle, if_pos h]

theorem judgeShuttle_blocked (hrun : s.line.state = .running) (hb : s.table.nest?.any s.engaged = true) :
    judgeShuttle cycle it () s = .void .shuttleBlocked s [] := by
  rw [judgeShuttle, if_neg (not_not_intro hrun), if_pos hb]

theorem judgeShuttle_moves (hrun : s.line.state = .running) (hb : ¬s.table.nest?.any s.engaged = true) :
    judgeShuttle cycle it () s = .pass { s with table := .moving } it := by
  rw [judgeShuttle, if_neg (not_not_intro hrun), if_neg hb]

end Judge

/-! ### The command -/

section Command
variable {s : State} {f : DownFrame} {rest : List DownFrame} {w : Wire} {more : List Item}

/-- R137: a SHUTTLE at the table's address is settled as it is judged. -/
theorem exec_shuttle (h : s.Walking f rest (itemOf 0x17 w) more) (hr : s.RoleItem .table w) :
    exec (.shuttle w) s =
      .next ((settle (itemOf 0x17 w) (judgeShuttle f.cycle (itemOf 0x17 w) () s)).1.walkedOn f rest more
        (settle (itemOf 0x17 w) (judgeShuttle f.cycle (itemOf 0x17 w) () s)).2) :=
  congrArg Host.Outcome.next (walkGated_role (belongs := Role.table?) h hr rfl judgeShuttle)

/-- R139: a SHUTTLE judged refused is voided in place. -/
theorem exec_shuttle_void (h : s.Walking f rest (itemOf 0x17 w) more) (hr : s.RoleItem .table w) {code : RefusalCode}
    (hj : judgeShuttle f.cycle (itemOf 0x17 w) () s = .void code s []) :
    exec (.shuttle w) s = .next (s.voidedOn f rest 0x17 w more code) := by
  rw [exec_shuttle h hr, hj]
  rfl

/-- A SHUTTLE judged admitted goes on as the judgement leaves it. -/
theorem exec_shuttle_pass (h : s.Walking f rest (itemOf 0x17 w) more) (hr : s.RoleItem .table w) {s' : State} {it : Item}
    (hj : judgeShuttle f.cycle (itemOf 0x17 w) () s = .pass s' it) :
    exec (.shuttle w) s = .next (s'.walkedOn f rest more it) := by
  rw [exec_shuttle h hr, hj]
  rfl

end Command

/-- Settles O45: each clause is one judgement of `judgeShuttle`, carried through the walk. -/
theorem shuttleNeedsAFreeNest : Obligations.ShuttleNeedsAFreeNest := by
  intro w s f rest more h hr blocked
  have hblocked : s.table.nest?.any s.engaged = true ↔ blocked := s.nestAtWork_engaged_iff
  refine ⟨fun hline => ?halted, fun hrun hb => ?blocked, fun hrun hb => ?moves⟩
  case halted => exact exec_shuttle_void h hr (judgeShuttle_halted _ _ hline)
  case blocked => exact exec_shuttle_void h hr (judgeShuttle_blocked _ _ hrun (hblocked.mpr hb))
  case moves => exact exec_shuttle_pass h hr (judgeShuttle_moves _ _ hrun (mt hblocked.mp hb))

end Sys2Proof.Machine
end

