-- ==== Sys2Proof/Proofs/CutGate.lean ====
section
/-! The cut gate (R39 to R44, R46, R53): the admission checks, the feed clamp, and which reports match a cut. -/

namespace Sys2Proof.Machine

/-! ### Checks in order

A check is one entry of a list for the statements, and one `if … then .error … else …` in the model. -/

theorem firstFailing_cons (ok : Bool) (code : RefusalCode) (rest : List (Bool × RefusalCode)) :
    firstFailing ((ok, code) :: rest) = if ok = true then firstFailing rest else some code := by
  cases ok <;> rfl

/-- The code a check refuses with, if it refuses. -/
def refusalIn {α : Type} : Except RefusalCode α → Option RefusalCode
  | .error code => some code
  | .ok _ => none

section Guard
variable {α : Type} {r : Except RefusalCode α} {code : RefusalCode} (P : Prop) [Decidable P]

theorem refusalIn_eq_some : refusalIn r = some code ↔ r = .error code := by cases r <;> simp [refusalIn]

theorem refusalIn_eq_none : refusalIn r = none ↔ ∃ x, r = .ok x := by cases r <;> simp [refusalIn]

theorem refusalIn_guard : refusalIn (if P then .error code else r) = if ¬P then refusalIn r else some code := by
  split <;> simp_all [refusalIn]

theorem guard_or (a b : Option RefusalCode) :
    (if P then some code else a).or b = if ¬P then a.or b else some code := by
  split <;> simp_all

variable {P}

theorem guard_eq_ok {x : α} : (if P then .error code else r) = .ok x ↔ ¬P ∧ r = .ok x := by
  split <;> simp_all

end Guard

/-! ### The admission checks of a CUT -/

section Checks
variable {s : State} {i : LaneId} {p : Payload} {n : Nest}

/-- R39: the first six entries of the list are checks 1 to 4, on the line, the lane and its spindle. -/
theorem firstFailing_cutChecks_lane :
    firstFailing (cutChecks s i p) = (checkLane s (s.lane i)).or (firstFailing ((cutChecks s i p).drop 6)) := by
  simp only [cutChecks, List.drop_succ_cons, List.drop_zero, firstFailing_cons, decide_eq_true_eq, checkLane, guard_or,
    Option.none_or, not_or, ne_eq, not_not, Bool.not_eq_true]

/-- R41: a board that must be held is, or enough tabs would still hold it. -/
theorem holdRule_iff (b : BoardRec) : ¬holdRule b = false ↔ b.hold ≤ b.uncut - 1 ∨ b.state = .held := by
  simp only [holdRule, Bool.not_eq_false, Bool.or_eq_true, decide_eq_true_eq]

/-- R40, R41: the last four entries are checks 6 to 9, on the tab and its board. -/
theorem firstFailing_cutChecks_tab (hn : nestOfByte (payloadByte p 4) = some n) :
    firstFailing ((cutChecks s i p).drop 9) = refusalIn (checkTab (s.nest n) n (byteNat p 5)) := by
  simp only [cutChecks, hn, List.drop_succ_cons, List.drop_zero, Option.bind_some, checkTab]
  cases ht : (s.nest n).tabs[byteNat p 5]? with
  | none => rfl
  | some t =>
    simp only [Option.bind_some, Option.isSome_some, Option.any_some, firstFailing_cons, decide_eq_true_eq, refusalIn_guard,
      if_true, ne_eq, not_and_or, not_not]
    cases hb : (s.nest n).boards[t.board]? with
    | none => rfl
    | some b =>
      simp only [Option.any_some, decide_eq_true_eq, refusalIn_guard, not_and_or, not_not, holdRule_iff]
      rfl

/-- R40: the last seven entries are checks 5 to 9, on the nest, the tab and its board. -/
theorem firstFailing_cutChecks_nest :
    firstFailing ((cutChecks s i p).drop 6) = refusalIn (checkNest s (payloadByte p 4) (byteNat p 5)) := by
  cases hn : nestOfByte (payloadByte p 4) with
  | none => simp only [cutChecks, hn, checkNest]; rfl
  | some n =>
    have htab := firstFailing_cutChecks_tab (s := s) (i := i) hn
    simp only [checkNest, hn, refusalIn_guard, ← htab]
    simp only [cutChecks, hn, List.drop_succ_cons, List.drop_zero, Option.any_some, firstFailing_cons, decide_eq_true_eq,
      ne_eq, not_not, Bool.not_eq_true, Bool.not_eq_true']

/-- R39 to R41: the model refuses a CUT with the code of the first check of the list that fails. -/
theorem firstFailing_cutChecks : firstFailing (cutChecks s i p) = refusalIn (checkCut s i p) := by
  rw [firstFailing_cutChecks_lane, firstFailing_cutChecks_nest, checkCut]
  cases checkLane s (s.lane i) <;> rfl

theorem checkTab_ok {r : NestRec} {tab : Nat} {t : CutTarget} (h : checkTab r n tab = .ok t) :
    t.nest = n ∧ r.tabs[tab]? = some t.tab := by
  unfold checkTab at h
  split at h
  case h_1 => cases h
  case h_2 x hx =>
    obtain ⟨-, h⟩ := guard_eq_ok.mp h
    split at h
    case h_1 => cases h
    case h_2 b hb =>
      obtain ⟨-, h⟩ := guard_eq_ok.mp h
      obtain ⟨-, h⟩ := guard_eq_ok.mp h
      cases h
      exact ⟨rfl, hx⟩

theorem checkNest_ok {nest : Byte} {tab : Nat} {t : CutTarget} (h : checkNest s nest tab = .ok t) :
    nestOfByte nest = some t.nest ∧ (s.nest t.nest).tabs[tab]? = some t.tab := by
  unfold checkNest at h
  split at h
  case h_1 => cases h
  case h_2 n hn =>
    simp only [guard_eq_ok] at h
    obtain ⟨-, -, -, h⟩ := h
    obtain ⟨rfl, htab⟩ := checkTab_ok h
    exact ⟨hn, htab⟩

/-- R40: an admitted CUT's target is the nest and the tab its item names. -/
theorem checkCut_ok {t : CutTarget} (h : checkCut s i p = .ok t) :
    nestOfByte (payloadByte p 4) = some t.nest ∧ (s.nest t.nest).tabs[byteNat p 5]? = some t.tab := by
  unfold checkCut at h
  split at h
  case h_1 => cases h
  case h_2 => exact checkNest_ok h

end Checks

/-! ### The CUT command -/

section Cut
variable {s : State} {f : DownFrame} {rest : List DownFrame} {w : Wire} {more : List Item} {i : LaneId}

/-- R137: a CUT at a lane's address is settled as it is judged. -/
theorem exec_cut (h : s.Walking f rest (itemOf 0x10 w) more) (hr : s.RoleItem (.lane i) w) :
    exec (.cut w) s =
      .next ((settle (itemOf 0x10 w) (judgeCut f.cycle (itemOf 0x10 w) i s)).1.walkedOn f rest more
        (settle (itemOf 0x10 w) (judgeCut f.cycle (itemOf 0x10 w) i s)).2) :=
  congrArg Host.Outcome.next (walkGated_role (belongs := Role.lane?) h hr rfl judgeCut)

/-- R39, R139: a CUT that fails an admission check is voided in place. -/
theorem exec_cut_refused (h : s.Walking f rest (itemOf 0x10 w) more) (hr : s.RoleItem (.lane i) w) {code : RefusalCode}
    (hc : checkCut s i w.payload = .error code) :
    exec (.cut w) s = .next (s.voidedOn f rest 0x10 w more code) := by
  have hj : judgeCut f.cycle (itemOf 0x10 w) i s = .void code s [] := by
    rw [judgeCut, show checkCut s i (itemOf 0x10 w).payload = _ from hc]
  rw [exec_cut h hr, hj]
  rfl

/-- R43: a CUT that passes every admission check is admitted, its feed field rewritten. -/
theorem exec_cut_admitted (h : s.Walking f rest (itemOf 0x10 w) more) (hr : s.RoleItem (.lane i) w) {t : CutTarget}
    (hc : checkCut s i w.payload = .ok t) :
    let tab := byteNat w.payload 5
    let feed := appliedFeed (halfNat w.payload 6) (s.lane i).gov.override (s.feedCap t.nest tab)
    exec (.cut w) s = .next ((admitCut i t tab feed (payloadHalf w.payload 8) f.cycle s).walkedOn f rest more
      (withFeed (itemOf 0x10 w) feed)) := by
  intro tab feed
  have hj : judgeCut f.cycle (itemOf 0x10 w) i s =
      .pass (admitCut i t tab feed (payloadHalf w.payload 8) f.cycle s) (withFeed (itemOf 0x10 w) feed) := by
    rw [judgeCut, show checkCut s i (itemOf 0x10 w).payload = _ from hc]
    rfl
  rw [exec_cut h hr, hj]
  rfl

end Cut

/-- Settles O23: the list of checks refuses as the model does, and an admitted CUT's target is the one its item names. -/
theorem cutIsJudgedThenAdmitted : Obligations.CutIsJudgedThenAdmitted := by
  intro w s f rest more i h hr p
  rw [firstFailing_cutChecks]
  refine ⟨fun code hcode => ?refused, fun hnone n hn t ht => ?admitted⟩
  case refused => exact exec_cut_refused h hr (refusalIn_eq_some.mp hcode)
  case admitted =>
    obtain ⟨target, hok⟩ := refusalIn_eq_none.mp hnone
    obtain ⟨hnest, htab⟩ := checkCut_ok hok
    obtain rfl : n = target.nest := Option.some.inj (hn.symm.trans hnest)
    obtain rfl : t = target.tab := Option.some.inj (ht.symm.trans htab)
    exact exec_cut_admitted h hr hok

/-! ### The feed clamp (R44) -/

section Feed
variable {requested override : Nat} {cap : Option Nat}

/-- R44: the requested feed is brought into 1 to 200. -/
theorem clampTo_feed (requested : Nat) :
    clampTo 1 200 requested = if requested = 0 then 1 else if 200 < requested then 200 else requested := by
  unfold clampTo
  split
  · omega
  · split <;> omega

/-- R44: the applied feed with the clamp written as comparisons. -/
theorem appliedFeed_eq (requested override : Nat) (cap : Option Nat) :
    let scaled := clampTo 1 200 requested * override / 100
    let least := match cap with | some c => if c < scaled then c else scaled | none => scaled
    appliedFeed requested override cap = if least = 0 then 1 else least := by
  intro scaled least
  have hleast : (match cap with | some c => min c scaled | none => scaled) = least := by
    cases cap with
    | none => rfl
    | some c => simp only [least]; split <;> omega
  have hmax : appliedFeed requested override cap = max 1 least := congrArg (max 1) hleast
  rw [hmax]
  split <;> omega

theorem one_le_appliedFeed (requested override : Nat) (cap : Option Nat) : 1 ≤ appliedFeed requested override cap :=
  Nat.le_max_left ..

/-- R44: above its floor of 1 the applied feed is at most the scaled one. -/
theorem appliedFeed_le_scaled (h : 1 < appliedFeed requested override cap) :
    appliedFeed requested override cap ≤ clampTo 1 200 requested * override / 100 := by
  unfold appliedFeed at h ⊢
  cases cap <;> dsimp only at h ⊢ <;> omega

/-- R44: above its floor of 1 the applied feed is at most the tab's cap. -/
theorem appliedFeed_le_cap {c : Nat} (h : 1 < appliedFeed requested override (some c)) :
    appliedFeed requested override (some c) ≤ c := by
  unfold appliedFeed at h ⊢
  dsimp only at h ⊢
  omega

/-- R44: under an override of at most 100 no requested feed of 0 comes out above 1. -/
theorem requested_ne_zero (h : 1 < appliedFeed requested override cap) (hov : override ≤ 100) : requested ≠ 0 := by
  rintro rfl
  have := appliedFeed_le_scaled h
  simp only [clampTo_feed, if_true] at this
  omega

/-- R44: above its floor of 1 the applied feed is at most the requested feed scaled by the override. -/
theorem appliedFeed_mul_le (h : 1 < appliedFeed requested override cap) (hov : override ≤ 100) :
    appliedFeed requested override cap * 100 ≤ requested * override := by
  have hr : clampTo 1 200 requested ≤ requested := by
    have := requested_ne_zero h hov
    unfold clampTo
    omega
  calc appliedFeed requested override cap * 100
      ≤ clampTo 1 200 requested * override / 100 * 100 := Nat.mul_le_mul_right _ (appliedFeed_le_scaled h)
    _ ≤ clampTo 1 200 requested * override := Nat.div_mul_le_self ..
    _ ≤ requested * override := Nat.mul_le_mul_right _ hr

theorem appliedFeed_le_requested (h : 1 < appliedFeed requested override cap) (hov : override ≤ 100) :
    appliedFeed requested override cap ≤ requested := by
  have hscaled := appliedFeed_mul_le h hov
  have hov' : requested * override ≤ requested * 100 := Nat.mul_le_mul_left _ hov
  omega

end Feed

/-- R13: a tab's feed cap is that of its template in the recipe slot the nest was loaded from. -/
theorem State.feedCap_eq (s : State) (n : Nest) (tab : Nat) :
    s.feedCap n tab = ((s.recipe (s.nest n).slot).tabs.getD tab none).bind TabTemplate.cap := by
  rw [State.feedCap, List.getD_eq_getElem?_getD]
  cases (s.recipe (s.nest n).slot).tabs[tab]? with
  | none => rfl
  | some t => cases t <;> rfl

/-- Settles O25: the clamp in its comparisons, and each bound by its own lemma. -/
theorem feedIsClamped : Obligations.FeedIsClamped := by
  refine ⟨State.feedCap_eq, fun requested override cap => ?_⟩
  rw [← clampTo_feed]
  refine ⟨appliedFeed_eq requested override cap, one_le_appliedFeed requested override cap, fun h hov => ⟨?_, ?_, ?_⟩⟩
  · exact appliedFeed_le_requested h hov
  · exact appliedFeed_mul_le h hov
  · rintro c rfl
    exact appliedFeed_le_cap h

/-! ### Cut reports that match no cut (R46, R53) -/

theorem outcomeOfByte_some {b : Byte} {o : CutOutcome} (h : outcomeOfByte b = some o) : b = 1 ∨ b = 2 ∨ b = 3 := by
  unfold outcomeOfByte at h
  split_ifs at h with h1 h2 h3
  · exact .inl h1
  · exact .inr (.inl h2)
  · exact .inr (.inr h3)

/-- R46: what a report must agree with to match the cut bound to a lane. -/
theorem matchCut_eq_some {l : Lane} {p : Payload} {b : Binding} {o : CutOutcome} :
    matchCut l p = some (b, o) ↔ l.state = .cutting ∧ l.binding = some b ∧ outcomeOfByte (payloadByte p 6) = some o ∧
      nestOfByte (payloadByte p 4) = some b.nest ∧ byteNat p 5 = b.tab := by
  unfold matchCut Operand.cutOutcome Operand.nest Operand.index
  split
  next b' o' hst hb ho =>
    rw [Option.ite_none_right_eq_some, Option.some.injEq, Prod.mk.injEq]
    constructor
    · rintro ⟨hnamed, rfl, rfl⟩
      exact ⟨hst, hb, ho, hnamed⟩
    · rintro ⟨-, hb', ho', hnamed⟩
      obtain rfl := Option.some.inj (hb.symm.trans hb')
      obtain rfl := Option.some.inj (ho.symm.trans ho')
      exact ⟨hnamed, rfl, rfl⟩
  next hno =>
    constructor
    · exact fun h => nomatch h
    · rintro ⟨hst, hb, ho, -⟩
      exact (hno b o hst hb ho).elim

/-- R46, R53: the three ways a report can fail to match. -/
theorem matchCut_eq_none {l : Lane} {p : Payload}
    (h : l.state ≠ .cutting ∨ (payloadByte p 6 ≠ 1 ∧ payloadByte p 6 ≠ 2 ∧ payloadByte p 6 ≠ 3) ∨
      ∀ b, l.binding = some b → ¬(nestOfByte (payloadByte p 4) = some b.nest ∧ byteNat p 5 = b.tab)) :
    matchCut l p = none := by
  refine Option.eq_none_iff_forall_ne_some.mpr fun ⟨b, o⟩ hm => ?_
  obtain ⟨hst, hb, ho, hnamed⟩ := matchCut_eq_some.mp hm
  rcases h with hidle | ⟨h1, h2, h3⟩ | hother
  · exact hidle hst
  · rcases outcomeOfByte_some ho with h | h | h
    · exact h1 h
    · exact h2 h
    · exact h3 h
  · exact hother b hb hnamed

/-! ### The wear step of a report -/

/-- R102 to R107: a change of a life record reaches its own lane through `Lane.withLife`. -/
theorem lane_rewear (s : State) (tag : Half) (cause : LimitCause) (i : LaneId) (f : Life → Life) :
    ∃ life, (rewear tag cause i f s).lane i = (s.lane i).withLife life := by
  obtain ⟨r, h⟩ := rewear_frame s tag cause i f
  exact ⟨_, by rw [h]; exact lane_setLane_same ..⟩

/-- R105: the park hold moves a lane between READY and PARKED alone. -/
theorem Lane.withLife_cutting (l : Lane) (life : Life) : (l.withLife life).state = .cutting ↔ l.state = .cutting := by
  unfold Lane.withLife Lane.park
  split
  next h => simp_all
  next =>
    split
    next h => simp_all
    next => rfl

theorem Lane.withLife_binding (l : Lane) (life : Life) : (l.withLife life).binding = l.binding := by
  obtain ⟨st, pend, h⟩ := l.withLife_frame life
  rw [h]

/-- R46: the wear step changes nothing that decides which cut a report matches. -/
theorem matchCut_worn (s : State) (i : LaneId) (w : Wire) (p : Payload) :
    matchCut ((s.worn i w).lane i) p = matchCut (s.lane i) p := by
  obtain ⟨life, h⟩ : ∃ life, (s.worn i w).lane i = (s.lane i).withLife life := lane_rewear ..
  refine Option.ext fun ⟨b, o⟩ => ?_
  simp only [h, matchCut_eq_some, Lane.withLife_cutting, Lane.withLife_binding]

/-! ### The CUT-DONE command -/

/-- R46, R101: the model's wear step is the one the statements name. -/
theorem wearStep_eq_worn (w : Wire) (i : LaneId) (s : State) : wearStep w.tag i w.payload s = s.worn i w := rfl

/-- R53: a report that matches no cut is worn and told. -/
theorem takeCutDone_late {s : State} {w : Wire} {i : LaneId} (cycle : Half) (h : matchCut (s.lane i) w.payload = none) :
    takeCutDone w i cycle s =
      post w.tag (.lateReport i (payloadByte w.payload 4) (payloadByte w.payload 5) (payloadByte w.payload 6) cycle)
        (s.worn i w) := by
  simp only [takeCutDone, wearStep_eq_worn, matchCut_worn, h]
  rfl

/-- R140: a CUT-DONE from a lane's address is taken by that lane. -/
theorem exec_cutDone {s : State} {f : UpFrame} {rest : List UpFrame} {w : Wire} {more : List Item} {i : LaneId}
    (h : s.Reporting f rest (itemOf 0x20 w) more) (hr : s.RoleItem (.lane i) w) :
    exec (.cutDone w) s = .next ((takeCutDone w i f.cycle s).reportedOn f rest more) :=
  congrArg Host.Outcome.next (walkReport_role (belongs := Role.lane?) h hr rfl (takeCutDone w))

/-- Settles O29: after the wear step the report still matches no cut, so it is told. -/
theorem lateCutReportOnlyCountsWear : Obligations.LateCutReportOnlyCountsWear := by
  intro w s f rest more i h hr p hlate
  rw [exec_cutDone h hr, takeCutDone_late f.cycle (matchCut_eq_none hlate)]

end Sys2Proof.Machine
end

/-! The OPEN item (R69, R70, R92): which OPENs are refused, what a release makes of the picker and its board, and when a placement
sensed early completes with it. -/

namespace Sys2Proof.Machine

/-! ### One board, one picker -/

theorem setPicker_setPicker (q : PickerId) (k k' : Picker) (s : State) :
    setPicker q k' (setPicker q k s) = setPicker q k' s := by
  simp only [setPicker, Vector.set_set]

theorem modBoard_setPicker (r : BoardRef) (g : BoardRec → BoardRec) (q : PickerId) (k : Picker) (s : State) :
    modBoard r g (setPicker q k s) = setPicker q k (modBoard r g s) := rfl

theorem modBoard_modBoard (r : BoardRef) (f g : BoardRec → BoardRec) (s : State) :
    modBoard r g (modBoard r f s) = modBoard r (g ∘ f) s := by
  obtain ⟨n, j⟩ := r
  cases n <;> simp only [modBoard, modNest, setNest, State.nest, PerNest.get, PerNest.set, List.modify_modify_eq]

theorem State.boardAt_modBoard_same (r : BoardRef) (f : BoardRec → BoardRec) (s : State) :
    (modBoard r f s).boardAt r = (s.boardAt r).map f := by
  simp only [State.boardAt, modBoard_eq, nest_setNest_same, List.getElem?_modify_eq, Option.map_eq_map]

/-- A change of a board is given by what it makes of the record that stands there. -/
theorem modBoard_congr {s : State} {r : BoardRef} {b : BoardRec} (hb : s.boardAt r = some b) {f g : BoardRec → BoardRec}
    (h : f b = g b) : modBoard r f s = modBoard r g s := by
  have hboards : (s.nest r.nest).boards.modify r.board f = (s.nest r.nest).boards.modify r.board g := by
    refine List.ext_getElem? fun j => ?_
    rw [List.getElem?_modify, List.getElem?_modify]
    split
    next hj =>
      subst hj
      have hb' : (s.nest r.nest).boards[r.board]? = some b := hb
      simp only [hb', Option.map_eq_map, Option.map_some, h]
    next => rfl
  rw [modBoard_eq, modBoard_eq, hboards]

/-! ### The refusals of an OPEN (R69) -/

section Check
variable {s : State} {q : PickerId} {r : BoardRef} {b : BoardRec}

theorem checkOpen_jammed (hk : (s.picker q).state = .jammed) : checkOpen s q = some .pickerFault := by
  simp only [checkOpen, hk]

/-- R69: a picker in EMPTY, OPENING or CLOSING refuses no OPEN. -/
theorem checkOpen_unjudged (hj : (s.picker q).state ≠ .jammed) (hh : (s.picker q).state ≠ .holding) :
    checkOpen s q = none := by
  unfold checkOpen
  dsimp only
  split
  next h => exact absurd h hj
  next h => exact absurd h hh
  next => rfl

theorem checkOpen_held (hk : (s.picker q).state = .holding) (hr : (s.picker q).board = some r) (hb : s.boardAt r = some b)
    (hst : b.state = .held) : checkOpen s q = if b.uncut < b.hold then some .holdRequired else none := by
  simp only [checkOpen, hk, hr, Option.bind_some, hb, hst]

theorem checkOpen_freed (hk : (s.picker q).state = .holding) (hr : (s.picker q).board = some r) (hb : s.boardAt r = some b)
    (hst : b.state = .freed) : checkOpen s q = some .notPlaced := by
  simp only [checkOpen, hk, hr, Option.bind_some, hb, hst]

theorem checkOpen_inTransit (hk : (s.picker q).state = .holding) (hr : (s.picker q).board = some r)
    (hb : s.boardAt r = some b) (hst : b.state = .inTransit) :
    checkOpen s q = if b.dest.isNone then some .noDestination else none := by
  simp only [checkOpen, hk, hr, Option.bind_some, hb, hst]

end Check

/-! ### The release (R70) -/

/-- R70, steps 2 to 4: the picker is OPENING, bound to no board, with its jaw timer started afresh. -/
def State.jawsOpening (s : State) (q : PickerId) : State :=
  setPicker q { s.picker q with
    state := .opening, board := none, sentFor := none, jawTimer := some (s.now + s.timing.jaw) } s

/-- R70: the picker is OPENING, and the board it let go stands unbound in a state. -/
def State.jawsReleased (s : State) (q : PickerId) (r : BoardRef) (st : BoardState) : State :=
  modBoard r (fun b => { b with state := st, picker := none }) (s.jawsOpening q)

section Release
variable {s : State} {q : PickerId} {r : BoardRef} {b : BoardRec} {st : BoardState} (tag : Half)

theorem openPicker_unbound (hr : (s.picker q).board = none) : openPicker tag q s = s.jawsOpening q := by
  simp only [openPicker, unbind, hr, modPicker, setPicker_setPicker, picker_setPicker_same]
  rfl

/-- R61, R70: releasing the board and unbinding it are one change of its record. -/
theorem openPicker_bound (hr : (s.picker q).board = some r) :
    openPicker tag q s =
      completeSensed tag r (modBoard r (fun b => { b.released with picker := none }) (s.jawsOpening q)) := by
  have hkept : (modBoard r BoardRec.released s).picker q = s.picker q := rfl
  simp only [openPicker, unbind, hr, hkept, modPicker, setPicker_setPicker, picker_setPicker_same, modBoard_modBoard]
  rfl

/-- R70: the OPEN leaves the board in the state its own release gives it. -/
theorem openPicker_released (hr : (s.picker q).board = some r) (hb : s.boardAt r = some b)
    (hst : b.released = { b with state := st }) : openPicker tag q s = completeSensed tag r (s.jawsReleased q r st) := by
  have hb' : (s.jawsOpening q).boardAt r = some b := hb
  rw [openPicker_bound tag hr, State.jawsReleased, modBoard_congr hb' (by rw [hst])]

theorem BoardRec.released_attached (h : b.state = .attached) : b.released = { b with state := .attached } := by
  simp only [BoardRec.released, h]
  rw [← h]

theorem BoardRec.released_held (h : b.state = .held) : b.released = { b with state := .attached } := by
  simp only [BoardRec.released, h]

theorem BoardRec.released_inTransit (h : b.state = .inTransit) : b.released = { b with state := .placing } := by
  simp only [BoardRec.released, h]

end Release

/-! ### A placement sensed early (R92) -/

section Sensed
variable {s : State} {q : PickerId} {r : BoardRef} {b : BoardRec} {x : Placement} (tag : Half)

theorem State.boardStateAt_jawsReleased (hb : s.boardAt r = some b) (st : BoardState) :
    (s.jawsReleased q r st).boardStateAt r = st := by
  have hb' : (s.jawsOpening q).boardAt r = some b := hb
  simp only [State.boardStateAt, State.jawsReleased, State.boardAt_modBoard_same, hb', Option.map_some, Option.getD_some]

/-- R70: letting a board go opens and closes no placement. -/
theorem State.placementOf_jawsReleased (st : BoardState) (r' : BoardRef) :
    (s.jawsReleased q r st).placementOf r' = s.placementOf r' := rfl

/-- R92: nothing completes with a board that goes back to the frame. -/
theorem completeSensed_notPlacing (h : s.boardStateAt r ≠ .placing) : completeSensed tag r s = s := by
  unfold completeSensed
  split
  next =>
    split
    next => rw [if_neg h]
    next => rfl
  next => rfl

/-- R92: nothing completes before the elevator has reported the placement. -/
theorem completeSensed_unsensed (h : ∀ x, s.placementOf r = some x → x.sensed = none) : completeSensed tag r s = s := by
  unfold completeSensed
  split
  next x hx => rw [h x hx]
  next => rfl

theorem completeSensed_sensed {cycle : Half} (hst : s.boardStateAt r = .placing) (hx : s.placementOf r = some x)
    (hc : x.sensed = some cycle) : completeSensed tag r s = completePlacement tag x cycle s := by
  simp only [completeSensed, hx, hc, hst, if_true]

end Sensed

/-! ### The command -/

section Command
variable {s : State} {f : DownFrame} {rest : List DownFrame} {w : Wire} {more : List Item} {q : PickerId}

/-- R137: an OPEN at a picker's address is settled as it is judged. -/
theorem exec_openJaws (h : s.Walking f rest (itemOf 0x14 w) more) (hr : s.RoleItem (.picker q) w) :
    exec (.openJaws w) s =
      .next ((settle (itemOf 0x14 w) (judgeOpen f.cycle (itemOf 0x14 w) q s)).1.walkedOn f rest more
        (settle (itemOf 0x14 w) (judgeOpen f.cycle (itemOf 0x14 w) q s)).2) :=
  congrArg Host.Outcome.next (walkGated_role (belongs := Role.picker?) h hr rfl judgeOpen)

/-- R69, R139: a refused OPEN is voided in place. -/
theorem exec_openJaws_refused (h : s.Walking f rest (itemOf 0x14 w) more) (hr : s.RoleItem (.picker q) w)
    {code : RefusalCode} (hc : checkOpen s q = some code) :
    exec (.openJaws w) s = .next (s.voidedOn f rest 0x14 w more code) := by
  have hj : judgeOpen f.cycle (itemOf 0x14 w) q s = .void code s [] := by simp only [judgeOpen, hc]
  rw [exec_openJaws h hr, hj]
  rfl

/-- R69: an OPEN to a picker in EMPTY or OPENING goes on and changes no record. -/
theorem exec_openJaws_idle (h : s.Walking f rest (itemOf 0x14 w) more) (hr : s.RoleItem (.picker q) w)
    (hk : (s.picker q).state = .empty ∨ (s.picker q).state = .opening) :
    exec (.openJaws w) s = .next (s.walkedOn f rest more (itemOf 0x14 w)) := by
  have hj : judgeOpen f.cycle (itemOf 0x14 w) q s = .pass s (itemOf 0x14 w) := by
    rcases hk with hk | hk <;>
      simp only [judgeOpen, checkOpen_unjudged (s := s) (q := q) (by simp [hk]) (by simp [hk]), hk]
  rw [exec_openJaws h hr, hj]
  rfl

/-- R70: an OPEN that a picker in CLOSING or HOLDING does not refuse is carried out. -/
theorem exec_openJaws_opens (h : s.Walking f rest (itemOf 0x14 w) more) (hr : s.RoleItem (.picker q) w)
    (hk : (s.picker q).state = .closing ∨ (s.picker q).state = .holding) (hc : checkOpen s q = none) :
    exec (.openJaws w) s = .next ((openPicker w.tag q s).walkedOn f rest more (itemOf 0x14 w)) := by
  have hj : judgeOpen f.cycle (itemOf 0x14 w) q s = .pass (openPicker w.tag q s) (itemOf 0x14 w) := by
    rcases hk with hk | hk <;> simp only [judgeOpen, hc, hk] <;> rfl
  rw [exec_openJaws h hr, hj]
  rfl

end Command

/-- Settles O48: each row of R69 is a refusal of `checkOpen` or a release of `openPicker`, and a released board that is PLACING
is the one case in which `completeSensed` acts. -/
theorem openReleasesOnlyASafeBoard : Obligations.OpenReleasesOnlyASafeBoard := by
  intro w s f rest more q h hr k void goes opening released
  have opens (hk : k.state = .closing ∨ k.state = .holding) (hc : checkOpen s q = none) {s' : State}
      (hs : openPicker w.tag q s = s') : goes s' := hs ▸ exec_openJaws_opens h hr hk hc
  have refused {code : RefusalCode} (hc : checkOpen s q = some code) : void code := exec_openJaws_refused h hr hc
  have unjudged (hk : k.state = .closing) : checkOpen s q = none :=
    checkOpen_unjudged (ne_of_eq_of_ne hk (by decide)) (ne_of_eq_of_ne hk (by decide))
  have backToFrame {r : BoardRef} {b : BoardRec} (hb : s.boardAt r = some b) :
      completeSensed w.tag r (s.jawsReleased q r .attached) = released r .attached :=
    completeSensed_notPlacing _ (ne_of_eq_of_ne (State.boardStateAt_jawsReleased hb .attached) (by decide))
  refine ⟨exec_openJaws_idle h hr, fun hk => refused (checkOpen_jammed hk), fun hk hnone => ?closing,
    fun hk r hbound hst => ?closingOnBoard, fun hk r hbound b hb => ?holding⟩
  case closing => exact opens (.inl hk) (unjudged hk) (openPicker_unbound _ hnone)
  case closingOnBoard =>
    obtain ⟨b, hb, hst⟩ := Option.map_eq_some_iff.mp hst
    exact opens (.inl hk) (unjudged hk)
      ((openPicker_released _ hbound hb (BoardRec.released_attached hst)).trans (backToFrame hb))
  case holding =>
    have held (hst : b.state = .held) := checkOpen_held hk hbound hb hst
    have inTransit (hst : b.state = .inTransit) := checkOpen_inTransit hk hbound hb hst
    have puts (hst : b.state = .inTransit) (hdest : b.dest ≠ none) {s' : State}
        (hs : completeSensed w.tag r (s.jawsReleased q r .placing) = s') : goes s' :=
      opens (.inr hk) ((inTransit hst).trans (if_neg (mt Option.isNone_iff_eq_none.mp hdest)))
        ((openPicker_released _ hbound hb (BoardRec.released_inTransit hst)).trans hs)
    refine ⟨fun hst henough => ?heldEnough, fun hst hshort => ?heldShort, fun hst => ?freed, fun hst hdest => ?noDest,
      fun hst hdest hearly => ?put, fun hst hdest x hx cycle hsensed => ?putSensed⟩
    case heldEnough =>
      exact opens (.inr hk) ((held hst).trans (if_neg (Nat.not_lt.mpr henough)))
        ((openPicker_released _ hbound hb (BoardRec.released_held hst)).trans (backToFrame hb))
    case heldShort => exact refused ((held hst).trans (if_pos hshort))
    case freed => exact refused (checkOpen_freed hk hbound hb hst)
    case noDest => exact refused ((inTransit hst).trans (if_pos (Option.isNone_iff_eq_none.mpr hdest)))
    case put => exact puts hst hdest (completeSensed_unsensed _ fun x hx =>
      hearly x ((State.placementOf_jawsReleased ..).symm.trans hx))
    case putSensed =>
      exact puts hst hdest (completeSensed_sensed _ (State.boardStateAt_jawsReleased hb .placing)
        ((State.placementOf_jawsReleased ..).trans hx) hsensed)

end Sys2Proof.Machine

/-! One step of the machine (log 1): what it comes to on an empty queue and on a queue with a command at its front. -/

namespace Sys2Proof.Machine

variable {s : State}

/-- Log 1: with nothing queued the block idles for one tick of the clock. -/
theorem step_of_pending_nil (h : s.pending = []) : step s = .next { s with now := s.now + 1 } := by
  simp only [step, h]

/-- The front command has left the queue when it runs, and it sees every other record as it stands (R136). -/
theorem step_of_pending_cons {c : Instr} {rest : List Instr} (h : s.pending = c :: rest) :
    step s = exec c { s with pending := rest } := by
  simp only [step, h]

/-- Settles O1: each clause is one way a step goes, on a state whose queue is given. -/
theorem stepTakesTheFrontCommand : Obligations.StepTakesTheFrontCommand :=
  ⟨fun _ _ _ => step_of_pending_cons rfl, fun _ => step_of_pending_nil rfl⟩

end Sys2Proof.Machine

/-! What leaves the line record as it is: no operation on lanes, pickers, nests, bays, recipes or settings writes to it, so only the
port, watchdog, safety-input, reset and supervisor commands can. -/

namespace Sys2Proof.Machine

variable {s : State}

/-! ### Shared operations -/

theorem foldl_line {α : Type} {g : State → α → State} (h : ∀ s x, (g s x).line = s.line) (l : List α) (s : State) :
    (l.foldl g s).line = s.line := by
  induction l generalizing s with
  | nil => rfl
  | cons x l ih => exact (ih _).trans (h s x)

@[simp] theorem abortBound_line (pick : Binding → Bool) : (abortBound pick s).line = s.line := rfl
@[simp] theorem stopSpindle_line (i : LaneId) : (stopSpindle i s).line = s.line := rfl
@[simp] theorem giveAbort_line (i : LaneId) : (giveAbort i s).line = s.line := rfl
@[simp] theorem closePlacement_line (r : BoardRef) : (closePlacement r s).line = s.line := rfl
@[simp] theorem becomeFull_line (tag : Half) (b : BayId) : (becomeFull tag b s).line = s.line := rfl

@[simp] theorem raiseCause_line (tag : Half) (i : LaneId) (c : Cause) : (raiseCause tag i c s).line = s.line := by
  obtain ⟨l, r, h⟩ := raiseCause_frame s tag i c
  rw [h]; rfl

@[simp] theorem rewear_line (tag : Half) (cause : LimitCause) (i : LaneId) (f : Life → Life) :
    (rewear tag cause i f s).line = s.line := by
  obtain ⟨r, h⟩ := rewear_frame s tag cause i f
  rw [h]; rfl

@[simp] theorem settleNest_line (tag : Half) (n : Nest) : (settleNest tag n s).line = s.line := by
  obtain ⟨st, r, h⟩ := settleNest_frame s tag n
  rw [h]; rfl

@[simp] theorem unbind_line (p : PickerId) : (unbind p s).line = s.line := by
  obtain ⟨nests, h⟩ := unbind_frame s p
  rw [h]; rfl

@[simp] theorem completePlacement_line (tag : Half) (p : Placement) (cycle : Half) :
    (completePlacement tag p cycle s).line = s.line := by
  obtain ⟨nests, bays, r, h⟩ := completePlacement_frame s tag p cycle
  rw [h]

@[simp] theorem endPlacement_line (tag : Half) (p : Placement) (reason : PlaceReason) :
    (endPlacement tag p reason s).line = s.line := by
  obtain ⟨nests, bays, r, h⟩ := endPlacement_frame s tag p reason
  rw [h]

/-! ### The walk

An item's command and a timer's expiry keep a property of the line record that their own act keeps; a judge and a report keep the
whole record. -/

section Walk
variable {P : Line → Prop}

theorem walkItem_line {it : Item} {g : Half → State → State × Item} (hs : P s.line)
    (hg : ∀ cycle, P (g cycle s).1.line) : P (walkItem it g s).line := by
  unfold walkItem
  split
  next => exact hs
  next f rest hdown =>
    split
    next => exact hg f.cycle
    next => exact hs

/-- The state a verdict on a gated item leaves. -/
def Verdict.state : Verdict → State
  | .pass s _ => s
  | .void _ s _ => s

theorem settle_line (it : Item) (v : Verdict) : (settle it v).1.line = v.state.line := by
  cases v with
  | pass s it' => rfl
  | void code s after => exact foldl_line (g := fun s n => post it.tag n s) (fun _ _ => rfl) after _

theorem gate_line {α : Type} {it : Item} {belongs : Role → Option α} {judge : α → State → Verdict}
    (h : ∀ x, (judge x s).state.line = s.line) : (gate it belongs judge s).1.line = s.line := by
  unfold gate
  split
  next => rfl
  next => rfl
  next => rfl
  next => rfl
  next r hroute =>
    split
    next x hx => exact (settle_line it _).trans (h x)
    next => rfl

theorem walkGated_line {α : Type} {kind : Byte} {w : Wire} {belongs : Role → Option α}
    {judge : Half → Item → α → State → Verdict}
    (h : ∀ cycle it x, (judge cycle it x s).state.line = s.line) :
    (walkGated kind w belongs judge s).line = s.line :=
  walkItem_line (P := (· = s.line)) rfl fun cycle => gate_line (h cycle _)

theorem request_line {kind : Byte} {tag : Half} {act : State → State × Reply} (hs : P s.line)
    (h : P (act s).1.line) : P (request kind tag act s).line := by
  unfold request
  split
  next => exact hs
  next => exact h

theorem walkRequest_line {kind : Byte} {w : Wire} {act : State → State × Reply} (hs : P s.line)
    (h : P (act s).1.line) : P (walkRequest kind w act s).line := by
  refine walkItem_line hs fun _ => ?_
  split
  next => exact request_line hs h
  next => exact hs

theorem walkReport_line {α : Type} {kind : Byte} {w : Wire} {belongs : Role → Option α}
    {take : α → Half → State → State} (h : ∀ x cycle, (take x cycle s).line = s.line) :
    (walkReport kind w belongs take s).line = s.line := by
  unfold walkReport
  split
  next => rfl
  next f rest hup =>
    split
    next =>
      dsimp only
      split
      next x hx => exact h x f.cycle
      next => rfl
    next => rfl

theorem expire_line {timer : Option Nat} {act : State → State} (hs : P s.line)
    (h : ∀ t : State, t.line = s.line → P (act t).line) : P (expire timer act s).line := by
  unfold expire
  split
  next => exact hs
  next =>
    split
    next => exact hs
    next => exact h _ rfl

end Walk

/-! ### Gated items (chapters 2 to 5 and 7) -/

theorem judgeCut_line (cycle : Half) (it : Item) (i : LaneId) : (judgeCut cycle it i s).state.line = s.line := by
  unfold judgeCut
  dsimp only
  split <;> rfl

theorem judgeStart_line (cycle : Half) (it : Item) (i : LaneId) : (judgeStart cycle it i s).state.line = s.line := by
  unfold judgeStart
  split <;> rfl

theorem judgeGrip_line (cycle : Half) (it : Item) (p : PickerId) : (judgeGrip cycle it p s).state.line = s.line := by
  unfold judgeGrip
  split <;> rfl

theorem judgeLift_line (cycle : Half) (it : Item) (p : PickerId) : (judgeLift cycle it p s).state.line = s.line := by
  unfold judgeLift
  split <;> rfl

theorem judgeShuttle_line (cycle : Half) (it : Item) (u : Unit) : (judgeShuttle cycle it u s).state.line = s.line := by
  unfold judgeShuttle
  split
  · rfl
  · split <;> rfl

@[simp] theorem completeSensed_line (tag : Half) (r : BoardRef) : (completeSensed tag r s).line = s.line := by
  unfold completeSensed
  split
  · split
    · split <;> simp
    · rfl
  · rfl

@[simp] theorem openPicker_line (tag : Half) (p : PickerId) : (openPicker tag p s).line = s.line := by
  cases hr : (s.picker p).board with
  | none => rw [openPicker_unbound tag hr]; rfl
  | some r => rw [openPicker_bound tag hr, completeSensed_line]; rfl

theorem judgeOpen_line (cycle : Half) (it : Item) (p : PickerId) : (judgeOpen cycle it p s).state.line = s.line := by
  unfold judgeOpen
  split
  · rfl
  · split
    · exact openPicker_line it.tag p
    · exact openPicker_line it.tag p
    · rfl

@[simp] theorem searchVariant_line (tag : Half) (variant height : Nat) (l : List BayId) :
    (searchVariant tag variant height l s).1.line = s.line := by
  induction l generalizing s with
  | nil => rfl
  | cons id rest ih =>
    simp only [searchVariant]
    split
    · split
      · split <;> simp [ih]
      · exact ih
    · exact ih

@[simp] theorem reservePlace_line (tag cycle : Half) (r : BoardRef) (d : Destination) :
    (reservePlace tag cycle r d s).line = s.line := by
  unfold reservePlace
  dsimp only
  split <;> rfl

theorem judgePlace_line (cycle : Half) (it : Item) (p : PickerId) : (judgePlace cycle it p s).state.line = s.line := by
  unfold judgePlace
  split
  · rfl
  · split
    · split
      · exact reservePlace_line ..
      · rfl
    · dsimp only
      split
      · simp [Verdict.state]
      · simp [Verdict.state]

/-! ### Reports -/

@[simp] theorem endCut_line (i : LaneId) (matched : Bool) : (endCut i matched s).line = s.line := rfl
@[simp] theorem faultTab_line (n : Nest) (tab : Nat) (countIt : Bool) : (faultTab n tab countIt s).line = s.line := rfl

@[simp] theorem markSuspect_line (r : BoardRef) (yes : Bool) : (markSuspect r yes s).line = s.line := by
  unfold markSuspect
  split <;> rfl

@[simp] theorem dropClosing_line (b : BoardRec) : (dropClosing b s).line = s.line := by
  unfold dropClosing
  split
  · split
    · exact unbind_line _
    · rfl
  · rfl

@[simp] theorem freeBoard_line (tag : Half) (r : BoardRef) (tab : Nat) (i : LaneId) (cycle : Half) (b : BoardRec) :
    (freeBoard tag r tab i cycle b s).line = s.line := by
  unfold freeBoard
  split <;> simp

@[simp] theorem cutComplete_line (tag cycle : Half) (i : LaneId) (b : Binding) :
    (cutComplete tag cycle i b s).line = s.line := by
  simp only [cutComplete, endCut_line]
  split
  · split <;> simp
  · simp

theorem takeCutDone_line (w : Wire) (i : LaneId) (cycle : Half) : (takeCutDone w i cycle s).line = s.line := by
  simp only [takeCutDone, wearStep]
  split <;> simp [cutAborted, cutBroke]

@[simp] theorem badReport_line (kind : Byte) (w : Wire) : (badReport kind w s).line = s.line := rfl

@[simp] theorem laneOver_line (tag : Half) (i : LaneId) : (laneOver tag i s).line = s.line := by
  simp only [laneOver]
  split <;> simp

@[simp] theorem govern_line (tag : Half) (i : LaneId) (load : Nat) : (govern tag i load s).line = s.line := by
  simp only [govern]
  split
  · rfl
  · split <;> simp

theorem takeLaneState_line (w : Wire) (i : LaneId) (cycle : Half) : (takeLaneState w i cycle s).line = s.line := by
  unfold takeLaneState
  split
  · rfl
  · dsimp only
    split
    · rfl
    · split <;> simp

@[simp] theorem emptyPicker_line (p : PickerId) : (emptyPicker p s).line = s.line := rfl

@[simp] theorem closingReport_line (tag : Half) (p : PickerId) (cycle : Half) (jaws : Jaws) (sensed : Bool) :
    (closingReport tag p cycle jaws sensed s).line = s.line := by
  unfold closingReport
  dsimp only
  split
  · rfl
  · split <;> simp
  · split <;> simp

@[simp] theorem dropReservation_line (r : BoardRef) : (dropReservation r s).line = s.line := by
  unfold dropReservation
  split <;> rfl

@[simp] theorem gripLoss_line (tag : Half) (p : PickerId) (cycle : Half) (r : BoardRef) (b : BoardRec) :
    (gripLoss tag p cycle r b s).line = s.line := by
  unfold gripLoss
  split
  · dsimp only
    split <;> simp
  · simp
  · simp
  · rfl

@[simp] theorem holdingReport_line (tag : Half) (p : PickerId) (cycle : Half) (jaws : Jaws) (sensed : Bool) :
    (holdingReport tag p cycle jaws sensed s).line = s.line := by
  unfold holdingReport
  split
  · rfl
  · split
    · split <;> simp
    · rfl

theorem takeGripState_line (w : Wire) (p : PickerId) (cycle : Half) : (takeGripState w p cycle s).line = s.line := by
  unfold takeGripState
  split
  · dsimp only
    split
    · split <;> rfl
    · simp
    · simp
    · split <;> rfl
    · rfl
  · rfl

@[simp] theorem keepOut_line (tag : Half) (n : Nest) : (keepOut tag n s).line = s.line := by
  unfold keepOut
  dsimp only
  split
  · rfl
  · split
    · rfl
    · split
      · rfl
      · split <;> rfl

@[simp] theorem movePosition_line (tag cycle : Half) (pos : WorkPos) : (movePosition tag cycle pos s).line = s.line := by
  unfold movePosition
  dsimp only
  split
  · rfl
  · split <;> rfl

theorem takeTableState_line (w : Wire) (u : Unit) (cycle : Half) : (takeTableState w u cycle s).line = s.line := by
  unfold takeTableState
  split <;> simp

@[simp] theorem removePlacement_line (tag : Half) (p : Placement) : (removePlacement tag s p).line = s.line := by
  simp [removePlacement]

@[simp] theorem removeMagazine_line (tag : Half) (id : BayId) : (removeMagazine tag id s).line = s.line :=
  foldl_line (fun _ p => removePlacement_line tag p) _ s

@[simp] theorem bayReport_line (tag : Half) (present : Bool) (id : BayId) : (bayReport tag present id s).line = s.line := by
  simp only [bayReport]
  split
  · rfl
  · split <;> simp

theorem takeBayState_line (w : Wire) (u : Unit) (cycle : Half) : (takeBayState w u cycle s).line = s.line :=
  foldl_line (fun _ id => bayReport_line w.tag _ id) allBays s

@[simp] theorem strayInSlot_line (tag : Half) (id : BayId) (slots : Nat) (dir : FillDir) (t : SlotTable) (slot : Nat) :
    (strayInSlot tag id slots dir t slot s).line = s.line := by
  unfold strayInSlot
  dsimp only
  split
  · rfl
  · rfl
  · rfl
  · split <;> rfl
  · split <;> simp

@[simp] theorem strayInReject_line (tag : Half) (id : BayId) (capacity : Nat) :
    (strayInReject tag id capacity s).line = s.line := by
  unfold strayInReject
  dsimp only
  split <;> rfl

@[simp] theorem strayInBay_line (tag : Half) (id : BayId) (first : Nat) : (strayInBay tag id first s).line = s.line := by
  unfold strayInBay
  dsimp only
  split
  · split <;> simp
  · rfl

@[simp] theorem strayPlace_line (w : Wire) (sensed : Bool) (cycle : Half) : (strayPlace w sensed cycle s).line = s.line := by
  unfold strayPlace
  dsimp only
  split
  · split <;> simp
  · rfl

@[simp] theorem takeMatched_line (tag cycle : Half) (p : Placement) (sensed : Bool) :
    (takeMatched tag cycle p sensed s).line = s.line := by
  unfold takeMatched
  split
  · simp
  · split
    · simp
    · rfl

theorem takePlaceDone_line (w : Wire) (u : Unit) (cycle : Half) : (takePlaceDone w u cycle s).line = s.line := by
  unfold takePlaceDone
  split
  · rfl
  · split <;> simp

/-! ### Timers -/

theorem cutTimedOut_line (i : LaneId) : (cutTimedOut i s).line = s.line := by
  unfold cutTimedOut
  split <;> simp

theorem jawExpired_line (p : PickerId) : (jawExpired p s).line = s.line := by
  unfold jawExpired
  dsimp only
  split
  · split <;> simp
  · rfl
  · rfl

theorem spinDownExpired_line (i : LaneId) : (spinDownExpired i s).line = s.line := by
  unfold spinDownExpired
  dsimp only
  split <;> simp

theorem recoveryExpired_line (i : LaneId) : (recoveryExpired i s).line = s.line := by
  unfold recoveryExpired
  dsimp only
  split
  · split <;> rfl
  · rfl

theorem coolDownExpired_line (i : LaneId) : (coolDownExpired i s).line = s.line := by
  unfold coolDownExpired
  dsimp only
  split <;> rfl

theorem restoreExpired_line (i : LaneId) : (restoreExpired i s).line = s.line := by
  unfold restoreExpired
  dsimp only
  split <;> rfl

/-! ### The frames that leave -/

@[simp] theorem creditLane_line (items : List Item) (i : LaneId) : (creditLane items s i).line = s.line := by
  unfold creditLane
  split <;> rfl

theorem insertAbort_line (r : State × List Item) (i : LaneId) : (insertAbort r i).1.line = r.1.line := by
  unfold insertAbort
  split
  · split <;> rfl
  · rfl

theorem insertStop_line (r : State × List Item) (i : LaneId) : (insertStop r i).1.line = r.1.line := by
  unfold insertStop
  split
  · split <;> rfl
  · rfl

theorem insertFeed_line (r : State × List Item) (i : LaneId) : (insertFeed r i).1.line = r.1.line := by
  unfold insertFeed
  split
  · split <;> rfl
  · rfl

/-- Topping up a frame lane by lane leaves the line record alone, whatever is inserted. -/
theorem foldl_insert_line {g : State × List Item → LaneId → State × List Item} (h : ∀ r i, (g r i).1.line = r.1.line)
    (l : List LaneId) (r : State × List Item) : (l.foldl g r).1.line = r.1.line := by
  induction l generalizing r with
  | nil => rfl
  | cons i l ih => exact (ih _).trans (h r i)

@[simp] theorem topUp_line (items : List Item) : (topUp s items).1.line = s.line := by
  unfold topUp
  rw [foldl_insert_line insertFeed_line, foldl_insert_line insertStop_line, foldl_insert_line insertAbort_line]
  exact foldl_line (fun _ i => creditLane_line items i) allLanes s

theorem insertAndSend_line : (insertAndSend s).line = s.line := by
  unfold insertAndSend
  split
  · rfl
  · split
    · dsimp only
      split <;> simp [buildReturn]
    · rfl

theorem haltItem_line (it : Item) : (haltItem s it).1.line = s.line := by
  unfold haltItem
  split
  · rfl
  · split
    · rfl
    · rfl
    · rfl
    · rfl
    · split
      · rfl
      · split
        · split <;> rfl
        · rfl

theorem haltItems_line (items : List Item) : (haltItems items s).1.line = s.line := by
  induction items generalizing s with
  | nil => rfl
  | cons it rest ih => exact ih.trans (haltItem_line it)

theorem walkHaltFrame_line : (walkHaltFrame s).line = s.line := by
  unfold walkHaltFrame
  split
  · rfl
  · split
    · simp [haltItems_line]
    · rfl

theorem fillAndSend_line : (fillAndSend s).line = s.line := by
  unfold fillAndSend
  split
  · rfl
  · split <;> rfl

/-! ### Requests on other records than the line's -/

/-- A check that branches to two replies leaves the line record alone when both do. -/
theorem ite_reply_line {c : Prop} [Decidable c] {x y : State × Reply} (hx : x.1.line = s.line) (hy : y.1.line = s.line) :
    (if c then x else y).1.line = s.line := by
  split
  next => exact hx
  next => exact hy

section Requests
variable (p : Payload) (tag : Half)

theorem requestStatusRead_line : (requestStatusRead p s).1.line = s.line := by
  unfold requestStatusRead
  split <;> rfl

theorem requestRoleSet_line : (requestRoleSet p s).1.line = s.line := by
  unfold requestRoleSet
  refine ite_reply_line rfl ?_
  split
  · exact ite_reply_line rfl rfl
  · rfl

theorem requestTimingSet_line : (requestTimingSet p s).1.line = s.line := by
  unfold requestTimingSet
  split <;> rfl

theorem requestLaneConfig_line : (requestLaneConfig p s).1.line = s.line := by
  unfold requestLaneConfig
  split
  · exact ite_reply_line rfl (ite_reply_line rfl rfl)
  · rfl

theorem requestGovernorSet_line : (requestGovernorSet p s).1.line = s.line := by
  unfold requestGovernorSet
  split
  · exact ite_reply_line rfl (ite_reply_line rfl rfl)
  · rfl

theorem requestLifeSet_line : (requestLifeSet tag p s).1.line = s.line := by
  unfold requestLifeSet
  split
  · exact ite_reply_line rfl (rewear_line ..)
  · rfl

theorem requestWearPreset_line : (requestWearPreset tag p s).1.line = s.line := by
  unfold requestWearPreset
  split
  · rfl
  · exact ite_reply_line rfl (rewear_line ..)

theorem requestBitChange_line : (requestBitChange p s).1.line = s.line := by
  unfold requestBitChange
  split
  · rfl
  · exact ite_reply_line rfl rfl

theorem requestLaneClear_line : (requestLaneClear p s).1.line = s.line := by
  unfold requestLaneClear
  split
  · rfl
  · dsimp only
    split
    · exact ite_reply_line rfl rfl
    · exact ite_reply_line rfl rfl
    · rfl
    · rfl

theorem requestLaneRead_line : (requestLaneRead p s).1.line = s.line := by
  unfold requestLaneRead
  split
  · rfl
  · dsimp only
    split <;> rfl

theorem requestRecipeOpen_line : (requestRecipeOpen p s).1.line = s.line := by
  unfold requestRecipeOpen
  refine ite_reply_line rfl ?_
  split
  · exact ite_reply_line rfl (ite_reply_line rfl (ite_reply_line rfl rfl))
  · rfl

theorem requestRecipeBoards_line : (requestRecipeBoards p s).1.line = s.line := by
  unfold requestRecipeBoards
  refine ite_reply_line rfl ?_
  split
  · rfl
  · exact ite_reply_line rfl (ite_reply_line rfl rfl)

theorem requestRecipeTabs_line : (requestRecipeTabs p s).1.line = s.line := by
  unfold requestRecipeTabs
  refine ite_reply_line rfl ?_
  split
  · rfl
  · exact ite_reply_line rfl (ite_reply_line rfl rfl)

theorem requestRecipeFinish_line : (requestRecipeFinish p s).1.line = s.line := by
  unfold requestRecipeFinish
  refine ite_reply_line rfl ?_
  split
  · rfl
  · refine ite_reply_line rfl ?_
    split <;> rfl

theorem requestRecipeDrop_line : (requestRecipeDrop p s).1.line = s.line := by
  unfold requestRecipeDrop
  refine ite_reply_line rfl ?_
  split
  · rfl
  · exact ite_reply_line rfl rfl

theorem requestRecipeRead_line : (requestRecipeRead p s).1.line = s.line := by
  unfold requestRecipeRead
  split
  · rfl
  · dsimp only
    split
    · rfl
    · exact ite_reply_line rfl rfl
    · exact ite_reply_line rfl rfl
    · rfl

theorem requestNestLoad_line : (requestNestLoad p s).1.line = s.line := by
  unfold requestNestLoad
  split
  · exact ite_reply_line rfl (ite_reply_line rfl rfl)
  · rfl

theorem requestNestUnload_line : (requestNestUnload p s).1.line = s.line := by
  unfold requestNestUnload
  split
  · rfl
  · exact ite_reply_line rfl (ite_reply_line rfl rfl)

theorem requestNestClear_line : (requestNestClear p s).1.line = s.line := by
  unfold requestNestClear
  split
  · rfl
  · exact ite_reply_line rfl (ite_reply_line rfl rfl)

theorem requestNestRead_line : (requestNestRead p s).1.line = s.line := by
  unfold requestNestRead
  split <;> rfl

theorem requestBoardRead_line : (requestBoardRead p s).1.line = s.line := by
  unfold requestBoardRead
  split
  · rfl
  · refine ite_reply_line rfl (ite_reply_line rfl ?_)
    split <;> rfl

theorem requestTabRead_line : (requestTabRead p s).1.line = s.line := by
  unfold requestTabRead
  split
  · rfl
  · refine ite_reply_line rfl ?_
    split <;> rfl

theorem requestPickerClear_line : (requestPickerClear p s).1.line = s.line := by
  unfold requestPickerClear
  split
  · rfl
  · dsimp only
    split
    · exact ite_reply_line rfl rfl
    · rfl
    · rfl

theorem requestBayConfig_line : (requestBayConfig p s).1.line = s.line := by
  unfold requestBayConfig
  split
  · exact ite_reply_line rfl (ite_reply_line rfl rfl)
  · rfl

theorem requestBayPreset_line : (requestBayPreset tag p s).1.line = s.line := by
  unfold requestBayPreset
  split
  · rfl
  · refine ite_reply_line rfl (ite_reply_line rfl ?_)
    dsimp only
    split <;> rfl

theorem requestBayRead_line : (requestBayRead p s).1.line = s.line := by
  unfold requestBayRead
  split
  · rfl
  · split
    · rfl
    · split
      · refine ite_reply_line rfl ?_
        split <;> rfl
      · rfl
    · rfl

end Requests

/-! ### All commands -/

/-- The commands that may write to the line record: frames and the watchdog through the hold causes (R142, R143, R150), the
safety input (R152), the resets' ends (R165) and five requests. -/
def writesLine : Instr → Bool
  | .frameArrival .. | .cycleWatchdogExpiry | .stopsenseChange _ | .filterTimerExpiry | .powerOnReset _ | .pinReset _
  | .run _ | .halt _ | .reset _ | .alertMask _ | .lock _ => true
  | _ => false

/-- Every other command has its effect and leaves the line record as it is. -/
theorem exec_line {c : Instr} (hc : writesLine c = false) : ∃ t, exec c s = .next t ∧ t.line = s.line := by
  have asked {kind : Byte} {w : Wire} {act : State → State × Reply} (h : (act s).1.line = s.line) :
      (walkRequest kind w act s).line = s.line := walkRequest_line (P := (· = s.line)) rfl h
  have timed {timer : Option Nat} {act : State → State} (h : ∀ t : State, (act t).line = t.line) :
      (expire timer act s).line = s.line := expire_line (P := (· = s.line)) rfl fun t ht => (h t).trans ht
  cases c with
  | frameArrival | cycleWatchdogExpiry | stopsenseChange | filterTimerExpiry | powerOnReset | pinReset => cases hc
  | run | halt | reset | alertMask | lock => cases hc
  | itemPass kind w =>
    refine ⟨_, rfl, ?_⟩
    split
    · exact walkItem_line (P := (· = s.line)) rfl fun _ => rfl
    · rfl
  | cut w => exact ⟨_, rfl, walkGated_line judgeCut_line⟩
  | spinStart w =>
    refine ⟨_, rfl, ?_⟩
    split
    · rfl
    · exact walkGated_line judgeStart_line
  | spinStop w =>
    refine ⟨_, rfl, ?_⟩
    split
    · exact walkGated_line fun _ _ _ => rfl
    · rfl
  | feed w => exact ⟨_, rfl, walkGated_line fun _ _ _ => rfl⟩
  | grip w => exact ⟨_, rfl, walkGated_line judgeGrip_line⟩
  | openJaws w => exact ⟨_, rfl, walkGated_line judgeOpen_line⟩
  | lift w => exact ⟨_, rfl, walkGated_line judgeLift_line⟩
  | place w => exact ⟨_, rfl, walkGated_line judgePlace_line⟩
  | shuttle w => exact ⟨_, rfl, walkGated_line judgeShuttle_line⟩
  | haltFrame => exact ⟨_, rfl, walkHaltFrame_line⟩
  | insertion => exact ⟨_, rfl, insertAndSend_line⟩
  | returnFill => exact ⟨_, rfl, fillAndSend_line⟩
  | cutDone w => exact ⟨_, rfl, walkReport_line (takeCutDone_line w)⟩
  | laneState w => exact ⟨_, rfl, walkReport_line (takeLaneState_line w)⟩
  | gripState w => exact ⟨_, rfl, walkReport_line (takeGripState_line w)⟩
  | tableState w => exact ⟨_, rfl, walkReport_line (takeTableState_line w)⟩
  | bayState w => exact ⟨_, rfl, walkReport_line (takeBayState_line w)⟩
  | placeDone w => exact ⟨_, rfl, walkReport_line (takePlaceDone_line w)⟩
  | cutTimerExpiry i => exact ⟨_, rfl, timed fun _ => cutTimedOut_line i⟩
  | jawTimerExpiry p => exact ⟨_, rfl, timed fun _ => jawExpired_line p⟩
  | placeTimerExpiry n b =>
    refine ⟨_, rfl, ?_⟩
    split
    next p hp => exact timed fun _ => endPlacement_line 0 p .timeout
    next => rfl
  | spinDownTimerExpiry i => exact ⟨_, rfl, timed fun _ => spinDownExpired_line i⟩
  | recoveryTimerExpiry i => exact ⟨_, rfl, timed fun _ => recoveryExpired_line i⟩
  | coolDownTimerExpiry i => exact ⟨_, rfl, timed fun _ => coolDownExpired_line i⟩
  | restoreTimerExpiry i => exact ⟨_, rfl, timed fun _ => restoreExpired_line i⟩
  | nresetAssert => exact ⟨_, rfl, rfl⟩
  | supplyApplied => exact ⟨_, rfl, rfl⟩
  | statusRead w => exact ⟨_, rfl, asked (requestStatusRead_line w.payload)⟩
  | roleSet w => exact ⟨_, rfl, asked (requestRoleSet_line w.payload)⟩
  | timingSet w => exact ⟨_, rfl, asked (requestTimingSet_line w.payload)⟩
  | laneConfig w => exact ⟨_, rfl, asked (requestLaneConfig_line w.payload)⟩
  | governorSet w => exact ⟨_, rfl, asked (requestGovernorSet_line w.payload)⟩
  | lifeSet w => exact ⟨_, rfl, asked (requestLifeSet_line w.payload w.tag)⟩
  | wearPreset w => exact ⟨_, rfl, asked (requestWearPreset_line w.payload w.tag)⟩
  | bitChange w => exact ⟨_, rfl, asked (requestBitChange_line w.payload)⟩
  | laneClear w => exact ⟨_, rfl, asked (requestLaneClear_line w.payload)⟩
  | laneRead w => exact ⟨_, rfl, asked (requestLaneRead_line w.payload)⟩
  | recipeOpen w => exact ⟨_, rfl, asked (requestRecipeOpen_line w.payload)⟩
  | recipeBoards w => exact ⟨_, rfl, asked (requestRecipeBoards_line w.payload)⟩
  | recipeTabs w => exact ⟨_, rfl, asked (requestRecipeTabs_line w.payload)⟩
  | recipeFinish w => exact ⟨_, rfl, asked (requestRecipeFinish_line w.payload)⟩
  | recipeDrop w => exact ⟨_, rfl, asked (requestRecipeDrop_line w.payload)⟩
  | recipeRead w => exact ⟨_, rfl, asked (requestRecipeRead_line w.payload)⟩
  | nestLoad w => exact ⟨_, rfl, asked (requestNestLoad_line w.payload)⟩
  | nestUnload w => exact ⟨_, rfl, asked (requestNestUnload_line w.payload)⟩
  | nestClear w => exact ⟨_, rfl, asked (requestNestClear_line w.payload)⟩
  | nestRead w => exact ⟨_, rfl, asked (requestNestRead_line w.payload)⟩
  | boardRead w => exact ⟨_, rfl, asked (requestBoardRead_line w.payload)⟩
  | tabRead w => exact ⟨_, rfl, asked (requestTabRead_line w.payload)⟩
  | pickerClear w => exact ⟨_, rfl, asked (requestPickerClear_line w.payload)⟩
  | bayConfig w => exact ⟨_, rfl, asked (requestBayConfig_line w.payload)⟩
  | bayPreset w => exact ⟨_, rfl, asked (requestBayPreset_line w.payload w.tag)⟩
  | bayRead w => exact ⟨_, rfl, asked (requestBayRead_line w.payload)⟩
  | undefinedRequest kind w =>
    refine ⟨_, rfl, ?_⟩
    split
    · exact asked rfl
    · rfl

end Sys2Proof.Machine

/-! RUN, HALT and LOCK (R151, R157): what each request makes of the line and answers, and that only LOCK and the ends of a power-on
and a pin reset change a lock. -/

namespace Sys2Proof.Machine

variable {s : State}

/-! ### RUN and HALT -/

/-- The state with its line in another line state. -/
def State.withLineState (s : State) (l : LineState) : State := { s with line := { s.line with state := l } }

theorem State.withLineState_self {l : LineState} (h : s.line.state = l) : s.withLineState l = s := by
  subst h; rfl

/-- R151: RUN starts an IDLE line whose filtered level is CLOSED. The hold-cause set does not read the line state (R150), so
the set after the request is the one before it. -/
theorem requestRun_starts (hidle : s.line.state = .idle) (hclosed : s.line.filtered = .closed) :
    requestRun s = (s.withLineState .running, .done, [LineState.running.code, s.holdSet.byte]) :=
  if_pos ⟨hidle, hclosed⟩

/-- R151: any other RUN changes nothing and answers STATE. -/
theorem requestRun_refused {l : LineState} (hl : s.line.state = l)
    (h : ¬(s.line.state = .idle ∧ s.line.filtered = .closed)) :
    requestRun s = (s, .state, [l.code, s.holdSet.byte]) := by
  subst hl; exact if_neg h

/-- R151: HALT takes a RUNNING line to IDLE. -/
theorem requestHalt_running (h : s.line.state = .running) :
    requestHalt s = (s.withLineState .idle, .done, [LineState.idle.code, s.holdSet.byte]) := by
  rw [requestHalt, if_pos h]
  rfl

/-- R151: a line that is not RUNNING stays as it is under HALT, and is answered DONE all the same. -/
theorem requestHalt_stays {l : LineState} (hl : s.line.state = l) (h : l ≠ .running) :
    requestHalt s = (s, .done, [l.code, s.holdSet.byte]) := by
  subst hl
  rw [requestHalt, if_neg h]
  rfl

/-- R151: HALT leaves a line that is not HELD in IDLE, whether it was RUNNING or IDLE already. -/
theorem requestHalt_idles (h : s.line.state ≠ .held) :
    requestHalt s = (s.withLineState .idle, .done, [LineState.idle.code, s.holdSet.byte]) := by
  cases hl : s.line.state with
  | running => exact requestHalt_running hl
  | idle => rw [State.withLineState_self hl]; exact requestHalt_stays hl (by decide)
  | held => exact absurd hl h

section Command
variable {f : DownFrame} {rest : List DownFrame} {w : Wire} {more : List Item} {s' : State} {r : Result} {fields : List Byte}

/-- R158: a request that gives this reply at the own address is answered with it. -/
theorem walkRequest_reply {kind : Byte} {act : State → State × Reply} (h : s.Asked f rest kind w more)
    (hr : act s = (s', r, fields)) : walkRequest kind w act s = s'.answeredOn f rest kind w more r fields := by
  rw [walkRequest_own h, hr]

theorem exec_run (h : s.Asked f rest 0x41 w more) (hr : requestRun s = (s', r, fields)) :
    exec (.run w) s = .next (s'.answeredOn f rest 0x41 w more r fields) :=
  congrArg Host.Outcome.next (walkRequest_reply h hr)

theorem exec_halt (h : s.Asked f rest 0x42 w more) (hr : requestHalt s = (s', r, fields)) :
    exec (.halt w) s = .next (s'.answeredOn f rest 0x42 w more r fields) :=
  congrArg Host.Outcome.next (walkRequest_reply h hr)

theorem exec_lock (h : s.Asked f rest 0x47 w more) (hr : requestLock w.payload s = (s', r, fields)) :
    exec (.lock w) s = .next (s'.answeredOn f rest 0x47 w more r fields) :=
  congrArg Host.Outcome.next (walkRequest_reply h hr)

end Command

/-- Settles O13: RUN starts the line in one case and is refused in the three others; HALT tells HELD from the rest. -/
theorem runAndHaltSetTheLine : Obligations.RunAndHaltSetTheLine := by
  intro w s f rest more under
  refine ⟨fun hrun => ⟨fun hidle hclosed => ?starts, fun hidle hopen => ?notClosed, fun hl => ?running, fun hl => ?held⟩,
    fun hhalt => ⟨fun hl => exec_halt hhalt (requestHalt_idles hl),
      fun hl => exec_halt hhalt (requestHalt_stays hl (by decide))⟩⟩
  case starts => exact exec_run hrun (requestRun_starts hidle hclosed)
  case notClosed => exact exec_run hrun (requestRun_refused hidle fun h => hopen h.2)
  case running => exact exec_run hrun (requestRun_refused hl (by simp [hl]))
  case held => exact exec_run hrun (requestRun_refused hl (by simp [hl]))

/-! ### LOCK -/

/-- R157: a byte above 1 is neither SET nor LEAVE. -/
theorem boolOfByte_of_one_lt {b : Byte} (h : 1 < b.toNat) : boolOfByte b = none := by
  have h0 : b ≠ 0 := by rintro rfl; simp at h
  have h1 : b ≠ 1 := by rintro rfl; simp at h
  simp only [boolOfByte, if_neg h0, if_neg h1]

theorem boolOfByte_of_le_one {b : Byte} (h : b.toNat ≤ 1) : boolOfByte b = some (decide (b = 1)) := by
  have hb : b = 0 ∨ b = 1 := by bv_omega
  rcases hb with rfl | rfl <;> rfl

/-- R157: a field that is neither SET nor LEAVE refuses the whole request. -/
theorem requestLock_refused {p : Payload} (h : 1 < (payloadByte p 4).toNat ∨ 1 < (payloadByte p 5).toNat) :
    requestLock p s = refuse .badArgument s := by
  unfold requestLock Operand.recipeLock Operand.limitLock
  rcases h with h | h
  · rw [boolOfByte_of_one_lt h]
  · rw [boolOfByte_of_one_lt h]
    split
    · contradiction
    · rfl

/-- R157: both fields are defined, so each lock stands afterwards if it did or its field is SET. -/
theorem requestLock_sets {p : Payload} (ha : (payloadByte p 4).toNat ≤ 1) (hb : (payloadByte p 5).toNat ≤ 1) :
    let r := s.line.recipeLock || decide (payloadByte p 4 = 1)
    let l := s.line.limitLock || decide (payloadByte p 5 = 1)
    requestLock p s =
      ({ s with line := { s.line with recipeLock := r, limitLock := l } }, .done, [boolByte r, boolByte l]) := by
  simp only [requestLock, Operand.recipeLock, Operand.limitLock, boolOfByte_of_le_one ha, boolOfByte_of_le_one hb]

/-- R157: whatever its fields, a LOCK clears neither lock. -/
theorem requestLock_keeps (p : Payload) :
    (s.line.recipeLock = true → (requestLock p s).1.line.recipeLock = true) ∧
      (s.line.limitLock = true → (requestLock p s).1.line.limitLock = true) := by
  unfold requestLock
  split
  next setRecipe setLimit _ _ => exact ⟨fun h => by simp [h], fun h => by simp [h]⟩
  next => exact ⟨id, id⟩

/-! ### The locks under every other command -/

/-- RECIPE-LOCK and LIMIT-LOCK. -/
def Line.locks (l : Line) : Bool × Bool := (l.recipeLock, l.limitLock)

@[simp] theorem judgeLine_locks (before : HoldSet) : (judgeLine before s).line.locks = s.line.locks := by
  obtain ⟨l, r, h⟩ := judgeLine_frame before s
  rw [h]; rfl

@[simp] theorem setPort_line (p : Port) (r : PortRec) : (setPort p r s).line = s.line := by cases p <;> rfl

theorem countFailed_locks (p : Port) : (countFailed p s).line.locks = s.line.locks := by
  unfold countFailed
  dsimp only
  split
  next => simp
  next => split <;> split <;> simp

theorem countGood_locks (p : Port) : (countGood p s).line.locks = s.line.locks := by
  unfold countGood
  dsimp only
  split
  next => split <;> simp
  next => split <;> simp

theorem restartWatchdog_locks : (restartWatchdog s).line.locks = s.line.locks := judgeLine_locks _

theorem handOn_locks (p : Port) (f : LinkFrame) : (handOn p f s).line.locks = s.line.locks := by
  unfold handOn
  split
  next =>
    split
    next => exact restartWatchdog_locks
    next => split <;> rfl
  next => split <;> rfl

theorem arrive_locks (p : Port) (bytes : List Byte) : (arrive p bytes s).line.locks = s.line.locks := by
  unfold arrive
  split
  next => rfl
  next =>
    split
    next => exact countFailed_locks p
    next =>
      split
      next => exact (handOn_locks p _).trans (countGood_locks p)
      next => exact countGood_locks p

theorem watchdogDeliver_line (s : State) (i : LaneId) : (watchdogDeliver s i).line = s.line := by
  unfold watchdogDeliver
  split
  next =>
    dsimp only
    split <;> split <;> rfl
  next => rfl

/-- R143: the halt frame and what it delivers leave the line as the watchdog's hold cause put it. -/
theorem watchdogExpired_locks : (watchdogExpired s).line.locks = s.line.locks := by
  unfold watchdogExpired
  rw [foldl_line watchdogDeliver_line]
  exact judgeLine_locks _

theorem senseChange_locks (high : Bool) : (senseChange high s).line.locks = s.line.locks := by
  unfold senseChange
  split
  next => rfl
  next =>
    dsimp only
    split
    next => rfl
    next => split <;> rfl

theorem filterExpired_locks (high : Bool) : (filterExpired high s).line.locks = s.line.locks := judgeLine_locks _

theorem requestRun_locks : (requestRun s).1.line.locks = s.line.locks := by
  unfold requestRun
  split <;> rfl

theorem requestHalt_locks : (requestHalt s).1.line.locks = s.line.locks := by
  unfold requestHalt
  dsimp only
  split <;> rfl

/-- R157: every command but LOCK and the ends of a power-on and a pin reset leaves both locks as they are, a link reset too. -/
theorem exec_locks {c : Instr} (hlock : ∀ w, c ≠ .lock w) (hreset : ∀ a, c ≠ .powerOnReset a ∧ c ≠ .pinReset a) :
    ∃ t, exec c s = .next t ∧ t.line.locks = s.line.locks := by
  have asked {kind : Byte} {w : Wire} {act : State → State × Reply} (h : (act s).1.line.locks = s.line.locks) :
      (walkRequest kind w act s).line.locks = s.line.locks :=
    walkRequest_line (P := fun l => l.locks = s.line.locks) rfl h
  have timed {timer : Option Nat} {act : State → State} (h : ∀ t : State, (act t).line.locks = t.line.locks) :
      (expire timer act s).line.locks = s.line.locks :=
    expire_line (P := fun l => l.locks = s.line.locks) rfl fun t ht => (h t).trans (congrArg Line.locks ht)
  have unwritten (hc : writesLine c = false) : ∃ t, exec c s = .next t ∧ t.line.locks = s.line.locks :=
    (exec_line hc).imp fun _ h => h.imp_right (congrArg Line.locks)
  cases c with
  | lock w => exact absurd rfl (hlock w)
  | powerOnReset a => exact absurd rfl (hreset a).1
  | pinReset a => exact absurd rfl (hreset a).2
  | frameArrival port bytes => exact ⟨_, rfl, arrive_locks port bytes⟩
  | cycleWatchdogExpiry => exact ⟨_, rfl, timed fun _ => watchdogExpired_locks⟩
  | stopsenseChange high => exact ⟨_, rfl, senseChange_locks high⟩
  | filterTimerExpiry =>
    refine ⟨_, rfl, ?_⟩
    split
    next timer _ => exact timed fun _ => filterExpired_locks timer.high
    next => rfl
  | run w => exact ⟨_, rfl, asked requestRun_locks⟩
  | halt w => exact ⟨_, rfl, asked requestHalt_locks⟩
  | reset w => exact ⟨_, rfl, asked rfl⟩
  | alertMask w => exact ⟨_, rfl, asked rfl⟩
  | _ => exact unwritten rfl

/-- Settles O17: LOCK by the values its two fields take, the reset ends by the values they give the line, and every other
command by `exec_locks`. -/
theorem locksAreSetAndLast : Obligations.LocksAreSetAndLast := by
  refine ⟨fun w s f rest more h => ⟨fun hbad => exec_lock h (requestLock_refused hbad),
    fun ha hb => exec_lock h (requestLock_sets ha hb)⟩, fun c s t ht => ⟨?resets, fun hreset => ?others⟩⟩
  case resets =>
    rintro ⟨a, rfl | rfl⟩
    · obtain rfl := Host.Outcome.next.inj ht
      exact ⟨rfl, rfl⟩
    · obtain rfl := Host.Outcome.next.inj ht
      exact ⟨rfl, rfl⟩
  case others =>
    by_cases hlock : ∃ w, c = .lock w
    · obtain ⟨w, rfl⟩ := hlock
      obtain rfl := Host.Outcome.next.inj ht
      obtain ⟨hrecipe, hlimit⟩ := walkRequest_line (kind := Kind.lock) (w := w)
        (P := fun l => (s.line.recipeLock = true → l.recipeLock = true) ∧ (s.line.limitLock = true → l.limitLock = true))
        ⟨id, id⟩ (requestLock_keeps w.payload)
      exact ⟨hrecipe, hlimit, fun hno => absurd rfl (hno w)⟩
    · obtain ⟨t', ht', hlocks⟩ := exec_locks (s := s) (not_exists.mp hlock) hreset
      obtain rfl := Host.Outcome.next.inj (ht'.symm.trans ht)
      obtain ⟨hrecipe, hlimit⟩ := Prod.ext_iff.mp hlocks
      exact ⟨hrecipe.trans, hlimit.trans, fun _ => ⟨hrecipe, hlimit⟩⟩

end Sys2Proof.Machine

/-! Frames read back as they are written (R133, R166): the bytes of numbers, of items and of frames, in both directions. -/

namespace Sys2Proof.Machine

/-! ### The bytes of numbers -/

theorem leBytes_ofLeBytes (bs : List Byte) : leBytes bs.length (ofLeBytes bs) = bs := by
  induction bs with
  | nil => rfl
  | cons b bs ih =>
    have hb : b.toNat < 256 := b.isLt
    have hlow : BitVec.ofNat 8 (b.toNat + 256 * ofLeBytes bs) = b := by
      apply BitVec.eq_of_toNat_eq
      rw [BitVec.toNat_ofNat]
      omega
    have hhigh : (b.toNat + 256 * ofLeBytes bs) / 256 = ofLeBytes bs := by omega
    simp only [List.length_cons, ofLeBytes, leBytes, hlow, hhigh, ih]

theorem ofLeBytes_lt (bs : List Byte) : ofLeBytes bs < 256 ^ bs.length := by
  induction bs with
  | nil => decide
  | cons b bs ih =>
    have hb : b.toNat < 256 := b.isLt
    simp only [ofLeBytes, List.length_cons, Nat.pow_succ]
    omega

/-- A field of `k` bytes holds the number its bits hold. -/
theorem ofNat_ofLeBytes_leBytes (k : Nat) {n : Nat} (hn : n = 8 * k) (x : BitVec n) :
    BitVec.ofNat n (ofLeBytes (leBytes k x.toNat)) = x := by
  subst hn
  have hx : x.toNat < 256 ^ k := by
    rw [show 256 = 2 ^ 8 from rfl, ← Nat.pow_mul]
    exact x.isLt
  rw [ofLeBytes_leBytes, Nat.mod_eq_of_lt hx]
  simp

theorem leBytes_toNat_ofNat (k : Nat) {n : Nat} (hn : n = 8 * k) {bs : List Byte} (hbs : bs.length = k) :
    leBytes k (BitVec.ofNat n (ofLeBytes bs)).toNat = bs := by
  subst hn hbs
  have hlt : ofLeBytes bs < 2 ^ (8 * bs.length) := by
    have := ofLeBytes_lt bs
    rwa [show 256 = 2 ^ 8 from rfl, ← Nat.pow_mul] at this
  rw [BitVec.toNat_ofNat, Nat.mod_eq_of_lt hlt, leBytes_ofLeBytes]

/-! ### The bytes of items -/

@[simp] theorem length_itemBytes (it : Item) : (itemBytes it).length = 16 := by simp [itemBytes, length_leBytes]

theorem itemBytes_itemOfBytes {bs : List Byte} (h : bs.length = 16) : itemBytes (itemOfBytes bs) = bs := by
  obtain ⟨a, k, rest, rfl⟩ : ∃ a k rest, bs = a :: k :: rest := by
    match bs, h with
    | a :: k :: rest, _ => exact ⟨a, k, rest, rfl⟩
  have hrest : rest.length = 14 := by simpa using h
  have htag : (rest.take 2).length = 2 := by simp [hrest]
  have hpay : ((rest.drop 2).take 12).length = 12 := by simp [hrest]
  simp only [itemBytes, itemOfBytes, payloadOf, List.getD_cons_zero, List.getD_cons_succ, List.drop_succ_cons, List.drop_zero,
    leBytes_toNat_ofNat 2 rfl htag, leBytes_toNat_ofNat 12 rfl hpay]
  rw [List.take_of_length_le (by simp [hrest] : (rest.drop 2).length ≤ 12), List.append_assoc, List.take_append_drop]
  rfl

@[simp] theorem length_flatMap_itemBytes (items : List Item) : (items.flatMap itemBytes).length = 16 * items.length := by
  induction items with
  | nil => rfl
  | cons it items ih =>
    simp only [List.flatMap_cons, List.length_append, length_itemBytes, ih, List.length_cons]
    omega

theorem parseItems_flatMap (items : List Item) (rest : List Byte) :
    parseItems items.length (items.flatMap itemBytes ++ rest) = items := by
  induction items with
  | nil => rfl
  | cons it items ih =>
    have hlen := length_itemBytes it
    simp only [List.length_cons, parseItems, List.flatMap_cons, List.append_assoc]
    rw [List.take_left' hlen, List.drop_left' hlen, itemOfBytes_itemBytes, ih]

theorem length_parseItems (n : Nat) (bs : List Byte) : (parseItems n bs).length = n := by
  induction n generalizing bs with
  | zero => rfl
  | succ n ih => simp [parseItems, ih]

theorem flatMap_parseItems (n : Nat) {bs : List Byte} (h : 16 * n ≤ bs.length) :
    (parseItems n bs).flatMap itemBytes = bs.take (16 * n) := by
  induction n generalizing bs with
  | zero => simp [parseItems]
  | succ n ih =>
    have hitem : (bs.take 16).length = 16 := by
      rw [List.length_take]
      omega
    have hrest : 16 * n ≤ (bs.drop 16).length := by
      rw [List.length_drop]
      omega
    rw [parseItems, List.flatMap_cons, itemBytes_itemOfBytes hitem, ih hrest, show 16 * (n + 1) = 16 + 16 * n by omega,
      List.take_add]

/-! ### The bytes of frames -/

theorem length_frameBody (f : LinkFrame) : (frameBody f).length = 4 + 16 * f.items.length := by
  simp only [frameBody, List.length_append, length_leBytes, length_flatMap_itemBytes, List.length_cons, List.length_nil]

theorem length_checkBytes (c : BitVec 32) : (checkBytes c).length = 4 := by simp [checkBytes, length_leBytes]

theorem parseFrame_frameBytes {f : LinkFrame} (h : f.items.length ≤ 24) : parseFrame (frameBytes f) = some f := by
  have hcount : ((frameBytes f).getD 1 0).toNat = f.items.length := by
    simp only [frameBytes, frameBody, List.cons_append, List.getD_cons_succ, List.getD_cons_zero, BitVec.toNat_ofNat]
    omega
  have hbody : (frameBytes f).take (4 + 16 * f.items.length) = frameBody f := List.take_left' (length_frameBody f)
  have hcheck : (frameBytes f).drop (4 + 16 * f.items.length) = checkBytes (crc32 (frameBody f)) :=
    List.drop_left' (length_frameBody f)
  have hlen : (frameBytes f).length = 8 + 16 * f.items.length := by
    rw [frameBytes, List.length_append, length_frameBody, length_checkBytes]
    omega
  have hrest : (frameBytes f).drop 2 =
      leBytes 2 f.cycle.toNat ++ (f.items.flatMap itemBytes ++ checkBytes (crc32 (frameBody f))) := by
    simp only [frameBytes, frameBody, List.cons_append, List.nil_append, List.drop_succ_cons, List.drop_zero, List.append_assoc]
  have hcycle : ((frameBytes f).drop 2).take 2 = leBytes 2 f.cycle.toNat := by
    rw [hrest, List.take_left' (length_leBytes 2 _)]
  have hitems : (frameBytes f).drop 4 = f.items.flatMap itemBytes ++ checkBytes (crc32 (frameBody f)) := by
    rw [show 4 = 2 + 2 from rfl, ← List.drop_drop, hrest, List.drop_left' (length_leBytes 2 _)]
  simp only [parseFrame, hcount, hbody, hcheck, hlen, hcycle, hitems]
  rw [if_pos ⟨h, trivial, trivial⟩, parseItems_flatMap, ofNat_ofLeBytes_leBytes 2 rfl]
  rfl

theorem frameBytes_of_parseFrame {bs : List Byte} {f : LinkFrame} (h : parseFrame bs = some f) :
    frameBytes f = bs ∧ f.items.length ≤ 24 := by
  unfold parseFrame at h
  dsimp only at h
  split at h
  next hok =>
    obtain ⟨hmax, hlen, hcheck⟩ := hok
    obtain rfl := Option.some.inj h
    obtain ⟨k, c, rest, rfl⟩ : ∃ k c rest, bs = k :: c :: rest := by
      match bs, hlen with
      | [], hlen => simp at hlen
      | [_], hlen => simp at hlen
      | k :: c :: rest, _ => exact ⟨k, c, rest, rfl⟩
    simp only [List.getD_cons_succ, List.getD_cons_zero, List.length_cons, List.drop_succ_cons, List.drop_zero] at hmax hlen hcheck ⊢
    have hcycle : (rest.take 2).length = 2 := by
      rw [List.length_take]
      omega
    have hroom : 16 * c.toNat ≤ (rest.drop 2).length := by
      rw [List.length_drop]
      omega
    have hbody : frameBody { kind := k, cycle := BitVec.ofNat 16 (ofLeBytes (rest.take 2)), items := parseItems c.toNat (rest.drop 2) }
        = (k :: c :: rest).take (4 + 16 * c.toNat) := by
      simp only [frameBody, length_parseItems, leBytes_toNat_ofNat 2 rfl hcycle, flatMap_parseItems _ hroom, BitVec.ofNat_toNat,
        BitVec.setWidth_eq]
      rw [show 4 + 16 * c.toNat = 16 * c.toNat + 2 + 1 + 1 by omega, List.take_succ_cons, List.take_succ_cons,
        show 16 * c.toNat + 2 = 2 + 16 * c.toNat by omega, List.take_add]
      rfl
    refine ⟨?_, by rw [length_parseItems]; exact hmax⟩
    rw [frameBytes, hbody, hcheck, List.take_append_drop]
  next => cases h

/-- Settles O4. -/
theorem framesReadBack : Obligations.FramesReadBack :=
  ⟨fun _ h => parseFrame_frameBytes h, fun _ _ h => frameBytes_of_parseFrame h⟩

end Sys2Proof.Machine

/-! Footprints: which records of the state each operation may touch. A command keeps whatever depends on other records alone. -/

namespace Sys2Proof.Machine

/-- The records of the state, by name, and five things said of records: the answer queue has not grown (`answers`), the return
path stays within its bounds (`path`, R145, R147), the frames in passage and sent stay in order (`frames`, R133), the nests hold
the panels they were loaded with (`panel`, R17 to R19), and the lanes are bound to the tabs they were bound to (`cuts`, R36). -/
inductive Part where
  | pending | now | free | pins | portU | portD | down | up | sentD | sentU | lastOrder | roles | recipes | nests | table
  | lanes | pickers | bays | placements | ret | line | timing | answers | path | frames | panel | cuts
  deriving DecidableEq

/-- The first records are among the second. -/
def Part.covers (G F : List Part) : Bool := G.all fun p => F.any fun q => decide (p = q)

/-- The first records are none of the second. -/
def Part.apart (D F : List Part) : Bool := D.all fun p => F.all fun q => decide (p ≠ q)

theorem Part.covers_iff {G F : List Part} : Part.covers G F = true ↔ ∀ p ∈ G, p ∈ F := by
  simp [Part.covers]

theorem Part.apart_iff {D F : List Part} : Part.apart D F = true ↔ ∀ p ∈ D, p ∉ F := by
  simp only [Part.apart, List.all_eq_true, decide_eq_true_eq]
  exact forall_congr' fun p => forall_congr' fun _ => ⟨fun h hp => h p hp rfl, fun h q hq e => h (e ▸ hq)⟩

/-- R18: what a board record keeps from its loading to its end. -/
def BoardRec.fixed (b : BoardRec) : Nat × Nat × Nat × List Nat := (b.variant, b.height, b.hold, b.tabs)

/-- R17 to R19: what a nest keeps from its loading to its unloading. -/
def NestRec.panel (r : NestRec) : Bool × SlotId × List (Nat × Nat × Nat × List Nat) × List Nat :=
  (decide (r.state = .empty), r.slot, r.boards.map BoardRec.fixed, r.tabs.map TabRec.board)

/-- R36: the tab a lane is bound to. -/
def Lane.cutTab (l : Lane) : Option (Nest × Nat) := l.binding.map fun b => (b.nest, b.tab)

/-- A record is the same in two states, or what is said of it carries over. -/
def State.Same (s t : State) : Part → Prop
  | .pending => t.pending = s.pending
  | .now => t.now = s.now
  | .free => t.free = s.free
  | .pins => t.pins = s.pins
  | .portU => t.portU = s.portU
  | .portD => t.portD = s.portD
  | .down => t.down = s.down
  | .up => t.up = s.up
  | .sentD => t.sentD = s.sentD
  | .sentU => t.sentU = s.sentU
  | .lastOrder => t.lastOrder = s.lastOrder
  | .roles => t.roles = s.roles
  | .recipes => t.recipes = s.recipes
  | .nests => t.nests = s.nests
  | .table => t.table = s.table
  | .lanes => t.lanes = s.lanes
  | .pickers => t.pickers = s.pickers
  | .bays => t.bays = s.bays
  | .placements => t.placements = s.placements
  | .ret => t.ret = s.ret
  | .line => t.line = s.line
  | .timing => t.timing = s.timing
  | .answers => t.ret.answers.length ≤ s.ret.answers.length
  | .path => s.ret.Ok → t.ret.Ok
  | .frames => s.FramesOk → t.FramesOk
  | .panel => ∀ n, (t.nest n).panel = (s.nest n).panel
  | .cuts => ∀ i, (t.lane i).cutTab = (s.lane i).cutTab

/-- A state with one record taken from another. -/
def State.take (u t : State) : Part → State
  | .pending => { u with pending := t.pending }
  | .now => { u with now := t.now }
  | .free => { u with free := t.free }
  | .pins => { u with pins := t.pins }
  | .portU => { u with portU := t.portU }
  | .portD => { u with portD := t.portD }
  | .down => { u with down := t.down }
  | .up => { u with up := t.up }
  | .sentD => { u with sentD := t.sentD }
  | .sentU => { u with sentU := t.sentU }
  | .lastOrder => { u with lastOrder := t.lastOrder }
  | .roles => { u with roles := t.roles }
  | .recipes => { u with recipes := t.recipes }
  | .nests => { u with nests := t.nests }
  | .table => { u with table := t.table }
  | .lanes => { u with lanes := t.lanes }
  | .pickers => { u with pickers := t.pickers }
  | .bays => { u with bays := t.bays }
  | .placements => { u with placements := t.placements }
  | .ret => { u with ret := t.ret }
  | .line => { u with line := t.line }
  | .timing => { u with timing := t.timing }
  | .answers | .path | .frames | .panel | .cuts => u

/-- The records that something said of records speaks of. -/
def Part.sources : Part → List Part
  | .answers | .path => [.ret]
  | .frames => [.down, .up, .sentD, .sentU]
  | .panel => [.nests]
  | .cuts => [.lanes]
  | _ => []

/-- What is said of records rests on records that are left alone, or may change as well. -/
def Part.closed (L F : List Part) : Bool := L.all fun p => Part.covers [p] F || Part.apart p.sources F

/-- The second state differs from the first in the named records at most. -/
structure Touches (F : List Part) (s t : State) : Prop where
  same : ∀ p, p ∉ F → s.Same t p

section Calculus
variable {F G : List Part} {s t u : State}

theorem State.Same.refl (s : State) (p : Part) : s.Same s p := by
  cases p with
  | answers => exact le_rfl
  | path => exact id
  | frames => exact id
  | panel => exact fun _ => rfl
  | cuts => exact fun _ => rfl
  | _ => rfl

theorem State.Same.trans {p : Part} (h : s.Same t p) (h' : t.Same u p) : s.Same u p := by
  cases p with
  | answers => exact Nat.le_trans h' h
  | path => exact fun hs => h' (h hs)
  | frames => exact fun hs => h' (h hs)
  | panel => exact fun n => (h' n).trans (h n)
  | cuts => exact fun i => (h' i).trans (h i)
  | _ => exact Eq.trans h' h

theorem State.same_take {p q : Part} (h : p ≠ q) (hp : p.sources = []) (u t : State) : u.Same (u.take t q) p := by
  cases p <;> cases q <;> first | rfl | exact absurd rfl h | cases hp

theorem Touches.refl (s : State) : Touches F s s := ⟨fun p _ => .refl s p⟩

theorem Touches.weaken (h : Touches G s t) (hG : ∀ p ∈ G, p ∈ F) : Touches F s t := ⟨fun p hp => h.same p (mt (hG p) hp)⟩

theorem Touches.mono (h : Touches G s t) (hG : Part.covers G F = true) : Touches F s t := h.weaken (Part.covers_iff.mp hG)

theorem Touches.trans (h : Touches F s t) (h' : Touches F t u) : Touches F s u := ⟨fun p hp => (h.same p hp).trans (h'.same p hp)⟩

/-- One operation after another. -/
theorem Touches.comp (h : Touches F s t) (h' : Touches G t u) (hG : Part.covers G F = true) : Touches F s u :=
  h.trans (h'.mono hG)

/-- A record outside the named ones is unchanged. -/
theorem Touches.at (h : Touches F s t) (p : Part) (hp : Part.apart [p] F = true) : s.Same t p :=
  h.same p (Part.apart_iff.mp hp p (List.mem_singleton.mpr rfl))

theorem State.same_foldl_take {p : Part} (hp : p.sources = []) (F : List Part) (hF : p ∉ F) (v t : State) :
    v.Same (F.foldl (fun u q => u.take t q) v) p := by
  induction F generalizing v with
  | nil => exact .refl v p
  | cons q F ih =>
    rw [List.mem_cons, not_or] at hF
    exact (State.same_take hF.1 hp v t).trans (ih hF.2 _)

/-- Where the records it speaks of are the same, what is said of them carries over. -/
theorem State.same_of_sources {p : Part} (hp : p.sources ≠ []) (h : ∀ q ∈ p.sources, s.Same t q) : s.Same t p := by
  cases p with
  | answers =>
    have hret : t.ret = s.ret := h .ret (by simp [Part.sources])
    exact (congrArg (fun r : ReturnPath => r.answers.length) hret).le
  | path =>
    have hret : t.ret = s.ret := h .ret (by simp [Part.sources])
    exact fun hs => hret ▸ hs
  | frames =>
    have hdown : t.down = s.down := h .down (by simp [Part.sources])
    have hup : t.up = s.up := h .up (by simp [Part.sources])
    have hsentD : t.sentD = s.sentD := h .sentD (by simp [Part.sources])
    have hsentU : t.sentU = s.sentU := h .sentU (by simp [Part.sources])
    exact fun hs => ⟨hdown ▸ hs.1, hup ▸ hs.2.1, hsentD ▸ hs.2.2.1, hsentU ▸ hs.2.2.2⟩
  | panel =>
    have hnests : t.nests = s.nests := h .nests (by simp [Part.sources])
    exact fun n => by simp only [State.nest, hnests]
  | cuts =>
    have hlanes : t.lanes = s.lanes := h .lanes (by simp [Part.sources])
    exact fun i => by simp only [State.lane, hlanes]
  | _ => exact absurd rfl hp

theorem State.sources_nil {p q : Part} (h : q ∈ p.sources) : q.sources = [] := by
  cases p <;> simp [Part.sources] at h <;> rcases h with rfl | rfl | rfl | rfl <;> rfl

/-- An operation without branches touches what it writes. -/
theorem Touches.of_take_but {L : List Part} (h : t = F.foldl (fun u p => u.take t p) s) (hF : Part.closed L F = true)
    (hL : ∀ p, p ∉ F → p ∉ L → p.sources ≠ [] → s.Same t p) : Touches F s t := by
  refine ⟨fun p hp => ?_⟩
  by_cases hs : p.sources = []
  · exact h ▸ State.same_foldl_take hs F hp s t
  · by_cases hmem : p ∈ L
    · refine State.same_of_sources hs fun q hq => ?_
      rcases Bool.or_eq_true _ _ ▸ List.all_eq_true.mp hF p hmem with hc | hc
      · exact absurd (Part.covers_iff.mp hc p (List.mem_singleton.mpr rfl)) hp
      · exact h ▸ State.same_foldl_take (State.sources_nil hq) F (Part.apart_iff.mp hc q hq) s t
    · exact hL p hp hmem hs

theorem Touches.of_take (h : t = F.foldl (fun u p => u.take t p) s)
    (hF : Part.closed [.answers, .path, .frames, .panel, .cuts] F = true) : Touches F s t := by
  refine .of_take_but h hF fun p _ hmem hs => ?_
  cases p <;> first | exact absurd rfl hs | exact absurd (by simp) hmem

/-- R145: a notice leaves the return path within its bounds, and the answers alone. -/
theorem ReturnPath.Ok.post {r : ReturnPath} (h : r.Ok) (p : Posted) : (r.post p).Ok := by
  obtain ⟨hanswers, hnotices, hlost, hoverflow, hfull⟩ := h
  unfold ReturnPath.post Config.noticeCap
  split
  next hroom =>
    refine ⟨hanswers, ?_, hlost, hoverflow, fun ho => absurd (hfull ho) (by omega)⟩
    simp only [List.length_append, List.length_singleton]
    omega
  next hroom => exact ⟨hanswers, hnotices, Nat.min_le_left _ _, by simp, fun _ => by dsimp only; omega⟩

/-- An operation that writes the return path by posting a notice. -/
theorem Touches.of_take_post {p : Posted} (h : t = F.foldl (fun u p => u.take t p) s)
    (hF : Part.closed [.frames, .panel, .cuts] F = true) (hret : t.ret = s.ret.post p) : Touches F s t := by
  refine .of_take_but h hF fun q _ hmem hs => ?_
  cases q with
  | answers => exact (by rw [hret, ReturnPath.post_answers] : t.ret.answers.length = s.ret.answers.length).le
  | path => exact fun hs => hret ▸ hs.post p
  | frames => exact absurd (by simp) hmem
  | panel => exact absurd (by simp) hmem
  | cuts => exact absurd (by simp) hmem
  | _ => exact absurd rfl hs

theorem Touches.setDown (h : Touches F s t) (hd : .down ∈ F) {d : List DownFrame}
    (hfit : s.FramesOk → ∀ f ∈ d, f.out.length + f.todo.length ≤ 24) : Touches F s { t with down := d } := by
  refine ⟨fun p hp => ?_⟩
  cases p with
  | down => exact absurd hd hp
  | frames => exact fun hs => ⟨hfit hs, (h.same .frames hp hs).2⟩
  | _ => exact h.same _ hp

theorem Touches.setUp (h : Touches F s t) (hu : .up ∈ F) {u : List UpFrame}
    (hfit : s.FramesOk → ∀ f ∈ u, f.items.length ≤ 24) : Touches F s { t with up := u } := by
  refine ⟨fun p hp => ?_⟩
  cases p with
  | up => exact absurd hu hp
  | frames => exact fun hs => ⟨(h.same .frames hp hs).1, hfit hs, (h.same .frames hp hs).2.2⟩
  | _ => exact h.same _ hp

/-- R133: a frame that leaves carries a good check word. -/
theorem Touches.sendDown (h : Touches F s t) (hd : .sentD ∈ F) {f : LinkFrame} (hfit : s.FramesOk → f.items.length ≤ 24) :
    Touches F s (sendDown f t) := by
  refine ⟨fun p hp => ?_⟩
  cases p with
  | sentD => exact absurd hd hp
  | frames =>
    intro hs
    obtain ⟨hdown, hup, hsentD, hsentU⟩ := h.same .frames hp hs
    refine ⟨hdown, hup, fun b hb => ?_, hsentU⟩
    rcases List.mem_append.mp hb with hb | hb
    · exact hsentD b hb
    · rw [List.mem_singleton.mp hb, parseFrame_frameBytes (hfit hs)]
      rfl
  | _ => exact h.same _ hp

theorem Touches.sendUp (h : Touches F s t) (hu : .sentU ∈ F) {f : LinkFrame} (hfit : s.FramesOk → f.items.length ≤ 24) :
    Touches F s (sendUp f t) := by
  refine ⟨fun p hp => ?_⟩
  cases p with
  | sentU => exact absurd hu hp
  | frames =>
    intro hs
    obtain ⟨hdown, hup, hsentD, hsentU⟩ := h.same .frames hp hs
    refine ⟨hdown, hup, hsentD, fun b hb => ?_⟩
    rcases List.mem_append.mp hb with hb | hb
    · exact hsentU b hb
    · rw [List.mem_singleton.mp hb, parseFrame_frameBytes (hfit hs)]
      rfl
  | _ => exact h.same _ hp

/-- The return path takes what its bounds allow. -/
theorem Touches.setRet (h : Touches F s t) (hr : .ret ∈ F) {r : ReturnPath} (hlen : .answers ∉ F → r.answers.length ≤ s.ret.answers.length)
    (hok : s.ret.Ok → r.Ok) : Touches F s { t with ret := r } := by
  refine ⟨fun p hp => ?_⟩
  cases p with
  | ret => exact absurd hr hp
  | answers => exact hlen hp
  | path => exact hok
  | _ => exact h.same _ hp

/-- The front frame has left. -/
theorem touches_dropDown {f : DownFrame} {rest : List DownFrame} (h : s.down = f :: rest) :
    Touches [.down] s { s with down := rest } :=
  (Touches.refl s).setDown List.mem_cons_self fun hs g hg => hs.1 g (h ▸ List.mem_cons_of_mem f hg)

theorem touches_dropUp {f : UpFrame} {rest : List UpFrame} (h : s.up = f :: rest) : Touches [.up] s { s with up := rest } :=
  (Touches.refl s).setUp List.mem_cons_self fun hs g hg => hs.2.1 g (h ▸ List.mem_cons_of_mem f hg)

/-- An item of the front frame moves from those to walk to those that will leave. -/
theorem State.FramesOk.walks (hs : s.FramesOk) {f : DownFrame} {rest : List DownFrame} {it : Item} (hdown : s.down = f :: rest)
    (hit : f.todo.head? = some it) (it' : Item) :
    ∀ g ∈ { f with todo := f.todo.tail, out := f.out ++ [it'] } :: rest, g.out.length + g.todo.length ≤ 24 := by
  obtain ⟨hfront, hrest⟩ := List.forall_mem_cons.mp (hdown ▸ hs.1)
  obtain ⟨more, htodo⟩ := List.head?_eq_some_iff.mp hit
  refine List.forall_mem_cons.mpr ⟨?_, hrest⟩
  simp only [htodo, List.length_append, List.length_cons, List.length_nil, List.tail_cons] at hfront ⊢
  omega

theorem touches_foldl {α : Type} {g : State → α → State} (h : ∀ s x, Touches F s (g s x)) (l : List α) (s : State) :
    Touches F s (l.foldl g s) := by
  induction l generalizing s with
  | nil => exact .refl s
  | cons x l ih => exact (h s x).trans (ih _)

/-- A choice between two operations touches what both may. -/
theorem Touches.ite {c : Prop} [Decidable c] (ht : Touches F s t) (hu : Touches F s u) : Touches F s (if c then t else u) := by
  split
  · exact ht
  · exact hu

end Calculus

variable (s : State)

/-! ### Updates of one record -/

theorem touches_post (tag : Half) (n : Notice) : Touches [.ret] s (post tag n s) :=
  .of_take_post rfl rfl rfl
/-- A lane that stays bound as it is. -/
theorem touches_setLane (i : LaneId) (l : Lane) (h : l.cutTab = (s.lane i).cutTab) : Touches [.lanes] s (setLane i l s) := by
  refine ⟨fun p hp => ?_⟩
  cases p with
  | lanes => exact absurd (by simp) hp
  | cuts =>
    intro j
    rw [lane_setLane]
    split
    next hij => exact hij ▸ h
    next => rfl
  | panel => exact fun _ => rfl
  | path => exact id
  | frames => exact id
  | answers => exact le_rfl
  | _ => rfl

theorem touches_modLane (i : LaneId) (f : Lane → Lane) (h : (f (s.lane i)).cutTab = (s.lane i).cutTab) :
    Touches [.lanes] s (modLane i f s) := touches_setLane s i _ h

theorem touches_modPicker (i : PickerId) (f : Picker → Picker) : Touches [.pickers] s (modPicker i f s) := .of_take rfl rfl
/-- A nest record that holds the same panel. -/
theorem touches_setNest (n : Nest) (r : NestRec) (h : r.panel = (s.nest n).panel) : Touches [.nests] s (setNest n r s) := by
  refine ⟨fun p hp => ?_⟩
  cases p with
  | nests => exact absurd (by simp) hp
  | panel =>
    intro m
    rw [nest_setNest]
    split
    next hnm => exact hnm ▸ h
    next => rfl
  | cuts => exact fun _ => rfl
  | path => exact id
  | frames => exact id
  | answers => exact le_rfl
  | _ => rfl

theorem touches_modNest (n : Nest) (f : NestRec → NestRec) (h : (f (s.nest n)).panel = (s.nest n).panel) :
    Touches [.nests] s (modNest n f s) := touches_setNest s n _ h

theorem NestRec.panel_modifyBoard (r : NestRec) (j : Nat) {f : BoardRec → BoardRec} (hf : ∀ b, (f b).fixed = b.fixed) :
    NestRec.panel { r with boards := r.boards.modify j f } = r.panel := by
  have hmap : (r.boards.modify j f).map BoardRec.fixed = r.boards.map BoardRec.fixed := by
    apply List.ext_getElem
    · simp
    · intro i hi hi'
      simp only [List.getElem_map, List.getElem_modify]
      split
      · exact hf _
      · rfl
  simp only [NestRec.panel, hmap]

theorem NestRec.panel_modifyTab (r : NestRec) (j : Nat) {f : TabRec → TabRec} (hf : ∀ t, (f t).board = t.board) :
    NestRec.panel { r with tabs := r.tabs.modify j f } = r.panel := by
  have hmap : (r.tabs.modify j f).map TabRec.board = r.tabs.map TabRec.board := by
    apply List.ext_getElem
    · simp
    · intro i hi hi'
      simp only [List.getElem_map, List.getElem_modify]
      split
      · exact hf _
      · rfl
  simp only [NestRec.panel, hmap]

theorem touches_modBoard (r : BoardRef) {f : BoardRec → BoardRec} (hf : ∀ b, (f b).fixed = b.fixed) :
    Touches [.nests] s (modBoard r f s) := touches_modNest s r.nest _ (NestRec.panel_modifyBoard _ _ hf)

theorem touches_modTab (n : Nest) (t : Nat) {f : TabRec → TabRec} (hf : ∀ t, (f t).board = t.board) :
    Touches [.nests] s (modTab n t f s) := touches_modNest s n _ (NestRec.panel_modifyTab _ _ hf)

theorem touches_modBay (b : BayId) (f : Bay → Bay) : Touches [.bays] s (modBay b f s) := .of_take rfl rfl
theorem touches_modRecipe (i : SlotId) (f : RecipeSlot → RecipeSlot) : Touches [.recipes] s (modRecipe i f s) := .of_take rfl rfl
theorem touches_closePlacement (r : BoardRef) : Touches [.placements] s (closePlacement r s) := .of_take rfl rfl
theorem touches_stopSpindle (i : LaneId) : Touches [.lanes] s (stopSpindle i s) := by
  refine touches_modLane s i _ ?_
  split <;> rfl

theorem touches_abortBound (pick : Binding → Bool) : Touches [.lanes] s (abortBound pick s) := by
  refine ⟨fun p hp => ?_⟩
  cases p with
  | lanes => exact absurd (by simp) hp
  | cuts =>
    intro i
    rw [lane_abortBound]
    split <;> rfl
  | panel => exact fun _ => rfl
  | path => exact id
  | frames => exact id
  | answers => exact le_rfl
  | _ => rfl

theorem touches_giveAbort (i : LaneId) : Touches [.lanes] s (giveAbort i s) := touches_modLane s i _ (by rfl)
theorem touches_becomeFull (tag : Half) (b : BayId) : Touches [.bays, .ret] s (becomeFull tag b s) :=
  .of_take_post rfl rfl rfl
theorem touches_emptyPicker (p : PickerId) : Touches [.pickers] s (emptyPicker p s) := .of_take rfl rfl
theorem touches_endCut (i : LaneId) (matched : Bool) : Touches [.lanes, .cuts] s (endCut i matched s) := .of_take rfl rfl
theorem touches_faultTab (n : Nest) (tab : Nat) (c : Bool) : Touches [.nests] s (faultTab n tab c s) :=
  (touches_modTab s n tab (by exact fun _ => rfl)).comp (touches_modBoard _ _ (by exact fun _ => rfl)) rfl
theorem touches_badReport (kind : Byte) (w : Wire) : Touches [.ret] s (badReport kind w s) := touches_post s _ _
theorem touches_markSensed (r : BoardRef) (cycle : Half) : Touches [.placements] s (markSensed r cycle s) := .of_take rfl rfl

/-! ### Shared operations -/

section Bound
variable (l : Lane)

theorem Lane.placeByCauses_cutTab (now : Nat) : (l.placeByCauses now).cutTab = l.cutTab := by
  unfold Lane.placeByCauses
  split <;> rfl

theorem Lane.govAbort_cutTab : l.govAbort.cutTab = l.cutTab := by
  simp only [Lane.cutTab, Lane.govAbort, Option.map_map]
  rfl

theorem Lane.toReady_cutTab : l.toReady.cutTab = l.cutTab := by
  unfold Lane.toReady
  split <;> rfl

theorem Lane.newCause_cutTab (now : Nat) (c : Cause) : (l.newCause now c).cutTab = l.cutTab := by
  unfold Lane.newCause
  dsimp only
  split
  all_goals
    split
    next =>
      split
      next => exact Lane.govAbort_cutTab _
      next => rfl
    next => exact Lane.placeByCauses_cutTab _ _

theorem Lane.sameCause_cutTab (now : Nat) (c : Cause) : (l.sameCause now c).cutTab = l.cutTab := by
  unfold Lane.sameCause
  dsimp only
  split
  next =>
    split
    next => exact Lane.govAbort_cutTab _
    next => rfl
  next => rfl

theorem Lane.withLife_cutTab (life : Life) : (l.withLife life).cutTab = l.cutTab := by
  simp only [Lane.cutTab, Lane.withLife_binding]

theorem Lane.spindleReport_cutTab (speed : Nat) : (l.spindleReport speed).cutTab = l.cutTab := by
  unfold Lane.spindleReport
  split
  · split <;> rfl
  · split <;> rfl
  · rfl

theorem Lane.configured_cutTab (now : Nat) (active : Bool) (cutT spinT wait : Nat) (mode : RecoveryMode) :
    (l.configured now active cutT spinT wait mode).cutTab = l.cutTab := by
  have hcause (c : Prop) [Decidable c] (x y : Lane) (hx : x.cutTab = l.cutTab) (hy : y.cutTab = l.cutTab) :
      (if c then x else y).cutTab = l.cutTab := by
    split
    · exact hx
    · exact hy
  unfold Lane.configured
  refine hcause _ _ _ (hcause _ _ _ ((Lane.toReady_cutTab _).trans ?_) ?_) ?_
  all_goals exact hcause _ _ _ rfl (hcause _ _ _ rfl rfl)

end Bound

theorem touches_raiseCause (tag : Half) (i : LaneId) (c : Cause) : Touches [.lanes, .ret] s (raiseCause tag i c s) :=
  .ite (.refl s) (.ite ((touches_setLane s i _ (Lane.sameCause_cutTab _ _ _)).mono rfl)
    (((touches_setLane s i _ (Lane.newCause_cutTab _ _ _)).mono rfl).comp (touches_post _ tag _) rfl))

theorem touches_rewear (tag : Half) (cause : LimitCause) (i : LaneId) (f : Life → Life) :
    Touches [.lanes, .ret] s (rewear tag cause i f s) := by
  have hset (life : Life) : Touches [.lanes, .ret] s (setLane i ((s.lane i).withLife life) s) :=
    (touches_setLane s i _ (Lane.withLife_cutTab _ _)).mono rfl
  have hwarn {c : Prop} [Decidable c] {life : Life} {n : Notice} : Touches [.lanes, .ret] s
      (if c then post tag n (setLane i ((s.lane i).withLife life) s) else setLane i ((s.lane i).withLife life) s) :=
    .ite ((hset _).comp (touches_post _ tag _) rfl) (hset _)
  exact .ite (.ite (hwarn.comp (touches_post _ tag _) rfl) (.ite (hwarn.comp (touches_post _ tag _) rfl) hwarn)) hwarn

theorem touches_settleNest (tag : Half) (n : Nest) : Touches [.nests, .ret] s (settleNest tag n s) := by
  unfold settleNest
  dsimp only
  split
  next h =>
    refine Touches.comp (Touches.mono (touches_setNest s n _ ?_) rfl) (touches_post _ tag _) rfl
    simp [NestRec.panel, h.1]
  next => exact .refl s

theorem touches_unbind (p : PickerId) : Touches [.nests, .pickers] s (unbind p s) := by
  unfold unbind
  split
  next r _ =>
    exact ((touches_modBoard s r (f := fun b => { b with picker := none }) fun _ => rfl).mono rfl).comp (touches_modPicker _ p _) rfl
  next => exact (touches_modPicker s p _).mono rfl

theorem touches_completePlacement (tag : Half) (p : Placement) (cycle : Half) :
    Touches [.placements, .nests, .bays, .ret] s (completePlacement tag p cycle s) := by
  refine Touches.comp (Touches.comp (Touches.comp ?_ (touches_modBay _ p.dest.bay _) rfl)
    (touches_modBoard _ p.ref (by exact fun _ => rfl)) rfl) (touches_settleNest _ tag _) rfl
  exact (touches_closePlacement s p.ref).mono rfl

theorem BoardRec.fixed_unplaced (b : BoardRec) : b.unplaced.fixed = b.fixed := by
  unfold BoardRec.unplaced
  split <;> rfl

theorem touches_endPlacement (tag : Half) (p : Placement) (reason : PlaceReason) :
    Touches [.placements, .nests, .bays, .ret] s (endPlacement tag p reason s) := by
  refine Touches.comp (Touches.comp (Touches.comp (Touches.comp ?_ (touches_modBay _ p.dest.bay _) rfl)
    (touches_modBoard _ p.ref BoardRec.fixed_unplaced) rfl) (touches_settleNest _ tag _) rfl) (touches_post _ tag _) rfl
  exact (touches_closePlacement s p.ref).mono rfl

theorem touches_judgeLine (before : HoldSet) : Touches [.line, .ret] s (judgeLine before s) := by
  have hline (l : LineState) : Touches [.line, .ret] s { s with line := { s.line with state := l } } :=
    Touches.mono (G := [.line]) (.of_take rfl rfl) rfl
  exact .ite (.refl s) (.ite ((hline _).comp (touches_post _ 0 _) rfl) (hline _))

theorem touches_setPort (p : Port) (r : PortRec) : Touches [.portU, .portD] s (setPort p r s) := by
  cases p
  · exact Touches.mono (G := [.portU]) (.of_take rfl rfl) rfl
  · exact Touches.mono (G := [.portD]) (.of_take rfl rfl) rfl

/-! ### The walk -/

section Walk
variable {s} {F G : List Part}

theorem touches_walkItem {it : Item} {g : Half → State → State × Item} (h : ∀ cycle, Touches F s (g cycle s).1)
    (hd : Part.down ∈ F) : Touches F s (walkItem it g s) := by
  unfold walkItem
  split
  next => exact .refl s
  next f rest hdown =>
    split
    next hit => exact (h f.cycle).setDown hd fun hs => hs.walks hdown hit.2 _
    next => exact .refl s

theorem touches_settle (it : Item) (v : Verdict) : Touches [.ret] v.state (settle it v).1 := by
  cases v with
  | pass t it' => exact .refl _
  | void code t after =>
    exact (touches_post t it.tag _).comp (touches_foldl (F := [.ret]) (fun u n => touches_post u it.tag n) after _) rfl

theorem touches_gate {α : Type} {it : Item} {belongs : Role → Option α} {judge : α → State → Verdict}
    (h : ∀ x, Touches F s (judge x s).state) (hr : Part.ret ∈ F) : Touches F s (gate it belongs judge s).1 := by
  have hret : ∀ p ∈ [Part.ret], p ∈ F := by simpa using hr
  unfold gate
  split
  next => exact .refl s
  next => exact .refl s
  next => exact .refl s
  next => exact (touches_settle it (.void .badAddress s [])).weaken hret
  next r hroute =>
    split
    next x hx => exact (h x).trans ((touches_settle it _).weaken hret)
    next => exact (touches_settle it (.void .wrongRole s [])).weaken hret

theorem touches_walkGated {α : Type} {kind : Byte} {w : Wire} {belongs : Role → Option α}
    {judge : Half → Item → α → State → Verdict} (h : ∀ cycle it x, Touches F s (judge cycle it x s).state) :
    Touches (.down :: .ret :: F) s (walkGated kind w belongs judge s) :=
  touches_walkItem (fun cycle => touches_gate (fun x => (h cycle _ x).weaken (by simp +contextual)) (by simp)) (by simp)

theorem touches_request {kind : Byte} {tag : Half} {act : State → State × Reply} (h : Touches F s (act s).1)
    (hF : Part.apart [.answers, .path] F = true) : Touches (.ret :: .answers :: F) s (request kind tag act s) := by
  have hact : Touches (.ret :: .answers :: F) s (act s).1 := h.weaken (by simp +contextual)
  have hlen : (act s).1.ret.answers.length ≤ s.ret.answers.length := h.same .answers (Part.apart_iff.mp hF _ (by simp))
  have hok : s.ret.Ok → (act s).1.ret.Ok := h.same .path (Part.apart_iff.mp hF _ (by simp))
  unfold request Config.answerCap
  split
  next => exact (Touches.refl s).setRet (by simp) (by simp) fun hs => hs
  next hroom =>
    refine hact.setRet (by simp) (by simp) fun hs => ?_
    obtain ⟨-, hrest⟩ := hok hs
    refine ⟨?_, hrest⟩
    simp only [List.length_append, List.length_singleton]
    omega

theorem touches_walkRequest {kind : Byte} {w : Wire} {act : State → State × Reply} (h : Touches F s (act s).1)
    (hF : Part.apart [.answers, .path] F = true) : Touches (.down :: .ret :: .answers :: F) s (walkRequest kind w act s) := by
  refine touches_walkItem (fun _ => ?_) (by simp)
  split
  next => exact (touches_request h hF).weaken (by simp +contextual)
  next => exact .refl s

theorem touches_walkReport {α : Type} {kind : Byte} {w : Wire} {belongs : Role → Option α}
    {take : α → Half → State → State} (h : ∀ x cycle, Touches F s (take x cycle s)) :
    Touches (.up :: F) s (walkReport kind w belongs take s) := by
  unfold walkReport
  split
  next => exact .refl s
  next f rest hup' =>
    have htake : Touches (.up :: F) s (match (s.roleAt (stationOf w.addr)).bind belongs with
        | some x => take x f.cycle s
        | none => s) := by
      split
      next x hx => exact (h x f.cycle).weaken (by simp +contextual)
      next => exact .refl s
    refine .ite (htake.setUp List.mem_cons_self fun hs => ?_) (.refl s)
    have hfit := hup' ▸ hs.2.1
    exact List.forall_mem_cons.mpr ⟨hfit f List.mem_cons_self, fun g hg => hfit g (List.mem_cons_of_mem f hg)⟩

theorem touches_expire {timer : Option Nat} {act : State → State} (h : ∀ t : State, Touches F t (act t)) :
    Touches (.now :: F) s (expire timer act s) := by
  unfold expire
  split
  next => exact .refl s
  next ends =>
    exact .ite (.refl s)
      (Touches.trans (Touches.weaken (G := [.now]) (.of_take rfl rfl) (by simp)) ((h _).weaken (by simp +contextual)))

end Walk

/-! ### Gated items -/

theorem touches_admitCut (i : LaneId) (t : CutTarget) (tab feed : Nat) (path cycle : Half) :
    Touches [.nests, .lanes, .cuts] s (admitCut i t tab feed path cycle s) := by
  unfold admitCut
  exact (((touches_modTab s t.nest tab (by exact fun _ => rfl)).mono rfl).comp (touches_modBoard _ _ (by exact fun _ => rfl)) rfl).comp
    (G := [.lanes, .cuts]) (.of_take rfl rfl) rfl

theorem touches_judgeCut (cycle : Half) (it : Item) (i : LaneId) :
    Touches [.nests, .lanes, .cuts] s (judgeCut cycle it i s).state := by
  unfold judgeCut
  dsimp only
  split
  next => exact .refl s
  next =>
    exact touches_admitCut s ..

theorem touches_judgeStart (cycle : Half) (it : Item) (i : LaneId) : Touches [.lanes] s (judgeStart cycle it i s).state := by
  unfold judgeStart
  split
  next => exact .refl s
  next => exact touches_modLane s i (fun l => { l with spindle := .runningUp, commanded := some _, spinDownTimer := none }) rfl

theorem touches_judgeStop (cycle : Half) (it : Item) (i : LaneId) : Touches [.lanes] s (judgeStop cycle it i s).state :=
  touches_stopSpindle s i

theorem touches_judgeFeed (cycle : Half) (it : Item) (i : LaneId) : Touches [.lanes] s (judgeFeed cycle it i s).state :=
  touches_modLane s i (fun l => { l with pend := { l.pend with feed := none } }) rfl

theorem touches_judgeGrip (cycle : Half) (it : Item) (p : PickerId) :
    Touches [.nests, .pickers] s (judgeGrip cycle it p s).state := by
  unfold judgeGrip
  split
  next => exact .refl s
  next => exact ((touches_modPicker s p _).mono rfl).comp (touches_modBoard _ _ (by exact fun _ => rfl)) rfl

theorem touches_judgeLift (cycle : Half) (it : Item) (p : PickerId) : Touches [.nests] s (judgeLift cycle it p s).state := by
  unfold judgeLift
  split
  next => exact .refl s
  next => exact touches_modBoard s _ (by exact fun _ => rfl)

theorem touches_judgeShuttle (cycle : Half) (it : Item) (x : Unit) :
    Touches [.table] s (judgeShuttle cycle it x s).state := by
  unfold judgeShuttle
  split
  next => exact .refl s
  next => split <;> exact .of_take rfl rfl

theorem touches_completeSensed (tag : Half) (r : BoardRef) :
    Touches [.placements, .nests, .bays, .ret] s (completeSensed tag r s) := by
  unfold completeSensed
  split
  next p hp =>
    split
    next cycle hc => exact .ite (touches_completePlacement s tag p cycle) (.refl s)
    next => exact .refl s
  next => exact .refl s

theorem BoardRec.fixed_released (b : BoardRec) : b.released.fixed = b.fixed := by
  unfold BoardRec.released
  split <;> rfl

theorem touches_openPicker (tag : Half) (p : PickerId) :
    Touches [.placements, .nests, .bays, .pickers, .ret] s (openPicker tag p s) := by
  unfold openPicker
  dsimp only
  cases (s.picker p).board with
  | none => exact ((touches_unbind s p).mono rfl).comp (touches_modPicker _ p _) rfl
  | some r =>
    exact ((((touches_modBoard s r BoardRec.fixed_released).mono rfl).comp (touches_unbind _ p) rfl).comp
      (touches_modPicker _ p _) rfl).comp (touches_completeSensed _ tag r) rfl

theorem touches_judgeOpen (cycle : Half) (it : Item) (p : PickerId) :
    Touches [.placements, .nests, .bays, .pickers, .ret] s (judgeOpen cycle it p s).state := by
  unfold judgeOpen
  split
  next => exact .refl s
  next =>
    split
    next => exact touches_openPicker s it.tag p
    next => exact touches_openPicker s it.tag p
    next => exact .refl s

theorem touches_searchVariant (tag : Half) (variant height : Nat) (l : List BayId) :
    Touches [.bays, .ret] s (searchVariant tag variant height l s).1 := by
  induction l generalizing s with
  | nil => exact .refl s
  | cons id rest ih =>
    simp only [searchVariant]
    split
    next =>
      split
      next =>
        split
        next => exact .refl s
        next => exact (touches_becomeFull s tag id).comp (ih _) rfl
        next => exact ih s
      next => exact ih s
    next => exact ih s

theorem touches_reservePlace (tag cycle : Half) (r : BoardRef) (d : Destination) :
    Touches [.bays, .ret, .nests, .placements] s (reservePlace tag cycle r d s) := by
  unfold reservePlace
  have hreserved : Touches [.bays, .ret, .nests, .placements] s (modBay d.bay (fun b => b.reserve d r) s) :=
    (touches_modBay s d.bay _).mono rfl
  exact ((Touches.ite (hreserved.comp (touches_becomeFull _ tag d.bay) rfl) hreserved).comp
    (touches_modBoard _ r (by exact fun _ => rfl)) rfl).comp (G := [.placements]) (.of_take rfl rfl) rfl

theorem touches_judgePlace (cycle : Half) (it : Item) (p : PickerId) :
    Touches [.free, .bays, .ret, .nests, .placements] s (judgePlace cycle it p s).state := by
  unfold judgePlace
  split
  next => exact .refl s
  next r b hok =>
    split
    next =>
      split
      next d hd => exact (touches_reservePlace s it.tag cycle r d).mono rfl
      next => exact .refl s
    next =>
      have hsearch := touches_searchVariant s it.tag b.variant b.height allBays
      dsimp only
      split
      next d hd => exact (hsearch.mono (F := [.free, .bays, .ret, .nests, .placements]) rfl).comp (touches_reservePlace _ it.tag cycle r d) rfl
      next => exact (hsearch.mono (F := [.free, .bays, .ret, .nests, .placements]) rfl).comp (G := [.free]) (.of_take rfl rfl) rfl

/-! ### Reports -/

theorem touches_markSuspect (r : BoardRef) (yes : Bool) : Touches [.nests] s (markSuspect r yes s) :=
  .ite (touches_modBoard s r (by exact fun _ => rfl)) (.refl s)

theorem touches_dropClosing (b : BoardRec) : Touches [.nests, .pickers] s (dropClosing b s) := by
  unfold dropClosing
  split
  next p hp => exact .ite (touches_unbind s p) (.refl s)
  next => exact .refl s

theorem touches_freeBoard (tag : Half) (r : BoardRef) (tab : Nat) (i : LaneId) (cycle : Half) (b : BoardRec) :
    Touches [.nests, .pickers, .ret] s (freeBoard tag r tab i cycle b s) := by
  unfold freeBoard
  split
  next => exact (touches_modBoard s r (by exact fun _ => rfl)).mono rfl
  next =>
    exact ((((touches_dropClosing s b).mono (F := [.nests, .pickers, .ret]) rfl).comp (touches_modBoard _ r (by exact fun _ => rfl)) rfl).comp
      (touches_post _ tag _) rfl).comp (touches_settleNest _ tag r.nest) rfl
  next => exact .refl s

theorem touches_cutComplete (tag cycle : Half) (i : LaneId) (b : Binding) :
    Touches [.nests, .pickers, .ret, .lanes, .cuts] s (cutComplete tag cycle i b s) := by
  have hcut := ((touches_modTab s b.nest b.tab (f := fun t => { t with state := .cut, lane := none, cutAt := some cycle }) fun _ => rfl).mono
    (F := [.nests, .pickers, .ret, .lanes, .cuts]) rfl).comp (touches_markSuspect _ (s.boardOfTab b.nest b.tab) b.govAbort) rfl
  unfold cutComplete
  refine Touches.comp (hcut.comp (G := [.nests, .pickers, .ret]) ?_ rfl) (touches_endCut _ i true) rfl
  split
  next x hx => exact .ite (touches_freeBoard _ tag _ b.tab i cycle x) (.refl _)
  next => exact .refl _

theorem touches_cutAborted (i : LaneId) (b : Binding) : Touches [.nests, .lanes, .cuts] s (cutAborted i b s) :=
  (((touches_faultTab s b.nest b.tab true).mono (F := [.nests, .lanes, .cuts]) rfl).comp (touches_markSuspect _ _ b.govAbort) rfl).comp
    (touches_endCut _ i true) rfl

theorem touches_cutBroke (tag : Half) (i : LaneId) (b : Binding) : Touches [.nests, .lanes, .cuts, .ret] s (cutBroke tag i b s) :=
  ((((touches_faultTab s b.nest b.tab false).mono (F := [.nests, .lanes, .cuts, .ret]) rfl).comp (touches_markSuspect _ _ true) rfl).comp
    (touches_raiseCause _ tag i .bitBroken) rfl).comp (touches_endCut _ i true) rfl

theorem touches_takeCutDone (w : Wire) (i : LaneId) (cycle : Half) :
    Touches [.nests, .pickers, .ret, .lanes, .cuts] s (takeCutDone w i cycle s) := by
  have hwear : Touches [.nests, .pickers, .ret, .lanes, .cuts] s (wearStep w.tag i w.payload s) :=
    (touches_rewear s w.tag .report i _).mono rfl
  unfold takeCutDone
  dsimp only
  split
  next b hb => exact hwear.comp (touches_cutComplete _ w.tag cycle i b) rfl
  next b hb => exact hwear.comp (touches_cutAborted _ i b) rfl
  next b hb => exact hwear.comp (touches_cutBroke _ w.tag i b) rfl
  next => exact hwear.comp (touches_post _ w.tag _) rfl

theorem touches_laneOver (tag : Half) (i : LaneId) : Touches [.lanes, .ret] s (laneOver tag i s) :=
  .ite ((touches_setLane s i _ (by rfl)).mono rfl) (touches_raiseCause s tag i .overload)

theorem touches_govern (tag : Half) (i : LaneId) (load : Nat) : Touches [.lanes, .ret] s (govern tag i load s) := by
  unfold govern
  exact .ite (.refl s) (.ite (((touches_modLane s i _ (by rfl)).mono (F := [.lanes, .ret]) rfl).comp (touches_laneOver _ tag i) rfl)
    ((touches_modLane s i _ (by rfl)).mono rfl))

theorem touches_takeLaneState (w : Wire) (i : LaneId) (cycle : Half) :
    Touches [.lanes, .ret] s (takeLaneState w i cycle s) := by
  unfold takeLaneState
  split
  next => exact (touches_badReport s _ w).mono rfl
  next fault hfault =>
    have htaken := (touches_modLane s i (fun l => { l with
      lastSpeed := some (Operand.reportSpeed w.payload), lastLoad := some (Operand.reportLoad w.payload),
      lastFault := some fault }) rfl).mono (F := [.lanes, .ret]) rfl
    refine .ite htaken (Touches.comp ?_ (touches_govern _ w.tag i _) rfl)
    have hspun := htaken.comp (touches_modLane _ i (fun l => l.spindleReport (Operand.reportSpeed w.payload)) (Lane.spindleReport_cutTab _ _)) rfl
    exact .ite (hspun.comp (touches_raiseCause _ w.tag i .driveFault) rfl) hspun

theorem touches_closingReport (tag : Half) (p : PickerId) (cycle : Half) (jaws : Jaws) (sensed : Bool) :
    Touches [.nests, .pickers, .ret] s (closingReport tag p cycle jaws sensed s) := by
  unfold closingReport
  dsimp only
  split
  next => exact .refl s
  next =>
    refine .ite (((touches_modPicker s p _).mono rfl).comp (touches_modBoard _ _ (by exact fun _ => rfl)) rfl) ?_
    exact (((touches_unbind s p).mono (F := [.nests, .pickers, .ret]) rfl).comp (touches_emptyPicker _ p) rfl).comp (touches_post _ tag _) rfl
  next =>
    split
    next => exact ((touches_emptyPicker s p).mono (F := [.nests, .pickers, .ret]) rfl).comp (touches_post _ tag _) rfl
    next => exact (touches_emptyPicker s p).mono rfl

theorem touches_dropReservation (r : BoardRef) : Touches [.placements, .bays] s (dropReservation r s) := by
  unfold dropReservation
  split
  next => exact .of_take rfl rfl
  next => exact .refl s

theorem touches_gripLoss (tag : Half) (p : PickerId) (cycle : Half) (r : BoardRef) (b : BoardRec) :
    Touches [.nests, .pickers, .lanes, .placements, .bays, .ret] s (gripLoss tag p cycle r b s) := by
  have hlost (st : BoardState) : Touches [.nests, .pickers, .lanes, .placements, .bays, .ret] s
      (emptyPicker p (unbind p (modBoard r (fun b => { b with state := st }) s))) :=
    (((touches_modBoard s r (f := fun b => { b with state := st }) fun _ => rfl).mono rfl).comp (touches_unbind _ p) rfl).comp
      (touches_emptyPicker _ p) rfl
  have hdropped : Touches [.nests, .pickers, .lanes, .placements, .bays, .ret] s
      (settleNest tag r.nest (post tag (.gripLost p r .lost cycle) (dropReservation r
        (emptyPicker p (unbind p (modBoard r (fun b => { b with state := .lost }) s)))))) :=
    (((hlost .lost).comp (touches_dropReservation _ r) rfl).comp (touches_post _ tag _) rfl).comp (touches_settleNest _ tag r.nest) rfl
  unfold gripLoss
  split
  next =>
    exact Touches.comp (.ite ((hlost _).comp (touches_abortBound _ _) rfl) (hlost _)) (touches_post _ tag _) rfl
  next => exact hdropped
  next => exact hdropped
  next => exact .refl s

theorem touches_holdingReport (tag : Half) (p : PickerId) (cycle : Half) (jaws : Jaws) (sensed : Bool) :
    Touches [.nests, .pickers, .lanes, .placements, .bays, .ret] s (holdingReport tag p cycle jaws sensed s) := by
  unfold holdingReport
  refine .ite (.refl s) ?_
  split
  next =>
    split
    next => exact touches_gripLoss s ..
    next => exact .refl s
  next => exact .refl s

theorem touches_takeGripState (w : Wire) (p : PickerId) (cycle : Half) :
    Touches [.nests, .pickers, .lanes, .placements, .bays, .ret] s (takeGripState w p cycle s) := by
  unfold takeGripState
  split
  next jaws sensed _ _ =>
    have htaken : Touches [.nests, .pickers, .lanes, .placements, .bays, .ret] s
        (modPicker p (fun k => { k with lastJaws := some jaws, lastSensed := some sensed }) s) :=
      (touches_modPicker s p _).mono rfl
    dsimp only
    split
    next => exact .ite (htaken.comp (touches_post _ w.tag _) rfl) htaken
    next => exact htaken.comp (touches_closingReport _ w.tag p cycle jaws sensed) rfl
    next => exact htaken.comp (touches_holdingReport _ w.tag p cycle jaws sensed) rfl
    next => exact .ite (htaken.comp (touches_emptyPicker _ p) rfl) htaken
    next => exact htaken
  next => exact (touches_badReport s _ w).mono rfl

theorem touches_keepOut (tag : Half) (n : Nest) : Touches [.nests, .lanes, .ret] s (keepOut tag n s) := by
  unfold keepOut
  dsimp only
  split
  next => exact .refl s
  next =>
    have hset (run : Option Nat) : Touches [.nests, .lanes, .ret] s (setNest n { s.nest n with lowRun := run } s) :=
      (touches_setNest s n { s.nest n with lowRun := run } rfl).mono rfl
    refine .ite (hset none) ?_
    split
    next => exact hset (some s.now)
    next =>
      exact .ite ((((touches_modNest s n _ (by rfl)).mono rfl).comp (touches_abortBound _ _) rfl).comp (touches_post _ tag _) rfl) (.refl s)

theorem touches_movePosition (tag cycle : Half) (pos : WorkPos) :
    Touches [.table, .lanes, .ret] s (movePosition tag cycle pos s) := by
  unfold movePosition
  dsimp only
  split
  next => exact Touches.mono (G := [.table]) (.of_take rfl rfl) rfl
  next =>
    have hmoved : Touches [.table, .lanes, .ret] s { s with table := pos } := Touches.mono (G := [.table]) (.of_take rfl rfl) rfl
    exact .ite ((hmoved.comp (touches_abortBound _ _) rfl).comp (touches_post _ tag _) rfl) hmoved

theorem touches_takeTableState (w : Wire) (x : Unit) (cycle : Half) :
    Touches [.nests, .lanes, .ret, .table] s (takeTableState w x cycle s) := by
  unfold takeTableState
  split
  next => exact (touches_badReport s _ w).mono rfl
  next =>
    refine Touches.comp (Touches.comp (Touches.comp ?_ (touches_keepOut _ w.tag .a) rfl) (touches_keepOut _ w.tag .b) rfl)
      (touches_movePosition _ w.tag cycle _) rfl
    exact ((touches_modNest s .a _ (by rfl)).mono rfl).comp (touches_modNest _ .b _ (by rfl)) rfl

theorem BoardRec.fixed_stripped (b : BoardRec) : b.stripped.fixed = b.fixed := by
  unfold BoardRec.stripped
  split <;> rfl

theorem touches_removePlacement (tag : Half) (p : Placement) :
    Touches [.placements, .nests, .ret] s (removePlacement tag s p) := by
  unfold removePlacement
  exact ((((touches_closePlacement s p.ref).mono rfl).comp (touches_modBoard _ p.ref BoardRec.fixed_stripped) rfl).comp
    (touches_post _ tag _) rfl).comp (touches_settleNest _ tag p.ref.nest) rfl

theorem touches_removeMagazine (tag : Half) (id : BayId) :
    Touches [.placements, .nests, .ret, .bays] s (removeMagazine tag id s) := by
  unfold removeMagazine
  exact ((touches_foldl (fun s p => touches_removePlacement s tag p) _ s).mono rfl).comp (touches_modBay _ id _) rfl

theorem touches_bayReport (tag : Half) (present : Bool) (id : BayId) :
    Touches [.placements, .nests, .ret, .bays] s (bayReport tag present id s) := by
  unfold bayReport
  have htaken : Touches [.placements, .nests, .ret, .bays] s
      (modBay id (fun b => { b with presence := if present then .present else .notPresent }) s) := (touches_modBay s id _).mono rfl
  refine .ite htaken ?_
  split
  next => exact htaken.comp (touches_modBay _ id _) rfl
  next => exact htaken.comp (touches_removeMagazine _ tag id) rfl
  next => exact htaken.comp (touches_modBay _ id _) rfl
  next => exact htaken

theorem touches_takeBayState (w : Wire) (x : Unit) (cycle : Half) :
    Touches [.placements, .nests, .ret, .bays] s (takeBayState w x cycle s) :=
  touches_foldl (fun s id => touches_bayReport s w.tag _ id) allBays s

theorem touches_strayInSlot (tag : Half) (id : BayId) (slots : Nat) (dir : FillDir) (t : SlotTable) (slot : Nat) :
    Touches [.placements, .nests, .bays, .ret] s (strayInSlot tag id slots dir t slot s) := by
  unfold strayInSlot
  dsimp only
  split
  next => exact .refl s
  next => exact .refl s
  next => exact (touches_modBay s id _).mono rfl
  next =>
    have hmarked := (touches_modBay s id fun b => { b with table := some (t.strayAt dir slots slot) }).mono
      (F := [.placements, .nests, .bays, .ret]) rfl
    exact .ite (hmarked.comp (touches_becomeFull _ tag id) rfl) hmarked
  next =>
    split
    next p hp => exact (touches_endPlacement s tag p .stray).comp (touches_modBay _ id _) rfl
    next => exact (touches_modBay s id _).mono rfl

theorem touches_strayInReject (tag : Half) (id : BayId) (capacity : Nat) :
    Touches [.bays, .ret] s (strayInReject tag id capacity s) := by
  unfold strayInReject
  have hplaced := (touches_modBay s id fun b => { b with placed := min capacity (b.placed + 1) }).mono (F := [.bays, .ret]) rfl
  exact .ite (hplaced.comp (touches_becomeFull _ tag id) rfl) hplaced

theorem touches_strayInBay (tag : Half) (id : BayId) (first : Nat) :
    Touches [.placements, .nests, .bays, .ret] s (strayInBay tag id first s) := by
  unfold strayInBay
  refine .ite ?_ (.refl s)
  split
  next => exact (touches_strayInReject s tag id _).mono rfl
  next => exact touches_strayInSlot s ..
  next => exact .refl s

theorem touches_strayPlace (w : Wire) (sensed : Bool) (cycle : Half) :
    Touches [.placements, .nests, .bays, .ret] s (strayPlace w sensed cycle s) := by
  unfold strayPlace
  dsimp only
  have hposted (n : Notice) : Touches [.placements, .nests, .bays, .ret] s (post w.tag n s) := (touches_post s w.tag n).mono rfl
  split
  next => exact .ite ((hposted _).comp (touches_strayInBay _ w.tag _ _) rfl) (hposted _)
  next => exact hposted _

theorem touches_takeMatched (tag cycle : Half) (p : Placement) (sensed : Bool) :
    Touches [.placements, .nests, .bays, .ret] s (takeMatched tag cycle p sensed s) :=
  .ite (touches_endPlacement s tag p .notSensed)
    (.ite (touches_completePlacement s tag p cycle) ((touches_markSensed s p.ref cycle).mono rfl))

theorem touches_takePlaceDone (w : Wire) (x : Unit) (cycle : Half) :
    Touches [.placements, .nests, .bays, .ret] s (takePlaceDone w x cycle s) := by
  unfold takePlaceDone
  split
  next => exact (touches_badReport s _ w).mono rfl
  next =>
    split
    next => exact touches_takeMatched s ..
    next => exact touches_strayPlace s ..

/-! ### Timers -/

theorem touches_cutTimedOut (i : LaneId) : Touches [.nests, .lanes, .cuts, .ret] s (cutTimedOut i s) := by
  unfold cutTimedOut
  split
  next => exact (touches_modLane s i _ (by rfl)).mono rfl
  next b hb =>
    exact (((((touches_faultTab s b.nest b.tab false).mono (F := [.nests, .lanes, .cuts, .ret]) rfl).comp
      (touches_markSuspect _ _ b.govAbort) rfl).comp (touches_raiseCause _ 0 i .cutTimeout) rfl).comp (touches_giveAbort _ i) rfl).comp
      (touches_endCut _ i false) rfl

theorem touches_jawExpired (p : PickerId) : Touches [.nests, .pickers, .ret] s (jawExpired p s) := by
  unfold jawExpired
  dsimp only
  split
  next =>
    have hemptied := ((touches_unbind s p).mono (F := [.nests, .pickers, .ret]) rfl).comp (touches_emptyPicker _ p) rfl
    split
    next => exact hemptied.comp (touches_post _ 0 _) rfl
    next => exact hemptied
  next => exact ((touches_modPicker s p _).mono (F := [.nests, .pickers, .ret]) rfl).comp (touches_post _ 0 _) rfl
  next => exact (touches_modPicker s p _).mono rfl

theorem touches_spinDownExpired (i : LaneId) : Touches [.lanes, .ret] s (spinDownExpired i s) := by
  unfold spinDownExpired
  have hstopped := (touches_modLane s i (fun l => { l with spinDownTimer := none }) rfl).mono (F := [.lanes, .ret]) rfl
  exact .ite (hstopped.comp (touches_raiseCause _ 0 i .spindown) rfl) hstopped

theorem touches_recoveryExpired (i : LaneId) : Touches [.lanes, .ret] s (recoveryExpired i s) := by
  unfold recoveryExpired
  exact .ite (.ite (((touches_setLane s i (s.lane i).restored (Lane.toReady_cutTab _)).mono (F := [.lanes, .ret]) rfl).comp (touches_post _ 0 _) rfl)
    ((touches_setLane s i _ (by rfl)).mono rfl)) ((touches_setLane s i _ (by rfl)).mono rfl)

theorem touches_coolDownExpired (i : LaneId) : Touches [.lanes] s (coolDownExpired i s) :=
  .ite (touches_setLane s i _ (by rfl)) (touches_setLane s i _ (by rfl))

theorem touches_restoreExpired (i : LaneId) : Touches [.lanes] s (restoreExpired i s) :=
  .ite (touches_setLane s i _ (by rfl)) (touches_setLane s i _ (by rfl))

/-! ### Frames and the line -/

theorem touches_countFailed (p : Port) : Touches [.portU, .portD, .ret, .line] s (countFailed p s) := by
  unfold countFailed
  dsimp only
  split
  next => exact (touches_setPort s p _).mono rfl
  next =>
    have hset (r : PortRec) : Touches [.portU, .portD, .ret, .line] s (setPort p r s) := (touches_setPort s p r).mono rfl
    have hdegraded (c : Prop) [Decidable c] (r : PortRec) (n : Notice) :
        Touches [.portU, .portD, .ret, .line] s (if c then post 0 n (setPort p r s) else setPort p r s) :=
      .ite ((hset r).comp (touches_post _ 0 n) rfl) (hset r)
    exact .ite ((((hdegraded _ _ _).comp (touches_setPort _ p _) rfl).comp (touches_post _ 0 _) rfl).comp (touches_judgeLine _ _) rfl)
      (hdegraded _ _ _)

theorem touches_countGood (p : Port) : Touches [.portU, .portD, .ret, .line] s (countGood p s) := by
  have hset (r : PortRec) : Touches [.portU, .portD, .ret, .line] s (setPort p r s) := (touches_setPort s p r).mono rfl
  unfold countGood
  dsimp only
  split
  next => exact .ite (hset _) (((hset _).comp (touches_post _ 0 _) rfl).comp (touches_judgeLine _ _) rfl)
  next => exact .ite ((hset _).comp (touches_post _ 0 _) rfl) (hset _)

theorem touches_restartWatchdog : Touches [.line, .ret] s (restartWatchdog s) :=
  (Touches.mono (G := [.line]) (.of_take rfl rfl) rfl).comp (touches_judgeLine _ s.holdSet) rfl

theorem touches_handOn (p : Port) {f : LinkFrame} (hf : f.items.length ≤ 24) :
    Touches [.line, .ret, .down, .up] s (handOn p f s) := by
  have hdown {t : State} (h : Touches [.line, .ret] s t) (g : DownFrame) (hg : g.out.length + g.todo.length ≤ 24) :
      Touches [.line, .ret, .down, .up] s { t with down := t.down ++ [g] } := by
    refine (h.mono rfl).setDown (by simp) fun hs => List.forall_mem_append.mpr ⟨?_, by simpa using hg⟩
    exact ((h.at .down rfl : t.down = s.down) ▸ hs.1)
  unfold handOn
  split
  next =>
    exact .ite (hdown (touches_restartWatchdog s) _ (by simpa using hf)) (.ite (hdown (.refl s) _ (by simpa using hf)) (.refl s))
  next =>
    refine .ite ((Touches.refl s).setUp (by simp) fun hs => List.forall_mem_append.mpr ⟨hs.2.1, ?_⟩) (.refl s)
    simpa using hf

theorem touches_arrive (p : Port) (bytes : List Byte) :
    Touches [.portU, .portD, .ret, .line, .down, .up] s (arrive p bytes s) := by
  unfold arrive
  refine .ite (.refl s) ?_
  split
  next => exact (touches_countFailed s p).mono rfl
  next f hf =>
    exact .ite (((touches_countGood s p).mono rfl).comp (touches_handOn _ p (frameBytes_of_parseFrame hf).2) rfl)
      ((touches_countGood s p).mono rfl)

theorem touches_creditLane (items : List Item) (i : LaneId) : Touches [.lanes] s (creditLane items s i) := by
  unfold creditLane
  split
  next => exact .refl s
  next => exact touches_modLane s i _ (by rfl)

section Inserted
variable (r : State × List Item) (i : LaneId)

theorem touches_insertAbort : Touches [.lanes] r.1 (insertAbort r i).1 := by
  unfold insertAbort
  split
  next =>
    split
    next => exact touches_modLane _ _ (fun l => { l with pend := { l.pend with abort := false } }) rfl
    next => exact .refl _
  next => exact .refl _

theorem touches_insertStop : Touches [.lanes] r.1 (insertStop r i).1 := by
  unfold insertStop
  split
  next =>
    split
    next => exact (touches_modLane _ i (fun l => { l with pend := { l.pend with stop := false } }) rfl).trans (touches_stopSpindle _ i)
    next => exact .refl _
  next => exact .refl _

theorem touches_insertFeed : Touches [.lanes] r.1 (insertFeed r i).1 := by
  unfold insertFeed
  split
  next =>
    split
    next => exact touches_modLane _ _ (fun l => { l with pend := { l.pend with feed := none } }) rfl
    next => exact .refl _
  next => exact .refl _

theorem touches_foldl_insert {g : State × List Item → LaneId → State × List Item}
    (h : ∀ r i, Touches [.lanes] r.1 (g r i).1) (l : List LaneId) : Touches [.lanes] r.1 (l.foldl g r).1 := by
  induction l generalizing r with
  | nil => exact .refl _
  | cons i l ih => exact (h r i).comp (ih _) rfl

end Inserted

theorem touches_topUp (items : List Item) : Touches [.lanes] s (topUp s items).1 := by
  have hcredit := touches_foldl (fun s i => touches_creditLane s items i) allLanes s
  exact ((hcredit.comp (touches_foldl_insert (_, items) touches_insertAbort allLanes) rfl).comp
    (touches_foldl_insert _ touches_insertStop allLanes) rfl).comp (touches_foldl_insert _ touches_insertFeed allLanes) rfl

/-! R141: the items inserted fill the frame's room at the most. -/

section Room
variable {r : State × List Item} {i : LaneId}

theorem length_insertAbort_le (h : r.2.length ≤ 24) : (insertAbort r i).2.length ≤ 24 := by
  unfold insertAbort Config.maxItems
  grind

theorem length_insertStop_le (h : r.2.length ≤ 24) : (insertStop r i).2.length ≤ 24 := by
  unfold insertStop Config.maxItems
  grind

theorem length_insertFeed_le (h : r.2.length ≤ 24) : (insertFeed r i).2.length ≤ 24 := by
  unfold insertFeed Config.maxItems
  grind

theorem length_foldl_insert_le {g : State × List Item → LaneId → State × List Item}
    (h : ∀ {r i}, r.2.length ≤ 24 → (g r i).2.length ≤ 24) (l : List LaneId) (hr : r.2.length ≤ 24) :
    (l.foldl g r).2.length ≤ 24 := by
  induction l generalizing r with
  | nil => exact hr
  | cons i l ih => exact ih (h hr)

theorem length_topUp_le {s : State} {items : List Item} (h : items.length ≤ 24) : (topUp s items).2.length ≤ 24 := by
  unfold topUp
  dsimp only
  refine length_foldl_insert_le length_insertFeed_le allLanes ?_
  refine length_foldl_insert_le length_insertStop_le allLanes ?_
  exact length_foldl_insert_le length_insertAbort_le allLanes h

end Room

/-! R146: what a return frame takes from the queues. -/

theorem length_takeAnswers_le (own : Station) (l : List Answer) (room : Nat) :
    (takeAnswers own l room).1.length ≤ room ∧ (takeAnswers own l room).2.length ≤ l.length := by
  induction l generalizing room with
  | nil => simp [takeAnswers]
  | cons a l ih =>
    unfold takeAnswers
    split
    next hroom =>
      obtain ⟨hitems, hleft⟩ := ih (room - answerParts a)
      have hparts : (answerItems own a).length = answerParts a := by simp [answerItems]
      simp only [List.length_append, hparts, List.length_cons]
      omega
    next => simp

theorem ReturnPath.Ok.leave {r : ReturnPath} {p : Posted} {rest : List Posted} (h : r.Ok) (hn : r.notices = p :: rest) :
    (r.leave rest).Ok := by
  obtain ⟨hanswers, hnotices, hlost, hoverflow, hfull⟩ := h
  rw [hn, List.length_cons] at hnotices hfull
  unfold ReturnPath.leave
  split
  next ho => exact ⟨hanswers, by simpa using hnotices, by simp, by simp, by simp⟩
  next ho => exact ⟨hanswers, by dsimp only; omega, hlost, hoverflow, fun h => absurd h ho⟩

theorem takeNotices_ok (own : Station) (room : Nat) (r : ReturnPath) :
    (takeNotices own room r).1.length ≤ room ∧ (takeNotices own room r).2.answers = r.answers ∧
      (r.Ok → (takeNotices own room r).2.Ok) := by
  induction room generalizing r with
  | zero => exact ⟨le_rfl, rfl, id⟩
  | succ room ih =>
    unfold takeNotices
    split
    next => exact ⟨Nat.zero_le _, rfl, id⟩
    next p rest hn =>
      obtain ⟨hitems, hans, hok⟩ := ih (r.leave rest)
      have hleave : (r.leave rest).answers = r.answers := by
        unfold ReturnPath.leave
        split <;> rfl
      exact ⟨Nat.succ_le_succ hitems, hans.trans hleave, fun h => hok (h.leave hn)⟩

theorem fillReturn_ok (own : Station) (items : List Item) (r : ReturnPath) :
    (items.length ≤ 24 → (fillReturn own items r).1.length ≤ 24) ∧ (fillReturn own items r).2.answers.length ≤ r.answers.length ∧
      (r.Ok → (fillReturn own items r).2.Ok) := by
  have hans := length_takeAnswers_le own r.answers (24 - items.length)
  unfold fillReturn Config.maxItems
  dsimp only
  generalize takeAnswers own r.answers (24 - items.length) = a at hans ⊢
  obtain ⟨hlen, heq, hok⟩ := takeNotices_ok own (24 - (items ++ a.1).length) { r with answers := a.2 }
  refine ⟨fun h => ?_, heq ▸ hans.2, fun hr => hok ⟨hans.2.trans hr.1, hr.2⟩⟩
  simp only [List.length_append] at hlen ⊢
  omega

theorem touches_buildReturn (cycle : Half) : Touches [.ret, .sentU] s (buildReturn cycle s) := by
  obtain ⟨hlen, hans, hok⟩ := fillReturn_ok s.line.ownAddr [] s.ret
  exact ((Touches.refl s).setRet (by simp) (fun _ => hans) hok).sendUp (by simp) fun _ => hlen (by simp)

theorem touches_insertAndSend : Touches [.down, .lanes, .lastOrder, .sentD, .ret, .sentU] s (insertAndSend s) := by
  unfold insertAndSend
  split
  next => exact .refl s
  next fr rest hdown =>
    have htop : Touches [.down, .lanes, .lastOrder, .sentD, .ret, .sentU] s (topUp { s with down := rest } fr.out).1 :=
      ((touches_dropDown hdown).mono rfl).comp (touches_topUp _ fr.out) rfl
    have hlen (hs : s.FramesOk) : (topUp { s with down := rest } fr.out).2.length ≤ 24 :=
      length_topUp_le (Nat.le_trans (Nat.le_add_right _ _) (hs.1 fr (hdown ▸ List.mem_cons_self)))
    dsimp only
    generalize topUp { s with down := rest } fr.out = r at htop hlen ⊢
    have hsent : Touches [.down, .lanes, .lastOrder, .sentD, .ret, .sentU] s
        (sendDown { kind := FrameKind.order, cycle := fr.cycle, items := r.2 } { r.1 with lastOrder := fr.cycle }) :=
      (htop.comp (G := [.lastOrder]) (.of_take rfl rfl) rfl).sendDown (by simp) hlen
    exact .ite (.ite (hsent.comp (touches_buildReturn _ _) rfl) hsent) (.refl s)

theorem touches_haltItem (it : Item) : Touches [.ret, .lanes] s (haltItem s it).1 := by
  have hvoid (code : RefusalCode) : Touches [.ret, .lanes] s (settle it (.void code s [])).1 :=
    (touches_settle it (.void code s [])).mono rfl
  unfold haltItem
  split
  next => exact .refl s
  next =>
    split
    next => exact .refl s
    next => exact .refl s
    next => exact .refl s
    next => exact hvoid _
    next r _ =>
      split
      next => exact hvoid _
      next =>
        split
        next i _ _ =>
          split
          next => exact (touches_stopSpindle s _).mono rfl
          next => exact hvoid _
        next => exact hvoid _

theorem touches_haltItems (items : List Item) : Touches [.ret, .lanes] s (haltItems items s).1 := by
  induction items generalizing s with
  | nil => exact .refl s
  | cons it rest ih => exact (touches_haltItem s it).comp (ih _) rfl

theorem length_haltItems (items : List Item) : (haltItems items s).2.length = items.length := by
  induction items generalizing s with
  | nil => rfl
  | cons it rest ih => exact congrArg Nat.succ (ih _)

theorem touches_walkHaltFrame : Touches [.down, .ret, .lanes, .sentD] s (walkHaltFrame s) := by
  unfold walkHaltFrame
  split
  next => exact .refl s
  next fr rest hdown =>
    refine .ite ?_ (.refl s)
    have htop := (((touches_dropDown hdown).mono (F := [.down, .ret, .lanes, .sentD]) rfl).comp (touches_haltItems _ fr.todo) rfl).comp
      (touches_topUp _ (haltItems fr.todo { s with down := rest }).2) rfl
    have hlen (hs : s.FramesOk) : (topUp (haltItems fr.todo { s with down := rest }).1
        (haltItems fr.todo { s with down := rest }).2).2.length ≤ 24 := by
      refine length_topUp_le ?_
      rw [length_haltItems]
      exact Nat.le_trans (Nat.le_add_left _ _) (hs.1 fr (hdown ▸ List.mem_cons_self))
    dsimp only
    generalize topUp (haltItems fr.todo { s with down := rest }).1 (haltItems fr.todo { s with down := rest }).2 = r at htop hlen ⊢
    exact htop.sendDown (by simp) hlen

theorem touches_fillAndSend : Touches [.up, .ret, .sentU] s (fillAndSend s) := by
  unfold fillAndSend
  split
  next => exact .refl s
  next fr rest hup =>
    refine .ite ?_ (.refl s)
    obtain ⟨hlen, hans, hok⟩ := fillReturn_ok s.line.ownAddr fr.items s.ret
    refine (Touches.setRet ((touches_dropUp hup).mono rfl) (by simp) (fun _ => hans) hok).sendUp (by simp) fun hs => hlen ?_
    exact hs.2.1 fr (hup ▸ List.mem_cons_self)

theorem touches_watchdogDeliver (i : LaneId) : Touches [.lanes] s (watchdogDeliver s i) := by
  unfold watchdogDeliver
  refine .ite ?_ (.refl s)
  have haborted (c : Prop) [Decidable c] (f : Lane → Lane) (hf : (f (s.lane i)).cutTab = (s.lane i).cutTab) :
      Touches [.lanes] s (if c then modLane i f s else s) := .ite (touches_modLane s i f hf) (.refl s)
  exact .ite (((haborted _ _ rfl).comp (touches_modLane _ i _ (by rfl)) rfl).comp (touches_stopSpindle _ i) rfl) (haborted _ _ rfl)

theorem length_watchdogItems_le (s : State) : (watchdogItems s).length ≤ 24 := by
  have hlanes (f : LaneId → Option Item) : (allLanes.filterMap f).length ≤ 4 := List.length_filterMap_le f allLanes
  rw [watchdogItems, List.length_append]
  exact Nat.le_trans (Nat.add_le_add (hlanes _) (hlanes _)) (by omega)

theorem touches_watchdogExpired : Touches [.line, .ret, .sentD, .lanes] s (watchdogExpired s) := by
  have hhold : Touches [.line, .ret, .sentD, .lanes] s { s with line := { s.line with watchdogHold := true, watchdog := none } } :=
    Touches.mono (G := [.line]) (.of_take rfl rfl) rfl
  have hjudged := hhold.comp (touches_judgeLine _ s.holdSet) rfl
  unfold watchdogExpired
  dsimp only
  generalize judgeLine _ _ = t at hjudged ⊢
  exact (hjudged.sendDown (by simp) fun _ => length_watchdogItems_le t).comp (touches_foldl touches_watchdogDeliver allLanes _) rfl

theorem touches_senseChange (high : Bool) : Touches [.pins, .line] s (senseChange high s) := by
  unfold senseChange
  exact .ite (.refl s) (.ite (Touches.mono (G := [.pins]) (.of_take rfl rfl) rfl) (.ite (.of_take rfl rfl) (.of_take rfl rfl)))

theorem touches_filterExpired (high : Bool) : Touches [.line, .ret] s (filterExpired high s) :=
  (Touches.mono (G := [.line]) (.of_take rfl rfl) rfl).comp (touches_judgeLine _ s.holdSet) rfl

end Sys2Proof.Machine

/-! The footprint of every request and of every command, and with it that every command completes (logs 1, 3, 5). -/

namespace Sys2Proof.Machine

/-! ### Requests -/

section Requests
variable (s : State) (p : Payload) (tag : Half)

/-- A check between two replies touches what both may. -/
theorem Touches.iteReply {F : List Part} {s : State} {c : Prop} [Decidable c] {x y : State × Reply}
    (hx : Touches F s x.1) (hy : Touches F s y.1) : Touches F s (if c then x else y).1 := by
  split
  · exact hx
  · exact hy

theorem touches_requestStatusRead : Touches [.ret] s (requestStatusRead p s).1 := by
  unfold requestStatusRead
  split <;> first | exact .refl s | exact (Touches.refl s).setRet (by simp) (fun _ => le_rfl) fun hs => hs

theorem touches_requestRun : Touches [.line] s (requestRun s).1 := .iteReply (.of_take rfl rfl) (.of_take rfl rfl)

theorem touches_requestHalt : Touches [.line] s (requestHalt s).1 := by
  unfold requestHalt
  exact .ite (.of_take rfl rfl) (.refl s)

theorem touches_requestRoleSet : Touches [.roles] s (requestRoleSet p s).1 := by
  unfold requestRoleSet
  refine .iteReply (.refl s) ?_
  split
  · exact .iteReply (.refl s) (.of_take rfl rfl)
  · exact .refl s

theorem touches_requestTimingSet : Touches [.timing] s (requestTimingSet p s).1 := by
  unfold requestTimingSet
  split <;> exact .of_take rfl rfl

theorem touches_requestLock : Touches [.line] s (requestLock p s).1 := by
  unfold requestLock
  split <;> exact .of_take rfl rfl

theorem touches_requestLaneConfig : Touches [.lanes] s (requestLaneConfig p s).1 := by
  unfold requestLaneConfig
  split
  · exact .iteReply (.refl s) (.iteReply (.refl s) (touches_setLane s _ _ (Lane.configured_cutTab ..)))
  · exact .refl s

theorem touches_requestGovernorSet : Touches [.lanes] s (requestGovernorSet p s).1 := by
  unfold requestGovernorSet
  split
  · exact .iteReply (.refl s) (.iteReply (.refl s) (touches_setLane s _ _ (by rfl)))
  · exact .refl s

theorem touches_requestLifeSet : Touches [.lanes, .ret] s (requestLifeSet tag p s).1 := by
  unfold requestLifeSet
  split
  · refine .iteReply (.refl s) ?_
    dsimp only
    exact touches_rewear ..
  · exact .refl s

theorem touches_requestWearPreset : Touches [.lanes, .ret] s (requestWearPreset tag p s).1 := by
  unfold requestWearPreset
  split
  · exact .refl s
  · refine .iteReply (.refl s) ?_
    dsimp only
    exact touches_rewear ..

theorem touches_requestBitChange : Touches [.lanes] s (requestBitChange p s).1 := by
  unfold requestBitChange
  split
  · exact .refl s
  · exact .iteReply (.refl s) (touches_setLane s _ _ (Lane.withLife_cutTab ..))

theorem touches_requestLaneClear : Touches [.lanes] s (requestLaneClear p s).1 := by
  unfold requestLaneClear
  split
  · exact .refl s
  · dsimp only
    split
    · exact .iteReply (touches_setLane s _ _ (Lane.toReady_cutTab _)) (.refl s)
    · exact .iteReply (touches_setLane s _ _ (Lane.toReady_cutTab _)) (.refl s)
    · exact .refl s
    · exact .refl s

theorem requestLaneRead_state : (requestLaneRead p s).1 = s := by
  unfold requestLaneRead
  split
  · rfl
  · dsimp only
    split <;> rfl

theorem touches_requestRecipeOpen : Touches [.recipes] s (requestRecipeOpen p s).1 := by
  unfold requestRecipeOpen
  refine .iteReply (.refl s) ?_
  split
  · exact .iteReply (.refl s) (.iteReply (.refl s) (.iteReply (.refl s) (.of_take rfl rfl)))
  · exact .refl s

theorem touches_requestRecipeBoards : Touches [.recipes] s (requestRecipeBoards p s).1 := by
  unfold requestRecipeBoards
  refine .iteReply (.refl s) ?_
  split
  · exact .refl s
  · exact .iteReply (.refl s) (.iteReply (.refl s) (.of_take rfl rfl))

theorem touches_requestRecipeTabs : Touches [.recipes] s (requestRecipeTabs p s).1 := by
  unfold requestRecipeTabs
  refine .iteReply (.refl s) ?_
  split
  · exact .refl s
  · exact .iteReply (.refl s) (.iteReply (.refl s) (.of_take rfl rfl))

theorem touches_requestRecipeFinish : Touches [.recipes] s (requestRecipeFinish p s).1 := by
  unfold requestRecipeFinish
  refine .iteReply (.refl s) ?_
  split
  · exact .refl s
  · refine .iteReply (.refl s) ?_
    split
    · exact .refl s
    · exact .of_take rfl rfl

theorem touches_requestRecipeDrop : Touches [.recipes] s (requestRecipeDrop p s).1 := by
  unfold requestRecipeDrop
  refine .iteReply (.refl s) ?_
  split
  · exact .refl s
  · exact .iteReply (.refl s) (.of_take rfl rfl)

/-- A check between two replies that both leave the state. -/
theorem iteReply_state {s : State} {c : Prop} [Decidable c] {x y : State × Reply} (hx : x.1 = s) (hy : y.1 = s) :
    (if c then x else y).1 = s := by
  split
  · exact hx
  · exact hy

theorem requestRecipeRead_state : (requestRecipeRead p s).1 = s := by
  unfold requestRecipeRead
  split
  · rfl
  · dsimp only
    split
    · rfl
    · exact iteReply_state rfl rfl
    · exact iteReply_state rfl rfl
    · rfl

theorem touches_requestNestLoad : Touches [.nests, .recipes, .panel] s (requestNestLoad p s).1 := by
  unfold requestNestLoad
  split
  · exact .iteReply (.refl s) (.iteReply (.refl s) (.of_take rfl rfl))
  · exact .refl s

theorem touches_requestNestUnload : Touches [.nests, .recipes, .panel] s (requestNestUnload p s).1 := by
  unfold requestNestUnload
  split
  · exact .refl s
  · exact .iteReply (.refl s) (.iteReply (.refl s) (.of_take rfl rfl))

theorem touches_requestNestClear : Touches [.nests] s (requestNestClear p s).1 := by
  unfold requestNestClear
  split
  · exact .refl s
  · exact .iteReply (.refl s) (.iteReply (touches_modNest s _ (fun r => { r with vacuumFlag := false }) rfl) (.refl s))

theorem requestNestRead_state : (requestNestRead p s).1 = s := by
  unfold requestNestRead
  split <;> rfl

theorem requestBoardRead_state : (requestBoardRead p s).1 = s := by
  unfold requestBoardRead
  split
  · rfl
  · refine iteReply_state rfl (iteReply_state rfl ?_)
    split <;> rfl

theorem requestTabRead_state : (requestTabRead p s).1 = s := by
  unfold requestTabRead
  split
  · rfl
  · refine iteReply_state rfl ?_
    split <;> rfl

theorem touches_requestPickerClear : Touches [.pickers] s (requestPickerClear p s).1 := by
  unfold requestPickerClear
  split
  · exact .refl s
  · dsimp only
    split
    · exact .iteReply (.of_take rfl rfl) (.refl s)
    · exact .refl s
    · exact .refl s

theorem touches_requestBayConfig : Touches [.bays] s (requestBayConfig p s).1 := by
  unfold requestBayConfig
  split
  · exact .iteReply (.refl s) (.iteReply (.refl s) (.of_take rfl rfl))
  · exact .refl s

theorem touches_requestBayPreset : Touches [.bays, .ret] s (requestBayPreset tag p s).1 := by
  unfold requestBayPreset
  split
  · exact .refl s
  · refine .iteReply (.refl s) (.iteReply (.refl s) ?_)
    exact .ite (.of_take_post rfl rfl rfl) ((touches_modBay s _ _).mono rfl)

theorem requestBayRead_state : (requestBayRead p s).1 = s := by
  unfold requestBayRead
  split
  · rfl
  · split
    · rfl
    · split
      · refine iteReply_state rfl ?_
        split <;> rfl
      · rfl
    · rfl

end Requests

/-! ### Commands -/

/-- The records a reset's end sets (R163, R165): all but the input pins' levels, the queue, the clock, the free counter and the
frames sent (log 5). -/
def resetParts : List Part :=
  [.pins, .portU, .portD, .down, .up, .lastOrder, .roles, .recipes, .nests, .table, .lanes, .pickers, .bays, .placements, .ret,
    .line, .timing, .panel, .cuts]

/-- The records a command may touch. -/
def footprint : Instr → List Part
  | .frameArrival .. => [.portU, .portD, .ret, .line, .down, .up]
  | .itemPass .. => [.down]
  | .cut _ => [.down, .ret, .nests, .lanes, .cuts]
  | .spinStart _ | .spinStop _ | .feed _ => [.down, .ret, .lanes]
  | .grip _ => [.down, .ret, .nests, .pickers]
  | .openJaws _ => [.down, .ret, .placements, .nests, .bays, .pickers, .ret]
  | .lift _ => [.down, .ret, .nests]
  | .place _ => [.down, .ret, .free, .bays, .ret, .nests, .placements]
  | .shuttle _ => [.down, .ret, .table]
  | .haltFrame => [.down, .ret, .lanes, .sentD]
  | .insertion => [.down, .lanes, .lastOrder, .sentD, .ret, .sentU]
  | .returnFill => [.up, .ret, .sentU]
  | .cutDone _ => [.up, .nests, .pickers, .ret, .lanes, .cuts]
  | .laneState _ => [.up, .lanes, .ret]
  | .gripState _ => [.up, .nests, .pickers, .lanes, .placements, .bays, .ret]
  | .tableState _ => [.up, .nests, .lanes, .ret, .table]
  | .bayState _ => [.up, .placements, .nests, .ret, .bays]
  | .placeDone _ => [.up, .placements, .nests, .bays, .ret]
  | .cutTimerExpiry _ => [.now, .nests, .lanes, .cuts, .ret]
  | .jawTimerExpiry _ => [.now, .nests, .pickers, .ret]
  | .placeTimerExpiry .. => [.now, .placements, .nests, .bays, .ret]
  | .spinDownTimerExpiry _ | .recoveryTimerExpiry _ => [.now, .lanes, .ret]
  | .coolDownTimerExpiry _ | .restoreTimerExpiry _ => [.now, .lanes]
  | .cycleWatchdogExpiry => [.now, .line, .ret, .sentD, .lanes]
  | .stopsenseChange _ => [.pins, .line]
  | .filterTimerExpiry => [.now, .line, .ret]
  | .powerOnReset _ | .pinReset _ => resetParts
  | .nresetAssert | .supplyApplied => [.pins, .down, .up]
  | .reset _ =>
    [.down, .ret, .answers, .portU, .portD, .lastOrder, .roles, .recipes, .nests, .table, .lanes, .pickers, .bays, .placements, .ret,
      .line, .panel, .cuts]
  | .run _ | .halt _ | .alertMask _ | .lock _ => [.down, .ret, .answers, .line]
  | .roleSet _ => [.down, .ret, .answers, .roles]
  | .timingSet _ => [.down, .ret, .answers, .timing]
  | .laneConfig _ | .governorSet _ | .bitChange _ | .laneClear _ => [.down, .ret, .answers, .lanes]
  | .lifeSet _ | .wearPreset _ => [.down, .ret, .answers, .lanes, .ret]
  | .recipeOpen _ | .recipeBoards _ | .recipeTabs _ | .recipeFinish _ | .recipeDrop _ => [.down, .ret, .answers, .recipes]
  | .nestLoad _ | .nestUnload _ => [.down, .ret, .answers, .nests, .recipes, .panel]
  | .nestClear _ => [.down, .ret, .answers, .nests]
  | .pickerClear _ => [.down, .ret, .answers, .pickers]
  | .bayConfig _ => [.down, .ret, .answers, .bays]
  | .bayPreset _ => [.down, .ret, .answers, .bays, .ret]
  | .statusRead _ => [.down, .ret, .answers, .ret]
  | .laneRead _ | .recipeRead _ | .nestRead _ | .boardRead _ | .tabRead _ | .bayRead _ | .undefinedRequest .. => [.down, .ret, .answers]

section Resets
variable (s : State)

theorem ReturnPath.ok_cleared : ReturnPath.cleared.Ok := by decide

theorem touches_powerOnValues (straps : Station) (pins : Pins) : Touches resetParts s (powerOnValues straps pins s) := by
  refine ⟨fun p hp => ?_⟩
  cases p with
  | pending | now | free | sentD | sentU => rfl
  | answers => exact Nat.zero_le _
  | path => exact fun _ => ReturnPath.ok_cleared
  | frames => exact fun hs => ⟨List.forall_mem_nil _, List.forall_mem_nil _, hs.2.2⟩
  | _ => exact absurd (by decide) hp

theorem touches_pinValues (straps : Station) (pins : Pins) (f : Lane → Lane) :
    Touches resetParts s { powerOnValues straps pins s with lanes := s.lanes.map f } :=
  (touches_powerOnValues s straps pins).comp (G := [.lanes, .cuts]) (.of_take rfl rfl) rfl

theorem touches_linkReset : Touches
    [.portU, .portD, .lastOrder, .roles, .recipes, .nests, .table, .lanes, .pickers, .bays, .placements, .ret, .line, .panel, .cuts]
    s (linkReset s) := by
  refine ⟨fun p hp => ?_⟩
  cases p with
  | pending | now | free | sentD | sentU | down | up | pins | timing => rfl
  | answers => exact Nat.zero_le _
  | path => exact fun _ => ReturnPath.ok_cleared
  | frames => exact id
  | _ => exact absurd (by decide) hp

/-- R163: the frames in passage are dropped, and a pin is moved. -/
theorem touches_cutFrames (pins : Pins) : Touches [.pins, .down, .up] s { cutFrames s with pins := pins } := by
  refine ⟨fun p hp => ?_⟩
  cases p with
  | frames => exact fun hs => ⟨List.forall_mem_nil _, List.forall_mem_nil _, hs.2.2⟩
  | path => exact id
  | panel => exact fun _ => rfl
  | cuts => exact fun _ => rfl
  | answers => exact le_rfl
  | pins | down | up => exact absurd (by simp) hp
  | _ => rfl

end Resets

section Exec
variable {s : State}

/-- A request that only reads touches the walk and the answer queue. -/
theorem touches_walkRequest_read {kind : Byte} {w : Wire} {act : State → State × Reply} (h : (act s).1 = s) :
    Touches [.down, .ret, .answers] s (walkRequest kind w act s) :=
  touches_walkRequest (F := []) (by rw [h]; exact .refl s) rfl

/-- Every command has a next state, which differs from the one before in the records of its footprint at most. -/
theorem exec_touches (c : Instr) (s : State) : ∃ t, exec c s = .next t ∧ Touches (footprint c) s t := by
  cases c with
  | frameArrival port bytes => exact ⟨_, rfl, touches_arrive s port bytes⟩
  | itemPass kind w => exact ⟨_, rfl, .ite (touches_walkItem (fun _ => .refl s) (List.mem_singleton.mpr rfl)) (.refl s)⟩
  | cut w => exact ⟨_, rfl, touches_walkGated fun cycle it i => (touches_judgeCut s cycle it i)⟩
  | spinStart w => exact ⟨_, rfl, .ite (.refl s) (touches_walkGated fun cycle it i => (touches_judgeStart s cycle it i).mono rfl)⟩
  | spinStop w => exact ⟨_, rfl, .ite (touches_walkGated fun cycle it i => (touches_judgeStop s cycle it i).mono rfl) (.refl s)⟩
  | feed w => exact ⟨_, rfl, touches_walkGated fun cycle it i => (touches_judgeFeed s cycle it i)⟩
  | grip w => exact ⟨_, rfl, touches_walkGated fun cycle it p => (touches_judgeGrip s cycle it p)⟩
  | openJaws w => exact ⟨_, rfl, touches_walkGated fun cycle it p => (touches_judgeOpen s cycle it p)⟩
  | lift w => exact ⟨_, rfl, touches_walkGated fun cycle it p => (touches_judgeLift s cycle it p)⟩
  | place w => exact ⟨_, rfl, touches_walkGated fun cycle it p => (touches_judgePlace s cycle it p)⟩
  | shuttle w => exact ⟨_, rfl, touches_walkGated fun cycle it x => (touches_judgeShuttle s cycle it x)⟩
  | haltFrame => exact ⟨_, rfl, touches_walkHaltFrame s⟩
  | insertion => exact ⟨_, rfl, touches_insertAndSend s⟩
  | returnFill => exact ⟨_, rfl, touches_fillAndSend s⟩
  | cutDone w => exact ⟨_, rfl, touches_walkReport fun i cycle => (touches_takeCutDone s w i cycle)⟩
  | laneState w => exact ⟨_, rfl, touches_walkReport fun i cycle => (touches_takeLaneState s w i cycle)⟩
  | gripState w => exact ⟨_, rfl, touches_walkReport fun p cycle => (touches_takeGripState s w p cycle)⟩
  | tableState w => exact ⟨_, rfl, touches_walkReport fun x cycle => (touches_takeTableState s w x cycle)⟩
  | bayState w => exact ⟨_, rfl, touches_walkReport fun x cycle => (touches_takeBayState s w x cycle)⟩
  | placeDone w => exact ⟨_, rfl, touches_walkReport fun x cycle => (touches_takePlaceDone s w x cycle)⟩
  | cutTimerExpiry i => exact ⟨_, rfl, touches_expire fun t => (touches_cutTimedOut t i)⟩
  | jawTimerExpiry p => exact ⟨_, rfl, touches_expire fun t => (touches_jawExpired t p)⟩
  | placeTimerExpiry n b =>
    refine ⟨_, rfl, ?_⟩
    split
    next p hp => exact touches_expire fun t => (touches_endPlacement t 0 p .timeout)
    next => exact .refl s
  | spinDownTimerExpiry i => exact ⟨_, rfl, touches_expire fun t => (touches_spinDownExpired t i)⟩
  | recoveryTimerExpiry i => exact ⟨_, rfl, touches_expire fun t => (touches_recoveryExpired t i)⟩
  | coolDownTimerExpiry i => exact ⟨_, rfl, touches_expire fun t => (touches_coolDownExpired t i)⟩
  | restoreTimerExpiry i => exact ⟨_, rfl, touches_expire fun t => (touches_restoreExpired t i)⟩
  | cycleWatchdogExpiry => exact ⟨_, rfl, touches_expire fun t => (touches_watchdogExpired t)⟩
  | stopsenseChange high => exact ⟨_, rfl, touches_senseChange s high⟩
  | filterTimerExpiry =>
    refine ⟨_, rfl, ?_⟩
    split
    next timer _ => exact touches_expire fun t => (touches_filterExpired t timer.high)
    next => exact .refl s
  | powerOnReset straps => exact ⟨_, rfl, touches_powerOnValues s straps _⟩
  | nresetAssert => exact ⟨_, rfl, touches_cutFrames s _⟩
  | pinReset straps => exact ⟨_, rfl, touches_pinValues s straps _ _⟩
  | statusRead w => exact ⟨_, rfl, touches_walkRequest (touches_requestStatusRead s _) rfl⟩
  | run w => exact ⟨_, rfl, touches_walkRequest (touches_requestRun s) rfl⟩
  | halt w => exact ⟨_, rfl, touches_walkRequest (touches_requestHalt s) rfl⟩
  | reset w => exact ⟨_, rfl, touches_walkRequest (touches_linkReset s) rfl⟩
  | roleSet w => exact ⟨_, rfl, touches_walkRequest (touches_requestRoleSet s _) rfl⟩
  | timingSet w => exact ⟨_, rfl, touches_walkRequest (touches_requestTimingSet s _) rfl⟩
  | alertMask w => exact ⟨_, rfl, touches_walkRequest (F := [.line]) (.of_take rfl rfl) rfl⟩
  | lock w => exact ⟨_, rfl, touches_walkRequest (touches_requestLock s _) rfl⟩
  | laneConfig w => exact ⟨_, rfl, touches_walkRequest (touches_requestLaneConfig s _) rfl⟩
  | governorSet w => exact ⟨_, rfl, touches_walkRequest (touches_requestGovernorSet s _) rfl⟩
  | lifeSet w => exact ⟨_, rfl, touches_walkRequest (touches_requestLifeSet s _ _) rfl⟩
  | wearPreset w => exact ⟨_, rfl, touches_walkRequest (touches_requestWearPreset s _ _) rfl⟩
  | bitChange w => exact ⟨_, rfl, touches_walkRequest (touches_requestBitChange s _) rfl⟩
  | laneClear w => exact ⟨_, rfl, touches_walkRequest (touches_requestLaneClear s _) rfl⟩
  | laneRead w => exact ⟨_, rfl, touches_walkRequest_read (requestLaneRead_state s _)⟩
  | recipeOpen w => exact ⟨_, rfl, touches_walkRequest (touches_requestRecipeOpen s _) rfl⟩
  | recipeBoards w => exact ⟨_, rfl, touches_walkRequest (touches_requestRecipeBoards s _) rfl⟩
  | recipeTabs w => exact ⟨_, rfl, touches_walkRequest (touches_requestRecipeTabs s _) rfl⟩
  | recipeFinish w => exact ⟨_, rfl, touches_walkRequest (touches_requestRecipeFinish s _) rfl⟩
  | recipeDrop w => exact ⟨_, rfl, touches_walkRequest (touches_requestRecipeDrop s _) rfl⟩
  | recipeRead w => exact ⟨_, rfl, touches_walkRequest_read (requestRecipeRead_state s _)⟩
  | nestLoad w => exact ⟨_, rfl, touches_walkRequest (touches_requestNestLoad s _) rfl⟩
  | nestUnload w => exact ⟨_, rfl, touches_walkRequest (touches_requestNestUnload s _) rfl⟩
  | nestClear w => exact ⟨_, rfl, touches_walkRequest (touches_requestNestClear s _) rfl⟩
  | nestRead w => exact ⟨_, rfl, touches_walkRequest_read (requestNestRead_state s _)⟩
  | boardRead w => exact ⟨_, rfl, touches_walkRequest_read (requestBoardRead_state s _)⟩
  | tabRead w => exact ⟨_, rfl, touches_walkRequest_read (requestTabRead_state s _)⟩
  | pickerClear w => exact ⟨_, rfl, touches_walkRequest (touches_requestPickerClear s _) rfl⟩
  | bayConfig w => exact ⟨_, rfl, touches_walkRequest (touches_requestBayConfig s _) rfl⟩
  | bayPreset w => exact ⟨_, rfl, touches_walkRequest (touches_requestBayPreset s _ _) rfl⟩
  | bayRead w => exact ⟨_, rfl, touches_walkRequest_read (requestBayRead_state s _)⟩
  | undefinedRequest kind w => exact ⟨_, rfl, .ite (touches_walkRequest_read rfl) (.refl s)⟩
  | supplyApplied => exact ⟨_, rfl, touches_cutFrames s _⟩

theorem touches_of_exec {c : Instr} {t : State} (h : exec c s = .next t) : Touches (footprint c) s t := by
  obtain ⟨t', ht', htouch⟩ := exec_touches c s
  obtain rfl := Host.Outcome.next.inj (ht'.symm.trans h)
  exact htouch

end Exec

/-! ### What depends on some records alone -/

/-- A property that reads the named records alone. -/
def DependsOn (D : List Part) (P : State → Prop) : Prop := ∀ s t : State, (∀ p ∈ D, s.Same t p) → P s → P t

theorem Part.apart_singleton {D : List Part} {p : Part} (h : p ∉ D) : Part.apart D [p] = true :=
  Part.apart_iff.mpr fun _ hq e => h (List.mem_singleton.mp e ▸ hq)

theorem Part.notMem_of_apart {D F : List Part} {p : Part} (h : Part.apart F D = true) (hp : p ∈ F) : p ∉ D :=
  Part.apart_iff.mp h p hp

theorem Part.apart_comm {D F : List Part} : Part.apart D F = true ↔ Part.apart F D = true := by
  simp only [Part.apart_iff]
  exact ⟨fun h p hp hq => h p hq hp, fun h p hp hq => h p hq hp⟩

theorem Part.apart_of_subset {D F G : List Part} (h : Part.apart F D = true) (hG : ∀ p ∈ G, p ∈ F) : Part.apart G D = true :=
  Part.apart_iff.mpr fun p hp => Part.apart_iff.mp h p (hG p hp)

/-- A property is kept by what touches none of the records it reads. -/
theorem Touches.keeps {F D : List Part} {P : State → Prop} {s t : State} (h : Touches F s t) (hP : DependsOn D P)
    (hs : P s) (hD : Part.apart D F = true) : P t :=
  hP s t (fun p hp => h.same p (Part.apart_iff.mp hD p hp)) hs

/-! The walk, the answer queue and the clock are not among what most properties read: such a property is kept by a command when the
command's own act keeps it. -/

section Keeps
variable {D : List Part} {P : State → Prop} {s : State}

theorem walkItem_keeps (hP : DependsOn D P) (hD : Part.apart [.down, .frames] D = true) (hs : P s) {it : Item} {g : Half → State → State × Item}
    (h : ∀ cycle, P (g cycle s).1) : P (walkItem it g s) := by
  unfold walkItem
  split
  next => exact hs
  next fr rest _ =>
    split
    next =>
      exact Touches.keeps (F := [.down, .frames]) (.of_take rfl rfl) hP (h fr.cycle) (Part.apart_comm.mp hD)
    next => exact hs

/-- One act after another, each of which keeps a property. -/
theorem foldl_keeps {α : Type} {g : State → α → State} (hg : ∀ s x, P s → P (g s x)) (l : List α) (h : P s) : P (l.foldl g s) := by
  induction l generalizing s with
  | nil => exact h
  | cons x l ih => exact ih (hg s x h)

theorem settle_keeps (hP : DependsOn D P) (hD : .ret ∉ D) (it : Item) {v : Verdict} (hv : P v.state) : P (settle it v).1 :=
  (touches_settle it v).keeps hP hv (Part.apart_singleton hD)

theorem gate_keeps {α : Type} (hP : DependsOn D P) (hD : .ret ∉ D) (hs : P s) {it : Item} {belongs : Role → Option α}
    {judge : α → State → Verdict} (h : ∀ x, P (judge x s).state) : P (gate it belongs judge s).1 := by
  unfold gate
  split
  next => exact hs
  next => exact hs
  next => exact hs
  next => exact settle_keeps hP hD it (v := .void .badAddress s []) hs
  next =>
    split
    next x _ => exact settle_keeps hP hD it (h x)
    next => exact settle_keeps hP hD it (v := .void .wrongRole s []) hs

theorem walkGated_keeps {α : Type} (hP : DependsOn D P) (hD : Part.apart [.down, .frames, .ret] D = true) (hs : P s)
    {kind : Byte} {w : Wire} {belongs : Role → Option α} {judge : Half → Item → α → State → Verdict}
    (h : ∀ cycle it x, P (judge cycle it x s).state) : P (walkGated kind w belongs judge s) :=
  walkItem_keeps hP (Part.apart_of_subset hD (by simp +contextual)) hs
    fun cycle => gate_keeps hP (Part.notMem_of_apart hD (by simp)) hs (h cycle _)

theorem walkRequest_keeps (hP : DependsOn D P) (hD : Part.apart [.down, .frames, .ret, .answers, .path] D = true) (hs : P s)
    {kind : Byte} {w : Wire} {act : State → State × Reply} (h : P (act s).1) : P (walkRequest kind w act s) := by
  have hret {t u : State} (ht : P t) (htu : Touches [.ret, .answers, .path] t u) : P u :=
    htu.keeps hP ht (Part.apart_comm.mp (Part.apart_of_subset hD (by simp +contextual)))
  refine walkItem_keeps hP (Part.apart_of_subset hD (by simp +contextual)) hs fun _ => ?_
  split
  next =>
    unfold request
    split
    next => exact hret hs (.of_take rfl rfl)
    next => exact hret h (.of_take rfl rfl)
  next => exact hs

theorem walkReport_keeps {α : Type} (hP : DependsOn D P) (hD : Part.apart [.up, .frames] D = true) (hs : P s)
    {kind : Byte} {w : Wire} {belongs : Role → Option α} {take : α → Half → State → State}
    (h : ∀ x cycle, P (take x cycle s)) : P (walkReport kind w belongs take s) := by
  unfold walkReport
  split
  next => exact hs
  next fr rest _ =>
    split
    next =>
      refine Touches.keeps (F := [.up, .frames]) (.of_take rfl rfl) hP ?_ (Part.apart_comm.mp hD)
      split
      next x _ => exact h x fr.cycle
      next => exact hs
    next => exact hs

theorem expire_keeps (hP : DependsOn D P) (hD : Part.apart [.now] D = true) (hs : P s) {timer : Option Nat} {act : State → State}
    (h : ∀ t : State, P t → P (act t)) : P (expire timer act s) := by
  unfold expire
  split
  next => exact hs
  next =>
    split
    next => exact hs
    next =>
      exact h _ (Touches.keeps (F := [.now]) (.of_take rfl rfl) hP hs (Part.apart_singleton (Part.notMem_of_apart hD (List.mem_singleton.mpr rfl))))

end Keeps

end Sys2Proof.Machine

/-! No command takes anything of the model's own back (logs 1, 3, 5), and no command but RUN makes the line RUNNING (R150, R151). -/

namespace Sys2Proof.Machine

variable {s : State}

/-! ### The queue, the clock, the free counter and the frames sent -/

theorem pending_notMem_footprint (c : Instr) : .pending ∉ footprint c := by cases c <;> simp [footprint, resetParts]

/-- Log 1: an expiry never moves the clock back. -/
theorem now_le_expire {F : List Part} {timer : Option Nat} {act : State → State} (h : ∀ t : State, Touches F t (act t))
    (hF : Part.apart [.now] F = true) : s.now ≤ (expire timer act s).now := by
  unfold expire
  split
  next => exact le_rfl
  next ends =>
    split
    next => exact le_rfl
    next =>
      have hkept : (act (s.runTo ends)).now = max s.now ends := (h _).at .now hF
      exact (le_max_left s.now ends).trans_eq hkept.symm

/-- A command whose footprint leaves the clock out leaves the clock; the others are expiries. -/
theorem now_le_of_exec {c : Instr} {t : State} (h : exec c s = .next t) : s.now ≤ t.now := by
  by_cases hc : .now ∈ footprint c
  · cases c with
    | cutTimerExpiry i => exact Host.Outcome.next.inj h ▸ now_le_expire (fun t => touches_cutTimedOut t i) rfl
    | jawTimerExpiry p => exact Host.Outcome.next.inj h ▸ now_le_expire (fun t => touches_jawExpired t p) rfl
    | placeTimerExpiry n b =>
      obtain rfl := Host.Outcome.next.inj h
      split
      next p hp => exact now_le_expire (fun t => touches_endPlacement t 0 p .timeout) rfl
      next => exact le_rfl
    | spinDownTimerExpiry i => exact Host.Outcome.next.inj h ▸ now_le_expire (fun t => touches_spinDownExpired t i) rfl
    | recoveryTimerExpiry i => exact Host.Outcome.next.inj h ▸ now_le_expire (fun t => touches_recoveryExpired t i) rfl
    | coolDownTimerExpiry i => exact Host.Outcome.next.inj h ▸ now_le_expire (fun t => touches_coolDownExpired t i) rfl
    | restoreTimerExpiry i => exact Host.Outcome.next.inj h ▸ now_le_expire (fun t => touches_restoreExpired t i) rfl
    | cycleWatchdogExpiry => exact Host.Outcome.next.inj h ▸ now_le_expire touches_watchdogExpired rfl
    | filterTimerExpiry =>
      obtain rfl := Host.Outcome.next.inj h
      split
      next timer _ => exact now_le_expire (fun t => touches_filterExpired t timer.high) rfl
      next => exact le_rfl
    | _ => exact absurd hc (by simp [footprint, resetParts])
  · exact ((touches_of_exec h).same .now hc).ge

/-- Log 3: the free counter only advances, at a PLACE voided NO-SLOT. -/
theorem free_le_judgePlace (cycle : Half) (it : Item) (p : PickerId) : s.free ≤ (judgePlace cycle it p s).state.free := by
  unfold judgePlace
  split
  next => exact le_rfl
  next r b hok =>
    split
    next =>
      split
      next d hd => exact ((touches_reservePlace s it.tag cycle r d).at .free rfl).ge
      next => exact le_rfl
    next =>
      have hsearch : (searchVariant it.tag b.variant b.height allBays s).1.free = s.free :=
        (touches_searchVariant s it.tag b.variant b.height allBays).at .free rfl
      dsimp only
      split
      next d hd =>
        have hreserve := (touches_reservePlace (searchVariant it.tag b.variant b.height allBays s).1 it.tag cycle r d).at .free rfl
        exact (Eq.trans hreserve hsearch).ge
      next => exact hsearch.ge.trans (Nat.le_succ _)

theorem free_le_of_exec {c : Instr} {t : State} (h : exec c s = .next t) : s.free ≤ t.free := by
  by_cases hc : .free ∈ footprint c
  · cases c with
    | place w =>
      have hfree : DependsOn [.free] fun t => s.free ≤ t.free := fun u v huv hu => hu.trans_eq (huv .free (List.mem_singleton.mpr rfl)).symm
      exact Host.Outcome.next.inj h ▸ walkGated_keeps hfree rfl le_rfl free_le_judgePlace
    | _ => exact absurd hc (by simp [footprint, resetParts])
  · exact ((touches_of_exec h).same .free hc).ge

theorem isPrefix_sendDown {f : LinkFrame} {t : State} (h : t.sentD = s.sentD) : s.sentD <+: (sendDown f t).sentD := by
  rw [sendDown_sentD, h]
  exact List.prefix_append ..

theorem isPrefix_sendUp {f : LinkFrame} {t : State} (h : t.sentU = s.sentU) : s.sentU <+: (sendUp f t).sentU := by
  rw [sendUp_sentU, h]
  exact List.prefix_append ..

/-- Log 5: a frame that leaves Port D is added to those that have left it. -/
theorem sentD_isPrefix_of_exec {c : Instr} {t : State} (h : exec c s = .next t) : s.sentD <+: t.sentD := by
  by_cases hc : .sentD ∈ footprint c
  · cases c with
    | haltFrame =>
      obtain rfl := Host.Outcome.next.inj h
      unfold walkHaltFrame
      split
      next => exact List.prefix_rfl
      next fr rest _ =>
        split
        next =>
          have hwalked : (haltItems fr.todo { s with down := rest }).1.sentD = s.sentD :=
            (touches_haltItems { s with down := rest } fr.todo).at .sentD rfl
          generalize haltItems fr.todo { s with down := rest } = r at hwalked ⊢
          have htopped : (topUp r.1 r.2).1.sentD = r.1.sentD := (touches_topUp r.1 r.2).at .sentD rfl
          exact isPrefix_sendDown (htopped.trans hwalked)
        next => exact List.prefix_rfl
    | insertion =>
      obtain rfl := Host.Outcome.next.inj h
      unfold insertAndSend
      split
      next => exact List.prefix_rfl
      next fr rest _ =>
        split
        next =>
          have htopped : (topUp { s with down := rest } fr.out).1.sentD = s.sentD :=
            (touches_topUp { s with down := rest } fr.out).at .sentD rfl
          generalize topUp { s with down := rest } fr.out = r at htopped ⊢
          dsimp only
          split
          next => exact isPrefix_sendDown (t := { r.1 with lastOrder := fr.cycle }) htopped
          next => exact isPrefix_sendDown (t := { r.1 with lastOrder := fr.cycle }) htopped
        next => exact List.prefix_rfl
    | cycleWatchdogExpiry =>
      obtain rfl := Host.Outcome.next.inj h
      unfold expire
      split
      next => exact List.prefix_rfl
      next ends _ =>
        split
        next => exact List.prefix_rfl
        next =>
          unfold watchdogExpired
          rw [show (List.foldl watchdogDeliver _ allLanes).sentD = _ from
            (touches_foldl touches_watchdogDeliver allLanes _).at .sentD rfl]
          exact isPrefix_sendDown ((touches_judgeLine _ _).at .sentD rfl)
    | _ => exact absurd hc (by simp [footprint, resetParts])
  · exact ((touches_of_exec h).same .sentD hc).symm ▸ List.prefix_rfl

/-- Log 5: a frame that leaves Port U is added to those that have left it. -/
theorem sentU_isPrefix_of_exec {c : Instr} {t : State} (h : exec c s = .next t) : s.sentU <+: t.sentU := by
  by_cases hc : .sentU ∈ footprint c
  · cases c with
    | insertion =>
      obtain rfl := Host.Outcome.next.inj h
      unfold insertAndSend
      split
      next => exact List.prefix_rfl
      next fr rest _ =>
        split
        next =>
          have hkept : (topUp { s with down := rest } fr.out).1.sentU = s.sentU :=
            (touches_topUp { s with down := rest } fr.out).at .sentU rfl
          generalize topUp { s with down := rest } fr.out = r at hkept ⊢
          dsimp only
          split
          next => exact isPrefix_sendUp (t := { sendDown _ { r.1 with lastOrder := fr.cycle } with ret := _ }) hkept
          next => exact hkept ▸ List.prefix_rfl
        next => exact List.prefix_rfl
    | returnFill =>
      obtain rfl := Host.Outcome.next.inj h
      unfold fillAndSend
      split
      next => exact List.prefix_rfl
      next =>
        split
        next => exact ⟨_, rfl⟩
        next => exact List.prefix_rfl
    | _ => exact absurd hc (by simp [footprint, resetParts])
  · exact ((touches_of_exec h).same .sentU hc).symm ▸ List.prefix_rfl

/-- Settles O2: a command's next state is given by `exec_touches`, and each record of the model's own is in few footprints. -/
theorem everyCommandCompletes : Obligations.EveryCommandCompletes := by
  intro c s
  obtain ⟨t, ht, htouch⟩ := exec_touches c s
  exact ⟨t, ht, htouch.same .pending (pending_notMem_footprint c), now_le_of_exec ht, free_le_of_exec ht,
    sentD_isPrefix_of_exec ht, sentU_isPrefix_of_exec ht⟩

/-! ### What makes the line RUNNING -/

/-- The line is RUNNING in the second state only if it was in the first. -/
def State.NotStarted (s t : State) : Prop := t.line.state = .running → s.line.state = .running

theorem State.NotStarted.trans {t u : State} (h : s.NotStarted t) (h' : t.NotStarted u) : s.NotStarted u := fun hu => h (h' hu)

theorem State.NotStarted.of_line {t : State} (h : t.line.state = s.line.state) : s.NotStarted t := h.symm.trans

theorem Touches.notStarted {F : List Part} {t : State} (h : Touches F s t) (hF : Part.apart [.line] F = true) : s.NotStarted t :=
  .of_line (congrArg Line.state (h.at .line hF))

/-- R150: judging the line takes it to HELD, or out of HELD to IDLE. -/
theorem judgeLine_notStarted (before : HoldSet) (s : State) : s.NotStarted (judgeLine before s) := by
  have hunder (h : lineUnder s.holdSet s.line.state = .running) : s.line.state = .running := by
    unfold lineUnder at h
    split at h
    · split at h
      · cases h
      · exact h
    · cases h
  unfold judgeLine
  split
  · exact id
  · dsimp only
    split <;> exact hunder

theorem countFailed_notStarted (p : Port) : s.NotStarted (countFailed p s) := by
  unfold countFailed
  dsimp only
  split
  next => exact (touches_setPort s p _).notStarted rfl
  next =>
    split
    next =>
      refine .trans (.of_line ?_) (judgeLine_notStarted _ _)
      rw [post_line, setPort_line]
      split <;> simp
    next =>
      refine .of_line ?_
      split <;> simp

theorem countGood_notStarted (p : Port) : s.NotStarted (countGood p s) := by
  unfold countGood
  dsimp only
  split
  next =>
    split
    next => exact (touches_setPort s p _).notStarted rfl
    next => exact .trans (.of_line (by simp)) (judgeLine_notStarted _ _)
  next => split <;> exact .of_line (by simp)

theorem restartWatchdog_notStarted : s.NotStarted (restartWatchdog s) :=
  .trans (.of_line rfl) (judgeLine_notStarted s.holdSet
    { s with line := { s.line with watchdogHold := false, watchdog := some (s.now + s.timing.watchdog) } })

theorem handOn_notStarted (p : Port) (f : LinkFrame) : s.NotStarted (handOn p f s) := by
  unfold handOn
  split
  next =>
    split
    next => exact .trans restartWatchdog_notStarted (.of_line rfl)
    next => split <;> exact .of_line rfl
  next => split <;> exact .of_line rfl

theorem arrive_notStarted (p : Port) (bytes : List Byte) : s.NotStarted (arrive p bytes s) := by
  unfold arrive
  split
  next => exact id
  next =>
    split
    next => exact countFailed_notStarted p
    next =>
      split
      next => exact (countGood_notStarted p).trans (handOn_notStarted p _)
      next => exact countGood_notStarted p

theorem watchdogExpired_notStarted : s.NotStarted (watchdogExpired s) := by
  have hjudged : s.NotStarted (judgeLine s.holdSet { s with line := { s.line with watchdogHold := true, watchdog := none } }) :=
    .trans (.of_line rfl) (judgeLine_notStarted _ _)
  unfold watchdogExpired
  generalize judgeLine s.holdSet _ = t at hjudged ⊢
  exact .trans (hjudged.trans (.of_line rfl)) ((touches_foldl touches_watchdogDeliver allLanes _).notStarted rfl)

theorem filterExpired_notStarted (high : Bool) : s.NotStarted (filterExpired high s) :=
  .trans (.of_line rfl) (judgeLine_notStarted s.holdSet
    { s with line := { s.line with filtered := if high then .closed else .opened, filterTimer := none } })

theorem senseChange_notStarted (high : Bool) : s.NotStarted (senseChange high s) := by
  refine .of_line ?_
  unfold senseChange
  dsimp only
  split
  · rfl
  · split
    · rfl
    · split <;> rfl

theorem requestHalt_notStarted : s.NotStarted (requestHalt s).1 := by
  unfold requestHalt
  dsimp only
  split
  · exact fun h => nomatch h
  · exact id

theorem requestLock_notStarted (p : Payload) : s.NotStarted (requestLock p s).1 := by
  unfold requestLock
  split <;> exact .of_line rfl

theorem expire_notStarted {timer : Option Nat} {act : State → State} (h : ∀ t : State, t.NotStarted (act t)) :
    s.NotStarted (expire timer act s) :=
  expire_line (P := fun l => l.state = .running → s.line.state = .running) id fun t ht ha => ht ▸ h t ha

theorem walkRequest_notStarted {kind : Byte} {w : Wire} {act : State → State × Reply} (h : s.NotStarted (act s).1) :
    s.NotStarted (walkRequest kind w act s) :=
  walkRequest_line (P := fun l => l.state = .running → s.line.state = .running) id h

theorem exec_notStarted {c : Instr} {t : State} (h : exec c s = .next t) (hrun : ∀ w, c ≠ .run w) : s.NotStarted t := by
  by_cases hc : .line ∈ footprint c
  · cases c with
    | run w => exact absurd rfl (hrun w)
    | frameArrival port bytes => exact Host.Outcome.next.inj h ▸ arrive_notStarted port bytes
    | cycleWatchdogExpiry => exact Host.Outcome.next.inj h ▸ expire_notStarted fun _ => watchdogExpired_notStarted
    | stopsenseChange high => exact Host.Outcome.next.inj h ▸ senseChange_notStarted high
    | filterTimerExpiry =>
      obtain rfl := Host.Outcome.next.inj h
      split
      next timer _ => exact expire_notStarted fun _ => filterExpired_notStarted timer.high
      next => exact id
    | powerOnReset straps => exact Host.Outcome.next.inj h ▸ fun hr => nomatch hr
    | pinReset straps => exact Host.Outcome.next.inj h ▸ fun hr => nomatch hr
    | reset w => exact Host.Outcome.next.inj h ▸ walkRequest_notStarted fun hr => nomatch hr
    | halt w => exact Host.Outcome.next.inj h ▸ walkRequest_notStarted requestHalt_notStarted
    | alertMask w => exact Host.Outcome.next.inj h ▸ walkRequest_notStarted (.of_line rfl)
    | lock w => exact Host.Outcome.next.inj h ▸ walkRequest_notStarted (requestLock_notStarted w.payload)
    | _ => exact absurd hc (by simp [footprint])
  · exact .of_line (congrArg Line.state ((touches_of_exec h).same .line hc))

/-- Settles O14: every command but RUN leaves a line that is not RUNNING so. -/
theorem onlyRunStartsTheLine : Obligations.OnlyRunStartsTheLine := by
  intro c s t h ht hs
  by_contra hrun
  exact hs (exec_notStarted h (not_exists.mp hrun) ht)

end Sys2Proof.Machine

/-! What raising an error cause makes of a lane (R124, R125), and where a lane stands after its cut (R52), in closed form. -/

namespace Sys2Proof.Machine

section OneLane
variable (l : Lane) (now : Nat) (c : Cause)

/-- R51: only OVERLOAD on a CUTTING lane sets the governor abort of the binding. -/
def Lane.bindingAfter : Option Binding :=
  l.binding.map fun b => { b with govAbort := b.govAbort || (decide (l.state = .cutting) && decide (c = .overload)) }

theorem Lane.bindingAfter_cutting (h : l.state = .cutting) :
    l.bindingAfter c = if c = .overload then l.binding.map fun b => { b with govAbort := true } else l.binding := by
  cases hb : l.binding <;> by_cases hc : c = .overload <;> simp [Lane.bindingAfter, hb, h, hc]

theorem Lane.bindingAfter_uncut (h : l.state ≠ .cutting) : l.bindingAfter c = l.binding := by
  cases hb : l.binding <;> simp [Lane.bindingAfter, hb, h]

/-- R124: a CUTTING lane takes a new cause and stays CUTTING, with a pending ABORT. -/
theorem Lane.newCause_cutting (h : l.state = .cutting) : l.newCause now c = { l with
    causes := l.causes.add c, bitChangeDue := l.bitChangeDue || decide (c = .bitBroken), binding := l.bindingAfter c,
    pend := { l.pend with abort := true, stop := l.pend.stop || decide (l.spindle ≠ .stopped) } } := by
  rw [Lane.bindingAfter_cutting l c h]
  by_cases hs : l.spindle = .stopped <;> by_cases hc : c = .overload <;>
    simp [Lane.newCause, Lane.govAbort, h, hs, hc]

/-- R124, R125: any other lane takes a new cause and stands where its causes put it. -/
theorem Lane.newCause_uncut (h : l.state ≠ .cutting) : l.newCause now c = Lane.placeByCauses now { l with
    causes := l.causes.add c, bitChangeDue := l.bitChangeDue || decide (c = .bitBroken),
    pend := { l.pend with stop := l.pend.stop || decide (l.spindle ≠ .stopped) } } := by
  by_cases hs : l.spindle = .stopped <;> simp [Lane.newCause, h, hs]

/-- R124: a cause already in the set. -/
theorem Lane.sameCause_eq : l.sameCause now c = { l with
    binding := l.bindingAfter c, pend := { l.pend with abort := l.pend.abort || decide (l.state = .cutting) },
    recoveryTimer := l.recoveryTimer.map fun _ => now + l.autoWait } := by
  by_cases h : l.state = .cutting
  · rw [Lane.bindingAfter_cutting l c h]
    by_cases hc : c = .overload <;> simp [Lane.sameCause, Lane.govAbort, h, hc]
  · rw [Lane.bindingAfter_uncut l c h]
    simp [Lane.sameCause, h]

/-- R125: the causes recover by themselves. -/
theorem Lane.placeByCauses_recovering (hm : l.recoveryMode = .auto) (hl : l.causes.latching = false) :
    l.placeByCauses now = { l with
      state := .recovering, recoveryTimer := if l.state = .recovering then l.recoveryTimer else some (now + l.autoWait) } :=
  if_pos ⟨hm, hl⟩

theorem Lane.placeByCauses_error (h : ¬(l.recoveryMode = .auto ∧ l.causes.latching = false)) :
    l.placeByCauses now = { l with state := .error, recoveryTimer := none } := if_neg h

/-- R124, R125: what a new cause makes of any lane. -/
theorem Lane.newCause_eq :
    let cutting := decide (l.state = .cutting)
    let recovers := decide (l.recoveryMode = .auto) && !(l.causes.add c).latching
    l.newCause now c = { l with
      causes := l.causes.add c, bitChangeDue := l.bitChangeDue || decide (c = .bitBroken), binding := l.bindingAfter c,
      pend := { l.pend with abort := l.pend.abort || cutting, stop := l.pend.stop || decide (l.spindle ≠ .stopped) },
      state := if cutting then .cutting else if recovers then .recovering else .error,
      recoveryTimer :=
        if cutting then l.recoveryTimer
        else if recovers then (if l.state = .recovering then l.recoveryTimer else some (now + l.autoWait))
        else none } := by
  intro cutting recovers
  by_cases h : l.state = .cutting
  · rw [Lane.newCause_cutting l now c h]
    simp [cutting, h]
  · rw [Lane.newCause_uncut l now c h, Lane.bindingAfter_uncut l c h]
    by_cases hrec : l.recoveryMode = .auto ∧ (l.causes.add c).latching = false
    · obtain ⟨hm, hl⟩ := hrec
      rw [Lane.placeByCauses_recovering (l := { l with
        causes := l.causes.add c, bitChangeDue := l.bitChangeDue || decide (c = .bitBroken),
        pend := { l.pend with stop := l.pend.stop || decide (l.spindle ≠ .stopped) } }) (hm := hm) (hl := hl)]
      simp [cutting, recovers, h, hm, hl]
    · have hrecovers : recovers = false := by simpa [recovers] using hrec
      rw [Lane.placeByCauses_error (l := { l with
        causes := l.causes.add c, bitChangeDue := l.bitChangeDue || decide (c = .bitBroken),
        pend := { l.pend with stop := l.pend.stop || decide (l.spindle ≠ .stopped) } }) (h := hrec)]
      simp [cutting, h, hrecovers]

variable (matched : Bool)

/-- R52: the lane with its cut ended, before its next state is found. -/
def Lane.uncut : Lane :=
  { l with binding := none, cutTimer := none, pend := { l.pend with feed := none, abort := if matched then false else l.pend.abort } }

theorem Lane.endCut_eq :
    l.endCut now matched =
      if l.causes.isEmpty then (l.uncut matched).toReady else (l.uncut matched).placeByCauses now := by
  cases matched <;> simp [Lane.endCut, Lane.uncut]

end OneLane

/-- R105: a lane that enters PARKED. -/
theorem Lane.park_eq (l : Lane) : l.park = { l with
    state := .parked,
    pend := { l.pend with stop := l.pend.stop || decide (l.spindle = .runningUp ∨ l.spindle = .atSpeed) } } := by
  unfold Lane.park
  split
  next h => simp [h]
  next h => simp [h]

/-- Settles O26: `Lane.newCause_eq` and `Lane.sameCause_eq` are the two closed forms of a raised cause, and `Lane.endCut_eq`
leads to one of the four next states. -/
theorem causesAndCutEndsPlaceTheLane : Obligations.CausesAndCutEndsPlaceTheLane := by
  refine ⟨fun tag i c s => ?raised, fun l now matched => ?ended⟩
  case raised =>
    simp only [raiseCause, Lane.newCause_eq, Lane.sameCause_eq]
    rfl
  case ended =>
    intro l'
    have hl' : l.uncut matched = l' := rfl
    rw [Lane.endCut_eq, hl']
    refine ⟨fun hc hm hl hs => ?recovering, fun hc h => ?error, fun hc hp => ?parked, fun hc hp => ?ready⟩
    case recovering =>
      rw [if_neg (by simp [hc]), Lane.placeByCauses_recovering l' now hm hl]
      simp [l', hs]
    case error =>
      have hlatch : ¬(l.recoveryMode = .auto ∧ l.causes.latching = false) := by
        rcases h with h | h <;> simp [h]
      rw [if_neg (by simp [hc]), Lane.placeByCauses_error l' now hlatch]
    case parked =>
      have hp' : l'.life.parkHold = true := hp
      rw [if_pos hc, Lane.toReady, if_pos hp', Lane.park_eq]
    case ready =>
      have hp' : ¬l'.life.parkHold = true := by simpa [l'] using hp
      rw [if_pos hc, Lane.toReady, if_neg hp']

end Sys2Proof.Machine

/-! Every step keeps the lanes (R36, R100 to R105, R115, R118 to R122, R125): each operation on one lane keeps that lane's records in
agreement, and each command is made of such operations. -/

namespace Sys2Proof.Machine

/-- What `State.LaneInv` says of one lane. -/
def Lane.Good (l : Lane) : Prop := l.Ok ∧ l.life.Ok ∧ l.gov.Ok

/-! ### Operations on one lane -/

section OneLane
variable {l : Lane}

theorem Lane.good_initial : Lane.initial.Good := by
  refine ⟨?_, ?_, ?_⟩ <;> decide

/-- R115: the last reports, the pending items, the timeouts and a due bit change are free of the lane's state. -/
theorem Lane.Good.with_pend (h : l.Good) (p : Pend) : Lane.Good { l with pend := p } := h

theorem Lane.Good.with_gov (h : l.Good) {g : Governor} (hg : g.Ok) : Lane.Good { l with gov := g } := ⟨h.1, h.2.1, hg⟩

theorem Lane.Good.withGov (h : l.Good) {g : Governor} (hg : g.Ok) : (l.withGov g).Good := h.with_gov hg

/-- R118: a turning spindle is told to stop. -/
theorem Lane.Good.stopped (h : l.Good) (now : Nat) : (l.stopped now).Good := by
  obtain ⟨hok, hlife, hgov⟩ := h
  refine ⟨?_, ?_, ?_⟩
  · unfold Lane.stopped
    split <;> grind
  · unfold Lane.stopped
    split <;> exact hlife
  · unfold Lane.stopped
    split <;> exact hgov

/-- R117: a start takes a READY lane's spindle up. -/
theorem Lane.Good.started (h : l.Good) (hs : l.state ≠ .inactive) (speed : Nat) :
    Lane.Good { l with spindle := .runningUp, commanded := some speed, spinDownTimer := none } := by
  obtain ⟨hok, hlife, hgov⟩ := h
  refine ⟨?_, hlife, hgov⟩
  grind

/-- R43: an admitted CUT binds a READY lane. -/
theorem Lane.Good.bound (h : l.Good) (hs : l.state = .ready) (ends : Nat) (b : Binding) :
    Lane.Good { l with state := .cutting, cutTimer := some ends, binding := some b } := by
  obtain ⟨hok, hlife, hgov⟩ := h
  refine ⟨?_, hlife, hgov⟩
  grind

/-- R117, R118: a reported speed. -/
theorem Lane.Good.spindleReport (h : l.Good) (speed : Nat) : (l.spindleReport speed).Good := by
  obtain ⟨hok, hlife, hgov⟩ := h
  unfold Lane.spindleReport
  split
  · split
    · refine ⟨?_, hlife, hgov⟩
      grind
    · exact ⟨hok, hlife, hgov⟩
  · split
    · refine ⟨?_, hlife, hgov⟩
      grind
    · exact ⟨hok, hlife, hgov⟩
  · exact ⟨hok, hlife, hgov⟩

theorem Causes.isEmpty_add (c : Causes) (k : Cause) : (c.add k).isEmpty = false := by
  cases k <;> simp [Causes.add, Causes.isEmpty]

/-- R125: a lane with causes stands in RECOVERING or ERROR. -/
theorem Lane.Good.placeByCauses (hlife : l.life.Ok) (hgov : l.gov.Ok) (hc : l.causes.isEmpty = false)
    (hb : l.binding.isSome = false) (ht : l.cutTimer.isSome = false) (hspin : l.spinDownTimer.isSome = true → l.spindle = .spinningDown)
    (hr : l.state = .recovering → l.recoveryTimer.isSome = true) (now : Nat) : (l.placeByCauses now).Good := by
  unfold Lane.placeByCauses
  split
  · refine ⟨?_, hlife, hgov⟩
    grind
  · refine ⟨?_, hlife, hgov⟩
    grind

/-- R105: a lane without causes stands in READY or PARKED. -/
theorem Lane.Good.toReady (hlife : l.life.Ok) (hgov : l.gov.Ok) (hc : l.causes.isEmpty = true)
    (hb : l.binding.isSome = false) (ht : l.cutTimer.isSome = false) (hspin : l.spinDownTimer.isSome = true → l.spindle = .spinningDown)
    (hr : l.recoveryTimer.isSome = false) : l.toReady.Good := by
  unfold Lane.toReady Lane.park
  split
  · refine ⟨?_, hlife, hgov⟩
    grind
  · refine ⟨?_, hlife, hgov⟩
    grind

/-- R51: the governor abort of the binding. -/
theorem Lane.isSome_bindingAfter (c : Cause) : (l.bindingAfter c).isSome = l.binding.isSome := by
  simp [Lane.bindingAfter]

/-- R124: a new cause. -/
theorem Lane.Good.newCause (h : l.Good) (hs : l.state ≠ .inactive) (now : Nat) (c : Cause) : (l.newCause now c).Good := by
  have hadd := Causes.isEmpty_add l.causes c
  have hbind := Lane.isSome_bindingAfter (l := l) c
  obtain ⟨hok, hlife, hgov⟩ := h
  by_cases hcut : l.state = .cutting
  · rw [Lane.newCause_cutting l now c hcut]
    refine ⟨?_, hlife, hgov⟩
    grind
  · rw [Lane.newCause_uncut l now c hcut]
    refine Lane.Good.placeByCauses ?_ ?_ hadd ?_ ?_ ?_ ?_ now
    all_goals grind

/-- R124: a cause already in the set restarts a running auto wait. -/
theorem Lane.Good.sameCause (h : l.Good) (now : Nat) (c : Cause) : (l.sameCause now c).Good := by
  have hbind := Lane.isSome_bindingAfter (l := l) c
  obtain ⟨hok, hlife, hgov⟩ := h
  rw [Lane.sameCause_eq]
  refine ⟨?_, hlife, hgov⟩
  simpa [Lane.Ok, hbind] using hok

/-- R52: a cut ends. -/
theorem Lane.Good.endCut (h : l.Good) (now : Nat) (matched : Bool) : (l.endCut now matched).Good := by
  obtain ⟨hok, hlife, hgov⟩ := h
  unfold Lane.endCut
  dsimp only
  split
  next hc =>
    refine Lane.Good.toReady hlife hgov hc ?_ ?_ ?_ ?_
    all_goals grind
  next hc =>
    refine Lane.Good.placeByCauses ?_ ?_ (by simpa using hc) ?_ ?_ ?_ ?_ now
    all_goals grind

/-- R126, R127: the causes of a lane in ERROR or RECOVERING are emptied. -/
theorem Lane.Good.restored (h : l.Good) (hs : l.state ≠ .cutting) : l.restored.Good := by
  obtain ⟨hok, hlife, hgov⟩ := h
  exact .toReady hlife hgov rfl (by grind) (by grind) (by grind) rfl

/-- R105: a lane takes a life record, and the park hold is applied or released. -/
theorem Lane.Good.withLife (h : l.Good) {life : Life} (hl : life.Ok) : (l.withLife life).Good := by
  obtain ⟨hok, hlife, hgov⟩ := h
  unfold Lane.withLife Lane.park
  dsimp only
  split
  · refine ⟨?_, hl, hgov⟩
    grind
  · split
    · refine ⟨?_, hl, hgov⟩
      grind
    · refine ⟨?_, hl, hgov⟩
      grind

/-- R110: a fresh bit. -/
theorem Lane.Good.freshBit (h : l.Good) (bit : Half) : (l.freshBit bit).Good := by
  have hlife : Life.Ok { l.life with bitId := bit, wear := 0, warned := false, reached := false } := by
    have := h.2.1
    grind
  exact h.withLife hlife

/-- R102, R103: a life record with its levels in order has its flags judged. -/
theorem Life.ok_judged {life : Life} (h1 : life.wear ≤ 16777215) (h2 : 1 ≤ life.warn) (h3 : life.warn ≤ life.limit)
    (h4 : life.limit ≤ 16777215) :
    Life.Ok { life with warned := decide (life.warn ≤ life.wear), reached := decide (life.limit ≤ life.wear) } :=
  ⟨h1, h2, h3, h4, by simp, by simp⟩

/-- R114: a reset keeps the levels of a life record, or sets them to their defaults, and judges its flags. -/
theorem Life.Ok.afterReset {life : Life} (h : life.Ok) (keep : Bool) : (life.afterReset keep).Ok := by
  unfold Life.afterReset
  cases keep
  · simp only [Config.wearMax]
    grind
  · grind

theorem Governor.ok_initial : Governor.initial.Ok := by decide

theorem Governor.Ok.linkReset {g : Governor} (h : g.Ok) (keep : Bool) : (g.linkReset keep).Ok := by
  unfold Governor.linkReset Governor.initial
  cases keep
  · exact Governor.ok_initial
  · grind

/-- R129: a lane's timeouts, its recovery mode and wait, which move it between ERROR and RECOVERING. -/
def Lane.reconfigured (l : Lane) (now cutT spinT wait : Nat) (mode : RecoveryMode) : Lane :=
  let l := { l with cutTimeout := cutT, spinDownTimeout := spinT, autoWait := wait, recoveryMode := mode }
  if l.state = .error ∧ mode = .auto ∧ l.causes.latching = false then
    { l with state := .recovering, recoveryTimer := some (now + wait) }
  else if l.state = .recovering ∧ mode = .latch then { l with state := .error, recoveryTimer := none }
  else l

theorem Lane.configured_eq (now : Nat) (active : Bool) (cutT spinT wait : Nat) (mode : RecoveryMode) :
    l.configured now active cutT spinT wait mode =
      let l := l.reconfigured now cutT spinT wait mode
      if active then (if l.state = .inactive then l.toReady else l) else { l with state := .inactive } := rfl

theorem Lane.Good.reconfigured (h : l.Good) (now cutT spinT wait : Nat) (mode : RecoveryMode) :
    (l.reconfigured now cutT spinT wait mode).Good := by
  obtain ⟨hok, hlife, hgov⟩ := h
  unfold Lane.reconfigured
  dsimp only
  split
  · refine ⟨?_, hlife, hgov⟩
    grind
  · split
    · refine ⟨?_, hlife, hgov⟩
      grind
    · refine ⟨?_, hlife, hgov⟩
      have : mode = .auto ∨ mode = .latch := by cases mode <;> simp
      grind

theorem Lane.keepsActive_eq_false : l.keepsActive = false ↔
    l.state = .inactive ∨ ((l.state = .ready ∨ l.state = .parked) ∧ l.spindle = .stopped) := by
  simp only [Lane.keepsActive, Bool.not_eq_false', Bool.or_eq_true, Bool.and_eq_true, decide_eq_true_eq]

theorem Lane.reconfigured_rest (h : l.state ≠ .error ∧ l.state ≠ .recovering) (now cutT spinT wait : Nat) (mode : RecoveryMode) :
    l.reconfigured now cutT spinT wait mode =
      { l with cutTimeout := cutT, spinDownTimeout := spinT, autoWait := wait, recoveryMode := mode } := by
  obtain ⟨he, hr⟩ := h
  simp [Lane.reconfigured, he, hr]

/-- R129: LANE-CONFIG takes a lane at rest out of use, and an INACTIVE one into use. -/
theorem Lane.Good.configured (h : l.Good) (now : Nat) {active : Bool} (cutT spinT wait : Nat) (mode : RecoveryMode)
    (hactive : active = false → l.keepsActive = false) : (l.configured now active cutT spinT wait mode).Good := by
  have hgood := h.reconfigured now cutT spinT wait mode
  rw [Lane.configured_eq]
  cases active with
  | true =>
    have ⟨hok, hlife, hgov⟩ := hgood
    dsimp only
    rw [if_pos rfl]
    split
    · exact .toReady hlife hgov (by grind) (by grind) (by grind) (by grind) (by grind)
    · exact hgood
  | false =>
    have hrest := Lane.keepsActive_eq_false.1 (hactive rfl)
    obtain ⟨hok, hlife, hgov⟩ := h
    rw [Lane.reconfigured_rest (by grind)]
    refine ⟨?_, hlife, hgov⟩
    grind

end OneLane

/-! ### Operations on a governor -/

section OneGovernor
variable {g : Governor}

/-- R130: GOVERNOR-SET. -/
theorem Governor.Ok.configured (h : g.Ok) (mode : GovMode) {level mask cool restore : Nat} (hl : level ≤ 7)
    (hm : 5 ≤ mask ∧ mask ≤ 500) (hc : 100 ≤ cool ∧ cool ≤ 10000) (hr : 500 ≤ restore ∧ restore ≤ 60000) :
    (g.configured mode level mask cool restore).Ok := by
  unfold Governor.configured
  dsimp only
  split
  · grind
  · refine ⟨hl, hm, hc, hr, ?_⟩
    simp

/-- R121: the ladder's rungs. -/
theorem rungBelow_mem (override : Nat) : rungBelow override ∈ [85, 70, 55, 40, 25] := by
  unfold rungBelow
  grind

/-- R121, R122: the cool-down's end in STEPPED. -/
theorem Governor.Ok.cooled (h : g.Ok) (hs : g.state = .stepped) (now : Nat) (load : Option Nat) : (g.cooled now load).Ok := by
  have hrung := rungBelow_mem g.override
  unfold Governor.cooled
  split
  · split
    · grind
    · grind
  · split
    · grind
    · grind

theorem Governor.Ok.restoredBy (h : g.Ok) (hs : g.state = .fallback) (now : Nat) (load : Option Nat) :
    (g.restoredBy now load).Ok := by
  unfold Governor.restoredBy
  split
  · grind
  · grind

/-- R119: the over-run start is free outside STEPPED. -/
theorem Governor.Ok.with_overRun (h : g.Ok) (hs : g.state ≠ .stepped) (r : Option Nat) : Governor.Ok { g with overRun := r } := by
  grind

theorem Governor.overRunAfter_over (now load : Nat) (h : (g.overRunAfter now load).2 = true) :
    (g.overRunAfter now load).1 = none := by
  unfold Governor.overRunAfter at h ⊢
  grind

/-- R120: a YIELD governor in NORMAL steps down. -/
theorem Governor.Ok.stepped (h : g.Ok) (hm : g.mode = .yield) (hs : g.state = .normal) (ho : g.overRun = none) (ends : Nat) :
    Governor.Ok { g with state := .stepped, override := 85, coolTimer := some ends } := by
  grind

end OneGovernor

end Sys2Proof.Machine

/-! Every command keeps the lanes: the records of each lane stay in agreement (R36, R100 to R105, R115, R118 to R122, R125), and none
but BIT-CHANGE and a power-on reset lets the wear of a lane fall (R100). -/

namespace Sys2Proof.Machine

/-- Every lane's records agree, and its wear has not fallen below a value. -/
def State.LanesFrom (w : LaneId → Nat) (s : State) : Prop := ∀ i, (s.lane i).Good ∧ w i ≤ (s.lane i).life.wear

theorem State.lanesFrom_zero {s : State} : s.LanesFrom (fun _ => 0) ↔ s.LaneInv :=
  ⟨fun h i => (h i).1, fun h i => ⟨h i, Nat.zero_le _⟩⟩

theorem lanesFrom_dependsOn (w : LaneId → Nat) : DependsOn [.lanes] (State.LanesFrom w) := by
  intro s t h hs i
  have hlanes : t.lanes = s.lanes := h .lanes (List.mem_singleton.mpr rfl)
  have hlane : t.lane i = s.lane i := by simp only [State.lane, hlanes]
  exact hlane ▸ hs i

/-! ### The lane operations that leave the life record alone -/

section Life
variable (l : Lane)

theorem Lane.placeByCauses_life (now : Nat) : (l.placeByCauses now).life = l.life := by
  unfold Lane.placeByCauses
  split <;> rfl

theorem Lane.toReady_life : l.toReady.life = l.life := by
  unfold Lane.toReady
  split <;> rfl

theorem Lane.newCause_life (now : Nat) (c : Cause) : (l.newCause now c).life = l.life := by rw [Lane.newCause_eq]

theorem Lane.sameCause_life (now : Nat) (c : Cause) : (l.sameCause now c).life = l.life := by rw [Lane.sameCause_eq]

theorem Lane.endCut_life (now : Nat) (matched : Bool) : (l.endCut now matched).life = l.life := by
  rw [Lane.endCut_eq]
  split
  · exact Lane.toReady_life _
  · exact Lane.placeByCauses_life _ _

theorem Lane.spindleReport_life (speed : Nat) : (l.spindleReport speed).life = l.life := by
  unfold Lane.spindleReport
  split
  · split <;> rfl
  · split <;> rfl
  · rfl

theorem Lane.stopped_life (now : Nat) : (l.stopped now).life = l.life := by
  unfold Lane.stopped
  split <;> rfl

theorem Lane.reconfigured_life (now cutT spinT wait : Nat) (mode : RecoveryMode) :
    (l.reconfigured now cutT spinT wait mode).life = l.life := by
  unfold Lane.reconfigured
  dsimp only
  split
  · rfl
  · split <;> rfl

theorem Lane.configured_life (now : Nat) (active : Bool) (cutT spinT wait : Nat) (mode : RecoveryMode) :
    (l.configured now active cutT spinT wait mode).life = l.life := by
  rw [Lane.configured_eq]
  dsimp only
  split
  · split
    · exact (Lane.toReady_life _).trans (Lane.reconfigured_life l now cutT spinT wait mode)
    · exact Lane.reconfigured_life l now cutT spinT wait mode
  · exact Lane.reconfigured_life l now cutT spinT wait mode

/-- R105: a lane takes the life record it is given. -/
theorem Lane.withLife_life (life : Life) : (l.withLife life).life = life := by
  obtain ⟨st, p, h⟩ := Lane.withLife_frame l life
  rw [h]

end Life

/-! ### The shared operations -/

section Shared
variable {w : LaneId → Nat} {s : State}

theorem State.LanesFrom.of_touches {F : List Part} {t : State} (hs : s.LanesFrom w) (h : Touches F s t)
    (hF : Part.apart [.lanes] F = true) : t.LanesFrom w := h.keeps (lanesFrom_dependsOn w) hs hF

/-- The nests are no part of a lane. -/
theorem State.LanesFrom.modNest (hs : s.LanesFrom w) (n : Nest) (f : NestRec → NestRec) : (modNest n f s).LanesFrom w := hs

theorem State.LanesFrom.modBoard (hs : s.LanesFrom w) (r : BoardRef) (f : BoardRec → BoardRec) : (modBoard r f s).LanesFrom w := hs

theorem State.LanesFrom.modTab (hs : s.LanesFrom w) (n : Nest) (tab : Nat) (f : TabRec → TabRec) :
    (modTab n tab f s).LanesFrom w := hs

theorem State.LanesFrom.setLane (hs : s.LanesFrom w) {i : LaneId} {l : Lane} (hl : l.Good) (hw : w i ≤ l.life.wear) :
    (setLane i l s).LanesFrom w := by
  intro j
  rw [lane_setLane]
  split
  next h => exact ⟨hl, h ▸ hw⟩
  next => exact hs j

theorem State.LanesFrom.setLane_life (hs : s.LanesFrom w) {i : LaneId} {l : Lane} (hl : l.Good)
    (hlife : l.life = (s.lane i).life) : (Machine.setLane i l s).LanesFrom w := hs.setLane hl (hlife ▸ (hs i).2)

/-- R141: the pending items of a lane are free. -/
theorem State.LanesFrom.modLane_pend (hs : s.LanesFrom w) (i : LaneId) {f : Lane → Lane} (hf : ∀ l, ∃ p, f l = { l with pend := p }) :
    (modLane i f s).LanesFrom w := by
  obtain ⟨p, hp⟩ := hf (s.lane i)
  refine hs.setLane_life ?_ ?_
  · rw [hp]
    exact (hs i).1
  · rw [hp]

theorem State.LanesFrom.abortBound (hs : s.LanesFrom w) (pick : Binding → Bool) : (abortBound pick s).LanesFrom w := by
  intro i
  rw [lane_abortBound]
  split
  · exact hs i
  · exact hs i

theorem State.LanesFrom.stopSpindle (hs : s.LanesFrom w) (i : LaneId) : (stopSpindle i s).LanesFrom w :=
  hs.setLane_life ((hs i).1.stopped s.now) (Lane.stopped_life _ s.now)

theorem State.LanesFrom.raiseCause (hs : s.LanesFrom w) (tag : Half) (i : LaneId) (c : Cause) :
    (raiseCause tag i c s).LanesFrom w := by
  unfold Machine.raiseCause
  dsimp only
  split
  next => exact hs
  next hactive =>
    split
    next => exact hs.setLane_life ((hs i).1.sameCause s.now c) (Lane.sameCause_life _ s.now c)
    next =>
      exact (hs.setLane_life ((hs i).1.newCause hactive s.now c) (Lane.newCause_life _ s.now c)).of_touches (touches_post _ _ _) rfl

theorem State.LanesFrom.endCut (hs : s.LanesFrom w) (i : LaneId) (matched : Bool) : (endCut i matched s).LanesFrom w :=
  hs.setLane_life ((hs i).1.endCut s.now matched) (Lane.endCut_life _ s.now matched)

/-- R102 to R105: a life record whose levels stay in order and whose wear does not fall. -/
theorem State.LanesFrom.rewear (hs : s.LanesFrom w) (tag : Half) (cause : LimitCause) (i : LaneId) {f : Life → Life}
    (hwear : (s.lane i).life.wear ≤ (f (s.lane i).life).wear) (hmax : (f (s.lane i).life).wear ≤ 16777215)
    (hwarn : 1 ≤ (f (s.lane i).life).warn) (hle : (f (s.lane i).life).warn ≤ (f (s.lane i).life).limit)
    (hlimit : (f (s.lane i).life).limit ≤ 16777215) : (rewear tag cause i f s).LanesFrom w := by
  obtain ⟨r, h⟩ := rewear_frame s tag cause i f
  rw [h]
  have hset := hs.setLane ((hs i).1.withLife (Life.ok_judged hmax hwarn hle hlimit))
    (by rw [Lane.withLife_life]; exact (hs i).2.trans hwear)
  exact hset.of_touches (F := [.ret, .answers, .path]) (.of_take rfl rfl) rfl

theorem State.LanesFrom.ite {c : Prop} [Decidable c] {t u : State} (ht : t.LanesFrom w) (hu : u.LanesFrom w) :
    (if c then t else u).LanesFrom w := by
  split
  · exact ht
  · exact hu

/-- A governor that stays in agreement. -/
theorem State.LanesFrom.setGov (hs : s.LanesFrom w) (i : LaneId) {g : Governor} (hg : g.Ok) :
    (Machine.setLane i ((s.lane i).withGov g) s).LanesFrom w := hs.setLane_life ((hs i).1.withGov hg) rfl

end Shared

/-! ### Items -/

section Items
variable {w : LaneId → Nat} {s : State}

/-- What R39 and R117 leave when none of their states stands in the way. -/
theorem LaneState.eq_ready {st : LaneState} (hi : st ≠ .inactive) (he : ¬(st = .error ∨ st = .recovering)) (hp : st ≠ .parked)
    (hc : st ≠ .cutting) : st = .ready := by
  cases st with
  | ready => rfl
  | inactive => exact absurd rfl hi
  | cutting => exact absurd rfl hc
  | error => exact absurd (.inl rfl) he
  | recovering => exact absurd (.inr rfl) he
  | parked => exact absurd rfl hp

theorem checkLane_eq_none {l : Lane} (h : checkLane s l = none) : l.state = .ready := by
  unfold checkLane at h
  refine LaneState.eq_ready ?_ ?_ ?_ ?_
  all_goals grind

theorem judgeCut_lanesFrom (hs : s.LanesFrom w) (cycle : Half) (it : Item) (i : LaneId) :
    (judgeCut cycle it i s).state.LanesFrom w := by
  unfold judgeCut
  dsimp only
  split
  next => exact hs
  next t hok =>
    have hready : (s.lane i).state = .ready := by
      unfold checkCut at hok
      split at hok
      next => cases hok
      next hlane => exact checkLane_eq_none hlane
    exact ((hs.modTab _ _ _).modBoard _ _).setLane_life
      ((hs i).1.bound hready _ _) rfl

theorem checkStart_eq_none {l : Lane} (h : checkStart s l = none) : l.state = .ready := by
  unfold checkStart at h
  refine LaneState.eq_ready ?_ ?_ ?_ ?_
  all_goals grind

theorem judgeStart_lanesFrom (hs : s.LanesFrom w) (cycle : Half) (it : Item) (i : LaneId) :
    (judgeStart cycle it i s).state.LanesFrom w := by
  unfold judgeStart
  split
  next => exact hs
  next hok => exact hs.setLane_life ((hs i).1.started (by simp [checkStart_eq_none hok]) _) rfl

theorem haltItem_lanesFrom (hs : s.LanesFrom w) (it : Item) : (haltItem s it).1.LanesFrom w := by
  have hvoid (code : RefusalCode) : (settle it (.void code s [])).1.LanesFrom w :=
    settle_keeps (lanesFrom_dependsOn w) (by simp) it (v := .void code s []) hs
  unfold haltItem
  split
  next => exact hs
  next =>
    split
    next => exact hs
    next => exact hs
    next => exact hs
    next => exact hvoid .badAddress
    next =>
      split
      next => exact hvoid .wrongRole
      next =>
        split
        next i _ _ =>
          split
          next => exact hs.stopSpindle _
          next => exact hvoid .halted
        next => exact hvoid .halted

theorem haltItems_lanesFrom (items : List Item) : ∀ {s : State}, s.LanesFrom w → (haltItems items s).1.LanesFrom w := by
  induction items with
  | nil => exact fun hs => hs
  | cons it rest ih => exact fun hs => ih (haltItem_lanesFrom hs it)

end Items

/-! ### Insertion (R141) and the watchdog (R143) -/

section Insertion
variable {w : LaneId → Nat} {s : State}

theorem creditLane_lanesFrom (hs : s.LanesFrom w) (items : List Item) (i : LaneId) : (creditLane items s i).LanesFrom w := by
  unfold creditLane
  split
  · exact hs
  · exact hs.modLane_pend i fun _ => ⟨_, rfl⟩

variable {r : State × List Item}

theorem insertAbort_lanesFrom (hr : r.1.LanesFrom w) (i : LaneId) : (insertAbort r i).1.LanesFrom w := by
  unfold insertAbort
  split
  next =>
    split
    next => exact hr.modLane_pend i fun _ => ⟨_, rfl⟩
    next => exact hr
  next => exact hr

theorem insertStop_lanesFrom (hr : r.1.LanesFrom w) (i : LaneId) : (insertStop r i).1.LanesFrom w := by
  unfold insertStop
  split
  next =>
    split
    next => exact (hr.modLane_pend i fun _ => ⟨_, rfl⟩).stopSpindle i
    next => exact hr
  next => exact hr

theorem insertFeed_lanesFrom (hr : r.1.LanesFrom w) (i : LaneId) : (insertFeed r i).1.LanesFrom w := by
  unfold insertFeed
  split
  next =>
    split
    next => exact hr.modLane_pend i fun _ => ⟨_, rfl⟩
    next => exact hr
  next => exact hr

theorem foldl_insert_lanesFrom {g : State × List Item → LaneId → State × List Item}
    (h : ∀ r i, r.1.LanesFrom w → (g r i).1.LanesFrom w) (l : List LaneId) (hr : r.1.LanesFrom w) :
    (l.foldl g r).1.LanesFrom w := by
  induction l generalizing r with
  | nil => exact hr
  | cons i l ih => exact ih (h r i hr)

theorem topUp_lanesFrom (hs : s.LanesFrom w) (items : List Item) : (topUp s items).1.LanesFrom w := by
  unfold topUp
  dsimp only
  refine foldl_insert_lanesFrom (fun _ i h => insertFeed_lanesFrom h i) allLanes ?_
  refine foldl_insert_lanesFrom (fun _ i h => insertStop_lanesFrom h i) allLanes ?_
  refine foldl_insert_lanesFrom (fun _ i h => insertAbort_lanesFrom h i) allLanes ?_
  exact foldl_keeps (P := State.LanesFrom w) (fun _ i h => creditLane_lanesFrom h items i) allLanes hs

theorem insertAndSend_lanesFrom (hs : s.LanesFrom w) : (insertAndSend s).LanesFrom w := by
  unfold insertAndSend
  split
  next => exact hs
  next fr rest _ =>
    split
    next =>
      have htop : (topUp { s with down := rest } fr.out).1.LanesFrom w :=
        topUp_lanesFrom (hs.of_touches (F := [.down, .frames]) (.of_take rfl rfl) rfl) fr.out
      dsimp only
      generalize topUp { s with down := rest } fr.out = r at htop ⊢
      have hsent : (sendDown { kind := FrameKind.order, cycle := fr.cycle, items := r.2 }
          { r.1 with lastOrder := fr.cycle }).LanesFrom w :=
        htop.of_touches (F := [.lastOrder, .sentD, .frames]) (.of_take rfl rfl) rfl
      split
      next => exact hsent.of_touches (F := [.ret, .sentU, .answers, .path, .frames]) (.of_take rfl rfl) rfl
      next => exact hsent
    next => exact hs

theorem walkHaltFrame_lanesFrom (hs : s.LanesFrom w) : (walkHaltFrame s).LanesFrom w := by
  unfold walkHaltFrame
  split
  next => exact hs
  next fr rest _ =>
    split
    next =>
      have htop := topUp_lanesFrom (haltItems_lanesFrom fr.todo (hs.of_touches (F := [.down, .frames]) (t := { s with down := rest })
        (.of_take rfl rfl) rfl)) (haltItems fr.todo { s with down := rest }).2
      dsimp only
      generalize topUp (haltItems fr.todo { s with down := rest }).1 (haltItems fr.todo { s with down := rest }).2 = t at htop ⊢
      exact htop.of_touches (F := [.sentD, .frames]) (.of_take rfl rfl) rfl
    next => exact hs

theorem watchdogDeliver_lanesFrom (hs : s.LanesFrom w) (i : LaneId) : (watchdogDeliver s i).LanesFrom w := by
  unfold watchdogDeliver
  have haborted (c : Prop) [Decidable c] : (if c then modLane i (fun l => { l with pend := { l.pend with abort := false } }) s
      else s).LanesFrom w := .ite (hs.modLane_pend i fun _ => ⟨_, rfl⟩) hs
  exact .ite (.ite (((haborted _).modLane_pend i fun _ => ⟨_, rfl⟩).stopSpindle i) (haborted _)) hs

theorem watchdogExpired_lanesFrom (hs : s.LanesFrom w) : (watchdogExpired s).LanesFrom w := by
  have hhold : State.LanesFrom w { s with line := { s.line with watchdogHold := true, watchdog := none } } :=
    hs.of_touches (F := [.line]) (.of_take rfl rfl) rfl
  have hjudged := hhold.of_touches (touches_judgeLine _ s.holdSet) rfl
  unfold watchdogExpired
  dsimp only
  generalize judgeLine _ _ = t at hjudged ⊢
  refine foldl_keeps (P := State.LanesFrom w) (fun _ i h => watchdogDeliver_lanesFrom h i) allLanes ?_
  exact hjudged.of_touches (F := [.sentD, .frames]) (.of_take rfl rfl) rfl

end Insertion

/-! ### Reports -/

section Reports
variable {w : LaneId → Nat} {s : State}

theorem wearStep_lanesFrom (hs : s.LanesFrom w) (tag : Half) (i : LaneId) (p : Payload) : (wearStep tag i p s).LanesFrom w := by
  obtain ⟨-, ⟨hmax, hwarn, hle, hlimit, -⟩, -⟩ := (hs i).1
  refine hs.rewear tag .report i ?_ ?_ hwarn hle hlimit
  · exact Nat.le_min.mpr ⟨hmax, Nat.le_add_right _ _⟩
  · exact Nat.min_le_left _ _

theorem cutComplete_lanesFrom (hs : s.LanesFrom w) (tag cycle : Half) (i : LaneId) (b : Binding) :
    (cutComplete tag cycle i b s).LanesFrom w := by
  unfold cutComplete
  have hmarked := (hs.modTab b.nest b.tab fun t => { t with state := .cut, lane := none, cutAt := some cycle }).of_touches
    (touches_markSuspect _ (s.boardOfTab b.nest b.tab) b.govAbort) rfl
  refine State.LanesFrom.endCut ?_ i true
  split
  next =>
    split
    next => exact hmarked.of_touches (touches_freeBoard _ _ _ _ _ _ _) rfl
    next => exact hmarked
  next => exact hmarked

theorem takeCutDone_lanesFrom (hs : s.LanesFrom w) (wire : Wire) (i : LaneId) (cycle : Half) :
    (takeCutDone wire i cycle s).LanesFrom w := by
  have hworn := wearStep_lanesFrom hs wire.tag i wire.payload
  unfold takeCutDone
  dsimp only
  generalize wearStep wire.tag i wire.payload s = s at hworn ⊢
  split
  next b _ => exact cutComplete_lanesFrom hworn wire.tag cycle i b
  next b _ =>
    exact ((hworn.of_touches (touches_faultTab s b.nest b.tab true) rfl).of_touches (touches_markSuspect _ _ _) rfl).endCut i true
  next b _ =>
    exact (((hworn.of_touches (touches_faultTab s b.nest b.tab false) rfl).of_touches (touches_markSuspect _ _ _) rfl).raiseCause
      _ i .bitBroken).endCut i true
  next => exact hworn.of_touches (touches_post _ _ _) rfl

theorem laneOver_lanesFrom (hs : s.LanesFrom w) {i : LaneId} (hover : (s.lane i).gov.overRun = none) (tag : Half) :
    (laneOver tag i s).LanesFrom w := by
  unfold laneOver
  dsimp only
  split
  next h => exact hs.setGov i ((hs i).1.2.2.stepped h.2 h.1 hover _)
  next => exact hs.raiseCause tag i .overload

theorem govern_lanesFrom (hs : s.LanesFrom w) (tag : Half) (i : LaneId) (load : Nat) : (govern tag i load s).LanesFrom w := by
  unfold govern
  dsimp only
  split
  next => exact hs
  next hstate =>
    have hrun : (modLane i (fun l => { l with gov := { l.gov with
        overRun := ((s.lane i).gov.overRunAfter s.now load).1 } }) s).LanesFrom w :=
      hs.setLane_life ((hs i).1.with_gov ((hs i).1.2.2.with_overRun hstate _)) rfl
    split
    next hover => exact laneOver_lanesFrom hrun (by simpa using Governor.overRunAfter_over s.now load hover) tag
    next => exact hrun

theorem takeLaneState_lanesFrom (hs : s.LanesFrom w) (wire : Wire) (i : LaneId) (cycle : Half) :
    (takeLaneState wire i cycle s).LanesFrom w := by
  unfold takeLaneState
  split
  next => exact hs.of_touches (touches_badReport _ _ _) rfl
  next fault _ =>
    have hread : (modLane i (fun l => { l with
        lastSpeed := some (Operand.reportSpeed wire.payload), lastLoad := some (Operand.reportLoad wire.payload),
        lastFault := some fault }) s).LanesFrom w := hs.setLane_life (hs i).1 rfl
    dsimp only
    generalize modLane i _ s = t at hread ⊢
    split
    next => exact hread
    next =>
      have hspin : (modLane i (fun l => l.spindleReport (Operand.reportSpeed wire.payload)) t).LanesFrom w :=
        hread.setLane_life ((hread i).1.spindleReport _) (Lane.spindleReport_life _ _)
      refine govern_lanesFrom ?_ wire.tag i _
      split
      · exact hspin.raiseCause _ i .driveFault
      · exact hspin

theorem gripLoss_lanesFrom (hs : s.LanesFrom w) (tag : Half) (p : PickerId) (cycle : Half) (r : BoardRef) (b : BoardRec) :
    (gripLoss tag p cycle r b s).LanesFrom w := by
  have hfreed (st : BoardState) :
      (emptyPicker p (unbind p (modBoard r (fun b => { b with state := st }) s))).LanesFrom w :=
    ((hs.modBoard r _).of_touches (touches_unbind _ p) rfl).of_touches (touches_emptyPicker _ p) rfl
  have hlost : (settleNest tag r.nest (post tag (.gripLost p r .lost cycle) (dropReservation r
      (emptyPicker p (unbind p (modBoard r (fun b => { b with state := .lost }) s)))))).LanesFrom w :=
    (((hfreed .lost).of_touches (touches_dropReservation _ r) rfl).of_touches (touches_post _ tag _) rfl).of_touches
      (touches_settleNest _ tag r.nest) rfl
  unfold gripLoss
  split
  next =>
    dsimp only
    refine State.LanesFrom.of_touches ?_ (touches_post _ tag _) rfl
    split
    · exact (hfreed .attached).abortBound _
    · exact hfreed .attached
  next => exact hlost
  next => exact hlost
  next => exact hs

theorem takeGripState_lanesFrom (hs : s.LanesFrom w) (wire : Wire) (p : PickerId) (cycle : Half) :
    (takeGripState wire p cycle s).LanesFrom w := by
  unfold takeGripState
  split
  next jaws sensed _ _ =>
    have hread : (modPicker p (fun k => { k with lastJaws := some jaws, lastSensed := some sensed }) s).LanesFrom w :=
      hs.of_touches (touches_modPicker s p _) rfl
    dsimp only
    generalize modPicker p _ s = t at hread ⊢
    split
    next =>
      split
      · exact hread.of_touches (touches_post _ _ _) rfl
      · exact hread
    next => exact hread.of_touches (touches_closingReport _ _ _ _ _ _) rfl
    next =>
      unfold holdingReport
      split
      next => exact hread
      next =>
        split
        next =>
          split
          next => exact gripLoss_lanesFrom hread _ _ _ _ _
          next => exact hread
        next => exact hread
    next =>
      split
      · exact hread.of_touches (touches_emptyPicker _ p) rfl
      · exact hread
    next => exact hread
  next => exact hs.of_touches (touches_badReport _ _ _) rfl

theorem keepOut_lanesFrom (hs : s.LanesFrom w) (tag : Half) (n : Nest) : (keepOut tag n s).LanesFrom w := by
  have hset (r : NestRec) : (setNest n r s).LanesFrom w := hs
  unfold keepOut
  dsimp only
  split
  next => exact hs
  next v _ =>
    split
    next => exact hset _
    next =>
      split
      next => exact hset _
      next =>
        split
        next =>
          exact ((hs.modNest n _).abortBound _).of_touches (touches_post _ tag _) rfl
        next => exact hs

theorem movePosition_lanesFrom (hs : s.LanesFrom w) (tag cycle : Half) (pos : WorkPos) : (movePosition tag cycle pos s).LanesFrom w := by
  have hmoved : State.LanesFrom w { s with table := pos } := hs.of_touches (F := [.table]) (.of_take rfl rfl) rfl
  unfold movePosition
  dsimp only
  split
  next => exact hmoved
  next =>
    split
    next => exact (hmoved.abortBound _).of_touches (touches_post _ tag _) rfl
    next => exact hmoved

theorem takeTableState_lanesFrom (hs : s.LanesFrom w) (wire : Wire) (x : Unit) (cycle : Half) :
    (takeTableState wire x cycle s).LanesFrom w := by
  unfold takeTableState
  split
  next => exact hs.of_touches (touches_badReport _ _ _) rfl
  next pos _ =>
    exact movePosition_lanesFrom (keepOut_lanesFrom (keepOut_lanesFrom ((hs.modNest .a _).modNest .b _) _ .a) _ .b) _ cycle pos

end Reports

/-! ### Timers -/

section Timers
variable {w : LaneId → Nat} {s : State}

theorem cutTimedOut_lanesFrom (hs : s.LanesFrom w) (i : LaneId) : (cutTimedOut i s).LanesFrom w := by
  unfold cutTimedOut
  split
  next hb =>
    refine hs.setLane_life ?_ rfl
    obtain ⟨hok, hlife, hgov⟩ := (hs i).1
    refine ⟨?_, hlife, hgov⟩
    grind
  next b _ =>
    have hfault := (hs.of_touches (touches_faultTab s b.nest b.tab false) rfl).of_touches
      (touches_markSuspect _ (s.boardOfTab b.nest b.tab) b.govAbort) rfl
    exact ((hfault.raiseCause 0 i .cutTimeout).modLane_pend i fun _ => ⟨_, rfl⟩).endCut i false

theorem spinDownExpired_lanesFrom (hs : s.LanesFrom w) (i : LaneId) : (spinDownExpired i s).LanesFrom w := by
  have hstopped : (modLane i (fun l => { l with spinDownTimer := none }) s).LanesFrom w := by
    refine hs.setLane_life ?_ rfl
    obtain ⟨hok, hlife, hgov⟩ := (hs i).1
    refine ⟨?_, hlife, hgov⟩
    grind
  unfold spinDownExpired
  dsimp only
  split
  · exact hstopped.raiseCause 0 i .spindown
  · exact hstopped

theorem recoveryExpired_lanesFrom (hs : s.LanesFrom w) (i : LaneId) : (recoveryExpired i s).LanesFrom w := by
  unfold recoveryExpired
  dsimp only
  split
  next hstate =>
    split
    next =>
      exact (hs.setLane_life ((hs i).1.restored (by simp [hstate])) (Lane.toReady_life _)).of_touches (touches_post _ _ _) rfl
    next =>
      refine hs.setLane_life ?_ rfl
      obtain ⟨hok, hlife, hgov⟩ := (hs i).1
      refine ⟨?_, hlife, hgov⟩
      grind
  next =>
    refine hs.setLane_life ?_ rfl
    obtain ⟨hok, hlife, hgov⟩ := (hs i).1
    refine ⟨?_, hlife, hgov⟩
    grind

theorem coolDownExpired_lanesFrom (hs : s.LanesFrom w) (i : LaneId) : (coolDownExpired i s).LanesFrom w := by
  have hgov := (hs i).1.2.2
  unfold coolDownExpired
  dsimp only
  split
  next hstate => exact hs.setGov i (hgov.cooled hstate _ _)
  next hstate => exact hs.setLane_life ((hs i).1.with_gov (by grind)) rfl

theorem restoreExpired_lanesFrom (hs : s.LanesFrom w) (i : LaneId) : (restoreExpired i s).LanesFrom w := by
  have hgov := (hs i).1.2.2
  unfold restoreExpired
  dsimp only
  split
  next hstate => exact hs.setLane_life ((hs i).1.with_gov (hgov.restoredBy hstate _ _)) rfl
  next hstate => exact hs.setLane_life ((hs i).1.with_gov (by grind)) rfl

end Timers

/-! ### Requests -/

section Requests
variable {w : LaneId → Nat} {s : State}

theorem clampTo_mem {lo hi : Nat} (h : lo ≤ hi) (n : Nat) : lo ≤ clampTo lo hi n ∧ clampTo lo hi n ≤ hi := by
  unfold clampTo
  omega

theorem requestLaneConfig_lanesFrom (hs : s.LanesFrom w) (p : Payload) : (requestLaneConfig p s).1.LanesFrom w := by
  unfold requestLaneConfig
  split
  next i active mode _ _ _ =>
    dsimp only
    split
    next => exact hs
    next =>
      split
      next => exact hs
      next hkeep =>
        refine hs.setLane_life ((hs i).1.configured s.now _ _ _ mode ?_) (Lane.configured_life _ _ _ _ _ _ _)
        intro hactive
        simpa [hactive] using hkeep
  next => exact hs

theorem requestGovernorSet_lanesFrom (hs : s.LanesFrom w) (p : Payload) : (requestGovernorSet p s).1.LanesFrom w := by
  unfold requestGovernorSet
  split
  next i mode _ _ =>
    dsimp only
    split
    next => exact hs
    next hlevel =>
      split
      next => exact hs
      next =>
        exact hs.setGov i ((hs i).1.2.2.configured mode (by omega) (clampTo_mem (by omega) _) (clampTo_mem (by omega) _)
          (clampTo_mem (by omega) _))
  next => exact hs

theorem requestLifeSet_lanesFrom (hs : s.LanesFrom w) (tag : Half) (p : Payload) : (requestLifeSet tag p s).1.LanesFrom w := by
  unfold requestLifeSet
  split
  next i b _ _ =>
    dsimp only
    split
    next => exact hs
    next =>
      have hmax : (s.lane i).life.wear ≤ 16777215 := (hs i).1.2.1.1
      have hlimit := clampTo_mem (show 1 ≤ Config.wearMax by decide) (Operand.lifeLimit p)
      have hwarn := clampTo_mem (show 1 ≤ Config.wearMax by decide) (Operand.warnLevel p)
      exact hs.rewear tag .limitWrite i le_rfl hmax (Nat.le_min.mpr ⟨hwarn.1, hlimit.1⟩) (Nat.min_le_right _ _) hlimit.2
  next => exact hs

theorem requestWearPreset_lanesFrom (hs : s.LanesFrom w) (tag : Half) (p : Payload) : (requestWearPreset tag p s).1.LanesFrom w := by
  unfold requestWearPreset
  split
  next => exact hs
  next i _ =>
    dsimp only
    split
    next => exact hs
    next hlow =>
      obtain ⟨-, ⟨-, hwarn, hle, hlimit, -⟩, -⟩ := (hs i).1
      exact hs.rewear tag .preset i (Nat.le_of_not_lt hlow) (Nat.min_le_right _ _) hwarn hle hlimit

theorem requestLaneClear_lanesFrom (hs : s.LanesFrom w) (p : Payload) : (requestLaneClear p s).1.LanesFrom w := by
  unfold requestLaneClear
  split
  next => exact hs
  next i _ =>
    have hrestored (hstate : (s.lane i).state ≠ .cutting) : (setLane i (s.lane i).restored s).LanesFrom w :=
      hs.setLane_life ((hs i).1.restored hstate) (Lane.toReady_life _)
    dsimp only
    split
    next hstate =>
      split
      · exact hrestored (by simp [hstate])
      · exact hs
    next hstate =>
      split
      · exact hrestored (by simp [hstate])
      · exact hs
    next => exact hs
    next => exact hs

theorem requestBitChange_laneInv (hs : s.LaneInv) (p : Payload) : (requestBitChange p s).1.LaneInv := by
  rw [← State.lanesFrom_zero] at hs ⊢
  unfold requestBitChange
  split
  next => exact hs
  next i _ =>
    dsimp only
    split
    · exact hs
    · exact hs.setLane ((hs i).1.freshBit _) (Nat.zero_le _)

end Requests

/-! ### Resets -/

section Resets
variable {s : State}

theorem Lane.Good.pinReset {l : Lane} (h : l.Good) : l.pinReset.Good := by
  obtain ⟨hok, -, hgov⟩ := Lane.good_initial
  refine ⟨?_, h.2.1.afterReset false, hgov⟩
  unfold Lane.pinReset
  grind [Lane.initial]

theorem Lane.Good.linkReset {l : Lane} (h : l.Good) (limitLock : Bool) : (l.linkReset limitLock).Good := by
  refine ⟨?_, h.2.1.afterReset limitLock, h.2.2.linkReset limitLock⟩
  unfold Lane.linkReset Lane.initial
  grind [Causes.none, Causes.isEmpty]

end Resets

end Sys2Proof.Machine

/-! The lane invariant over a command and a step (R36, R100 to R105, R115, R118 to R122, R125), and wear that never falls (R100). -/

namespace Sys2Proof.Machine

section Resets
variable {s : State} {w : LaneId → Nat}

/-- A reset that treats each lane alike and keeps its wear. -/
theorem State.LanesFrom.map (hs : s.LanesFrom w) {t : State} {f : Lane → Lane} (ht : t.lanes = s.lanes.map f)
    (hgood : ∀ l : Lane, l.Good → (f l).Good) (hwear : ∀ l : Lane, (f l).life.wear = l.life.wear) : t.LanesFrom w := by
  intro i
  have hlane : t.lane i = f (s.lane i) := by simp only [State.lane, ht, Fin.getElem_fin, Vector.getElem_map]
  rw [hlane, hwear]
  exact ⟨hgood _ (hs i).1, (hs i).2⟩

theorem Life.afterReset_wear (l : Life) (keep : Bool) : (l.afterReset keep).wear = l.wear := by
  cases keep <;> rfl

theorem powerOnValues_laneInv (straps : Station) (pins : Pins) : (powerOnValues straps pins s).LaneInv := by
  intro i
  have hlane : (powerOnValues straps pins s).lane i = Lane.initial := by
    fin_cases i <;> rfl
  rw [hlane]
  exact Lane.good_initial

end Resets

section Exec
variable {s t : State} {w : LaneId → Nat} {c : Instr}

/-- Every command but BIT-CHANGE and the power-on reset keeps the lanes, and their wear. -/
theorem exec_lanesFrom (hs : s.LanesFrom w) (h : exec c s = .next t) (hbit : ∀ x, c ≠ .bitChange x)
    (hpower : ∀ a, c ≠ .powerOnReset a) : t.LanesFrom w := by
  have hP := lanesFrom_dependsOn w
  by_cases hc : .lanes ∈ footprint c
  · cases c with
    | cut x => exact Host.Outcome.next.inj h ▸ walkGated_keeps hP rfl hs fun cycle it i => judgeCut_lanesFrom hs cycle it i
    | spinStart x =>
      obtain rfl := Host.Outcome.next.inj h
      exact .ite hs (walkGated_keeps hP rfl hs fun cycle it i => judgeStart_lanesFrom hs cycle it i)
    | spinStop x =>
      obtain rfl := Host.Outcome.next.inj h
      exact .ite (walkGated_keeps hP rfl hs fun _ _ i => hs.stopSpindle i) hs
    | feed x =>
      exact Host.Outcome.next.inj h ▸ walkGated_keeps hP rfl hs fun _ _ i => hs.modLane_pend i fun _ => ⟨_, rfl⟩
    | haltFrame => exact Host.Outcome.next.inj h ▸ walkHaltFrame_lanesFrom hs
    | insertion => exact Host.Outcome.next.inj h ▸ insertAndSend_lanesFrom hs
    | cutDone x => exact Host.Outcome.next.inj h ▸ walkReport_keeps hP rfl hs (takeCutDone_lanesFrom hs x)
    | laneState x => exact Host.Outcome.next.inj h ▸ walkReport_keeps hP rfl hs (takeLaneState_lanesFrom hs x)
    | gripState x => exact Host.Outcome.next.inj h ▸ walkReport_keeps hP rfl hs (takeGripState_lanesFrom hs x)
    | tableState x => exact Host.Outcome.next.inj h ▸ walkReport_keeps hP rfl hs (takeTableState_lanesFrom hs x)
    | cutTimerExpiry i => exact Host.Outcome.next.inj h ▸ expire_keeps hP rfl hs fun _ ht => cutTimedOut_lanesFrom ht i
    | spinDownTimerExpiry i => exact Host.Outcome.next.inj h ▸ expire_keeps hP rfl hs fun _ ht => spinDownExpired_lanesFrom ht i
    | recoveryTimerExpiry i => exact Host.Outcome.next.inj h ▸ expire_keeps hP rfl hs fun _ ht => recoveryExpired_lanesFrom ht i
    | coolDownTimerExpiry i => exact Host.Outcome.next.inj h ▸ expire_keeps hP rfl hs fun _ ht => coolDownExpired_lanesFrom ht i
    | restoreTimerExpiry i => exact Host.Outcome.next.inj h ▸ expire_keeps hP rfl hs fun _ ht => restoreExpired_lanesFrom ht i
    | cycleWatchdogExpiry => exact Host.Outcome.next.inj h ▸ expire_keeps hP rfl hs fun _ ht => watchdogExpired_lanesFrom ht
    | pinReset a =>
      obtain rfl := Host.Outcome.next.inj h
      exact hs.map rfl (fun _ hl => hl.pinReset) fun l => Life.afterReset_wear l.life false
    | reset x =>
      obtain rfl := Host.Outcome.next.inj h
      exact walkRequest_keeps hP rfl hs (hs.map rfl (fun _ hl => hl.linkReset _) fun l => Life.afterReset_wear l.life _)
    | laneConfig x => exact Host.Outcome.next.inj h ▸ walkRequest_keeps hP rfl hs (requestLaneConfig_lanesFrom hs x.payload)
    | governorSet x => exact Host.Outcome.next.inj h ▸ walkRequest_keeps hP rfl hs (requestGovernorSet_lanesFrom hs x.payload)
    | lifeSet x => exact Host.Outcome.next.inj h ▸ walkRequest_keeps hP rfl hs (requestLifeSet_lanesFrom hs x.tag x.payload)
    | wearPreset x => exact Host.Outcome.next.inj h ▸ walkRequest_keeps hP rfl hs (requestWearPreset_lanesFrom hs x.tag x.payload)
    | laneClear x => exact Host.Outcome.next.inj h ▸ walkRequest_keeps hP rfl hs (requestLaneClear_lanesFrom hs x.payload)
    | bitChange x => exact absurd rfl (hbit x)
    | powerOnReset a => exact absurd rfl (hpower a)
    | _ => exact absurd hc (by simp [footprint])
  · exact hP s t (fun p hp => List.mem_singleton.mp hp ▸ (touches_of_exec h).same .lanes hc) hs

theorem laneInv_dependsOn : DependsOn [.lanes] State.LaneInv := by
  intro s t h hs
  exact State.lanesFrom_zero.mp (lanesFrom_dependsOn _ s t h (State.lanesFrom_zero.mpr hs))

theorem exec_laneInv (hs : s.LaneInv) (h : exec c s = .next t) : t.LaneInv := by
  by_cases hbit : ∃ x, c = .bitChange x
  · obtain ⟨x, rfl⟩ := hbit
    exact Host.Outcome.next.inj h ▸ walkRequest_keeps laneInv_dependsOn rfl hs (requestBitChange_laneInv hs x.payload)
  · by_cases hpower : ∃ a, c = .powerOnReset a
    · obtain ⟨a, rfl⟩ := hpower
      exact Host.Outcome.next.inj h ▸ powerOnValues_laneInv a _
    · exact State.lanesFrom_zero.mp
        (exec_lanesFrom (State.lanesFrom_zero.mpr hs) h (not_exists.mp hbit) (not_exists.mp hpower))

/-- What every command, and an idle tick, gives of a state with a property that the queue and the clock are no part of. -/
theorem step_gives {D : List Part} {P Q : State → Prop} (hP : DependsOn D P) (hD : Part.apart [.pending, .now] D = true)
    (hidle : ∀ {s : State}, P s → Q s) (hexec : ∀ {c : Instr} {s t : State}, P s → exec c s = .next t → Q t) (hs : P s)
    (h : step s = .next t) : Q t := by
  have hpending : .pending ∉ D := Part.notMem_of_apart hD (by simp)
  have hnow : .now ∉ D := Part.notMem_of_apart hD (by simp)
  cases hq : s.pending with
  | nil =>
    rw [step_of_pending_nil hq] at h
    exact hidle (Host.Outcome.next.inj h ▸ Touches.keeps (F := [.now]) (.of_take rfl rfl) hP hs (Part.apart_singleton hnow))
  | cons c rest =>
    rw [step_of_pending_cons hq] at h
    exact hexec (Touches.keeps (F := [.pending]) (.of_take rfl rfl) hP hs (Part.apart_singleton hpending)) h

/-- Any property of the records that the queue and the clock are no part of is kept by a step when every command keeps it. -/
theorem step_keeps {D : List Part} {P : State → Prop} (hP : DependsOn D P) (hD : Part.apart [.pending, .now] D = true)
    (hexec : ∀ {c : Instr} {s t : State}, P s → exec c s = .next t → P t) (hs : P s) (h : step s = .next t) : P t :=
  step_gives hP hD id hexec hs h

end Exec

/-- Settles O58: each command keeps every lane's records in agreement (`exec_laneInv`). -/
theorem stepsKeepTheLanes : Obligations.StepsKeepTheLanes := fun _ _ hs h => step_keeps laneInv_dependsOn rfl exec_laneInv hs h

/-- BIT-CHANGE alters the wear of the lane it names, to 0. -/
theorem requestBitChange_wear (p : Payload) (s : State) (i : LaneId) :
    ((requestBitChange p s).1.lane i).life.wear = 0 ∨ ((requestBitChange p s).1.lane i).life = (s.lane i).life := by
  unfold requestBitChange
  split
  next => exact .inr rfl
  next j _ =>
    dsimp only
    split
    next => exact .inr rfl
    next =>
      rw [lane_setLane]
      split
      next => exact .inl (by simp [Lane.freshBit, Lane.withLife_life])
      next => exact .inr rfl

/-- Settles O33: every other command keeps each lane's wear at or above what it was (`exec_lanesFrom`). -/
theorem wearNeverFalls : Obligations.WearNeverFalls := by
  intro c s t i hs h hfall
  have hP : DependsOn [.lanes] fun t : State => (t.lane i).life.wear = 0 ∨ (t.lane i).life = (s.lane i).life := by
    intro u v huv hu
    have hlanes : v.lanes = u.lanes := huv .lanes (List.mem_singleton.mpr rfl)
    simpa only [State.lane, hlanes] using hu
  by_cases hbit : ∃ x, c = .bitChange x
  · obtain ⟨x, rfl⟩ := hbit
    have hwear : (t.lane i).life.wear = 0 ∨ (t.lane i).life = (s.lane i).life :=
      Host.Outcome.next.inj h ▸ walkRequest_keeps hP rfl (.inr rfl) (requestBitChange_wear x.payload s i)
    exact ⟨hwear.resolve_right fun heq => absurd hfall (by simp [heq]), .inl ⟨x, rfl⟩⟩
  · by_cases hpower : ∃ a, c = .powerOnReset a
    · obtain ⟨a, rfl⟩ := hpower
      obtain rfl := Host.Outcome.next.inj h
      exact ⟨by fin_cases i <;> rfl, .inr ⟨a, rfl⟩⟩
    · have hkept := exec_lanesFrom (w := fun i => (s.lane i).life.wear) (fun i => ⟨hs i, le_rfl⟩) h (not_exists.mp hbit)
        (not_exists.mp hpower)
      exact absurd hfall (Nat.not_lt.mpr (hkept i).2)

end Sys2Proof.Machine

/-! A frame that arrives at a port (R133 to R135, R142), and the line judged on its hold causes (R150), in closed form. -/

namespace Sys2Proof.Machine

section Ports
variable {s : State}

/-- R150: the line judged afresh. -/
theorem judgeLine_eq (before : HoldSet) : judgeLine before s = s.lineJudged before := by
  unfold judgeLine State.lineJudged lineLaw lineUnder
  by_cases hsame : s.holdSet = before
  · rw [if_pos hsame, if_pos hsame.symm]
    rfl
  · rw [if_neg hsame, if_neg (Ne.symm hsame)]
    cases hempty : s.holdSet.isEmpty with
    | false => simp [post, ReturnPath.postAll]
    | true =>
      cases hl : s.line.state with
      | held => simp [post, ReturnPath.postAll]
      | idle => simp [ReturnPath.postAll]
      | running => simp [ReturnPath.postAll]

@[simp] theorem State.port_setPort (p : Port) (r : PortRec) : (setPort p r s).port p = r := by cases p <;> rfl

/-- A port's record with the notices its change queues. -/
def State.withPort (s : State) (p : Port) (r : PortRec) (notes : List Posted) : State :=
  { setPort p r s with ret := s.ret.postAll notes }

theorem setPort_eq (p : Port) (r : PortRec) : setPort p r s = s.withPort p r [] := by cases p <;> rfl

theorem post_withPort (p : Port) (r : PortRec) (notes : List Posted) (tag : Half) (n : Notice) :
    post tag n (s.withPort p r notes) = s.withPort p r (notes ++ [⟨tag, n⟩]) := by
  simp [State.withPort, post, ReturnPath.postAll]

theorem setPort_withPort (p : Port) (r r' : PortRec) (notes : List Posted) :
    setPort p r (s.withPort p r' notes) = s.withPort p r notes := by cases p <;> rfl

theorem State.port_withPort (p : Port) (r : PortRec) (notes : List Posted) : (s.withPort p r notes).port p = r := by
  cases p <;> rfl

/-- R150: the hold causes read a port's state alone. -/
theorem State.holdSet_withPort {p : Port} {r : PortRec} (h : r.state = (s.port p).state) (notes : List Posted) :
    (s.withPort p r notes).holdSet = s.holdSet := by
  cases p with
  | u => exact congrArg (fun st : PortState => { s.holdSet with uplinkPort := decide (st = PortState.down) }) h
  | d => exact congrArg (fun st : PortState => { s.holdSet with downlink := decide (st = PortState.down) }) h

/-- R150: where no source has changed, the line stands. -/
theorem State.lineJudged_same {before : HoldSet} (h : s.holdSet = before) : s.lineJudged before = s := by
  rw [State.lineJudged, lineLaw, if_pos h.symm]
  rfl

/-- R134: a failed frame at a port that is UP. -/
theorem countFailed_up {p : Port} (hup : (s.port p).state = .up) :
    let r := s.port p
    let e := min 255 (r.errors + 8)
    let r' : PortRec :=
      if e = 255 then { state := .down, errors := 255, degraded := true, run := 0 }
      else { state := .up, errors := e, degraded := r.degraded || decide (96 ≤ e), run := r.run }
    let notes : List Posted :=
      (if 96 ≤ e ∧ r.degraded = false then [⟨0, .degraded p e⟩] else []) ++ (if e = 255 then [⟨0, .portDown p⟩] else [])
    countFailed p s = (s.withPort p r' notes).lineJudged s.holdSet := by
  intro r e r' notes
  have hcounted : (if 96 ≤ e ∧ r.degraded = false then
        post 0 (.degraded p e) (setPort p { r with errors := e, degraded := r.degraded || decide (96 ≤ e) } s)
      else setPort p { r with errors := e, degraded := r.degraded || decide (96 ≤ e) } s) =
      s.withPort p ⟨.up, e, r.degraded || decide (96 ≤ e), r.run⟩
        (if 96 ≤ e ∧ r.degraded = false then [⟨0, .degraded p e⟩] else []) := by
    rw [setPort_eq, post_withPort, ← hup]
    split <;> rfl
  unfold countFailed
  dsimp only
  split
  next hdown => rw [hup] at hdown; cases hdown
  next =>
    rw [hcounted]
    split
    next he =>
      rw [State.port_withPort, setPort_withPort, post_withPort, judgeLine_eq]
      replace he : e = 255 := he
      have hr' : r' = ⟨.down, e, r.degraded || decide (96 ≤ e), 0⟩ := by simp [r', he]
      have hnotes : notes = (if 96 ≤ e ∧ r.degraded = false then [⟨0, .degraded p e⟩] else []) ++ [⟨0, .portDown p⟩] := by
        simp only [notes, if_pos he]
      rw [hr', hnotes]
    next he =>
      have hr' : r' = ⟨.up, e, r.degraded || decide (96 ≤ e), r.run⟩ := if_neg he
      have hnotes : notes = if 96 ≤ e ∧ r.degraded = false then [⟨0, .degraded p e⟩] else [] := by
        simp only [notes, if_neg (show ¬e = 255 from he), List.append_nil]
      rw [hr', hnotes, State.lineJudged_same (State.holdSet_withPort hup.symm _)]

theorem countFailed_down {p : Port} (hdown : (s.port p).state = .down) :
    countFailed p s = setPort p { s.port p with run := 0 } s := by
  unfold countFailed
  dsimp only
  split
  next => rfl
  next hup => rw [hdown] at hup; cases hup

/-- R135: a good frame at a port that is DOWN. -/
theorem countGood_down {p : Port} (hdown : (s.port p).state = .down) :
    countGood p s =
      if (s.port p).run + 1 < 64 then setPort p { s.port p with run := (s.port p).run + 1 } s
      else (s.withPort p ⟨.up, 0, false, 64⟩ [⟨0, .portRecovered p 0⟩]).lineJudged s.holdSet := by
  unfold countGood
  dsimp only
  split
  next =>
    split
    next => rfl
    next => rw [setPort_eq, post_withPort, judgeLine_eq]; rfl
  next hup => rw [hdown] at hup; cases hup

/-- R134: a good frame at a port that is UP. -/
theorem countGood_up {p : Port} (hup : (s.port p).state = .up) :
    let r := s.port p
    let e := r.errors - 1
    countGood p s = s.withPort p { r with errors := e, degraded := r.degraded && decide (64 ≤ e) }
      (if e < 64 ∧ r.degraded = true then [⟨0, .portRecovered p e⟩] else []) := by
  intro r e
  unfold countGood
  dsimp only
  split
  next hdown => rw [hup] at hdown; cases hdown
  next =>
    rw [setPort_eq, setPort_eq, post_withPort]
    split
    next h => simp [r, e, Nat.not_le.mpr h.1]
    next h =>
      have hdeg : (r.degraded && decide (64 ≤ e)) = r.degraded := by
        cases hd : r.degraded with
        | false => rfl
        | true => simpa using (fun he => h ⟨he, hd⟩)
      rw [hdeg]

theorem arrive_failed {p : Port} {bytes : List Byte} (hr : s.inReset = false) (h : parseFrame bytes = none) :
    arrive p bytes s = countFailed p s := by
  unfold arrive
  rw [hr, h]
  rfl

theorem arrive_good_down {p : Port} {bytes : List Byte} (hr : s.inReset = false) (h : (parseFrame bytes).isSome = true)
    (hdown : (s.port p).state = .down) : arrive p bytes s = countGood p s := by
  obtain ⟨f, hf⟩ := Option.isSome_iff_exists.mp h
  unfold arrive
  rw [hr, hf]
  simp [hdown]

theorem arrive_good_up {p : Port} {bytes : List Byte} {f : LinkFrame} (hr : s.inReset = false) (h : parseFrame bytes = some f)
    (hup : (s.port p).state = .up) : arrive p bytes s = handOn p f (countGood p s) := by
  unfold arrive
  rw [hr, h]
  simp [hup]

/-- R142: a good ORDER frame clears the watchdog's part and starts the watchdog. -/
theorem restartWatchdog_eq : restartWatchdog s =
    State.lineJudged { s with line := { s.line with watchdogHold := false, watchdog := some (s.now + s.timing.watchdog) } }
      s.holdSet := judgeLine_eq _

theorem handOn_order {f : LinkFrame} (h : f.kind = 0x01) : handOn .u f s =
    { restartWatchdog s with
      down := (restartWatchdog s).down ++ [{ isHalt := false, cycle := f.cycle, todo := f.items, out := [] }] } := if_pos h

theorem handOn_halt {f : LinkFrame} (h : f.kind = 0x03) : handOn .u f s =
    { s with down := s.down ++ [{ isHalt := true, cycle := f.cycle, todo := f.items, out := [] }] } := by
  have ho : f.kind ≠ 0x01 := by
    rw [h]
    decide
  exact (if_neg ho).trans (if_pos h)

theorem handOn_other_up {f : LinkFrame} (ho : f.kind ≠ 0x01) (hh : f.kind ≠ 0x03) : handOn .u f s = s :=
  (if_neg ho).trans (if_neg hh)

theorem handOn_ret {f : LinkFrame} (h : f.kind = 0x02) : handOn .d f s =
    { s with up := s.up ++ [{ cycle := f.cycle, items := f.items, todo := f.items.filter fun it => Kind.isReport it.kind }] } :=
  if_pos h

theorem handOn_other_down {f : LinkFrame} (h : f.kind ≠ 0x02) : handOn .d f s = s := if_neg h

end Ports

/-- Settles O5: the closed forms of a failed frame and of a good one at a port that is UP and at one that is DOWN. -/
theorem portsJudgeTheirFrames : Obligations.PortsJudgeTheirFrames := by
  refine ⟨fun p bytes s hr hf hup => ?failed, fun p bytes s hr hdown => ⟨fun hf => ?down, fun hf hrun => ?counts, fun hf hrun => ?recovers⟩,
    fun p bytes f s hr hf hup => ?good⟩
  case failed => exact congrArg Host.Outcome.next ((arrive_failed hr hf).trans (countFailed_up hup))
  case down => exact congrArg Host.Outcome.next ((arrive_failed hr hf).trans (countFailed_down hdown))
  case counts =>
    exact congrArg Host.Outcome.next (((arrive_good_down hr hf hdown).trans (countGood_down hdown)).trans (if_pos hrun))
  case recovers =>
    exact congrArg Host.Outcome.next
      (((arrive_good_down hr hf hdown).trans (countGood_down hdown)).trans (if_neg (Nat.not_lt.mpr hrun)))
  case good =>
    intro r e s1
    have hcount : countGood p s = s1 := countGood_up hup
    have hholds : s1.holdSet = s.holdSet := State.holdSet_withPort (r := { r with errors := e, degraded := _ }) rfl _
    have hdown : s1.down = s.down := by cases p <;> rfl
    have hup' : s1.up = s.up := by cases p <;> rfl
    have hnow : s1.now = s.now ∧ s1.timing = s.timing := by cases p <;> exact ⟨rfl, rfl⟩
    refine congrArg Host.Outcome.next ((arrive_good_up hr hf hup).trans ?_)
    rw [hcount]
    clear_value s1
    cases p with
    | u =>
      by_cases ho : f.kind = 0x01
      · rw [if_pos ⟨rfl, ho⟩, handOn_order ho, restartWatchdog_eq, hholds, hnow.1, hnow.2, ← hdown]
        rfl
      · rw [if_neg (fun h => ho h.2)]
        by_cases hh : f.kind = 0x03
        · rw [if_pos ⟨rfl, hh⟩, handOn_halt hh, hdown]
        · rw [if_neg (fun h => hh h.2), if_neg (fun h => nomatch h.1), handOn_other_up ho hh]
    | d =>
      rw [if_neg (fun h => nomatch h.1), if_neg (fun h => nomatch h.1)]
      by_cases hret : f.kind = 0x02
      · rw [if_pos ⟨rfl, hret⟩, handOn_ret hret, hup']
        simp only [Kind.isReport, Bool.decide_and]
      · rw [if_neg (fun h => hret h.2), handOn_other_down hret]

end Sys2Proof.Machine

/-! Every command keeps the ports (R134, R135), the role table (R138), the line (R150), the return path (R145, R147) and the frames
(R133). -/

namespace Sys2Proof.Machine

/-! ### The ports -/

section Ports
variable {s t : State} {r : PortRec}

/-- R134: a failed frame at a port that is UP. -/
theorem PortRec.Ok.failed (h : r.Ok) {e : Nat} (he : e = min 255 (r.errors + 8)) :
    PortRec.Ok (if e = 255 then { state := .down, errors := 255, degraded := true, run := 0 }
      else { state := .up, errors := e, degraded := r.degraded || decide (96 ≤ e), run := r.run }) := by
  split
  · decide
  · grind

theorem PortRec.Ok.good (h : r.Ok) (hup : r.state = .up) :
    PortRec.Ok { r with errors := r.errors - 1, degraded := r.degraded && decide (64 ≤ r.errors - 1) } := by
  grind

/-- R134, R135: both ports. -/
def State.PortsOk (s : State) : Prop := s.portU.Ok ∧ s.portD.Ok

theorem State.PortsOk.port (h : s.PortsOk) (p : Port) : (s.port p).Ok := by
  cases p with
  | u => exact h.1
  | d => exact h.2

theorem State.PortsOk.withPort (h : s.PortsOk) (p : Port) (hr : r.Ok) (notes : List Posted) : (s.withPort p r notes).PortsOk := by
  cases p with
  | u => exact ⟨hr, h.2⟩
  | d => exact ⟨h.1, hr⟩

theorem State.PortsOk.withPort_judged (h : s.PortsOk) (p : Port) (hr : r.Ok) (notes : List Posted) (before : HoldSet) :
    ((s.withPort p r notes).lineJudged before).PortsOk := h.withPort p hr notes

theorem portsOk_dependsOn : DependsOn [.portU, .portD] State.PortsOk := by
  intro s t h hs
  have hu : t.portU = s.portU := h .portU (by simp)
  have hd : t.portD = s.portD := h .portD (by simp)
  exact ⟨hu ▸ hs.1, hd ▸ hs.2⟩

theorem PortRec.ok_initial : PortRec.initial.Ok := by decide

theorem countFailed_portsOk (h : s.PortsOk) (p : Port) : (countFailed p s).PortsOk := by
  cases hp : (s.port p).state with
  | up => rw [countFailed_up hp]; exact h.withPort_judged p ((h.port p).failed rfl) _ _
  | down =>
    have hr := h.port p
    rw [countFailed_down hp, setPort_eq]
    exact h.withPort p (by grind) _

theorem countGood_portsOk (h : s.PortsOk) (p : Port) : (countGood p s).PortsOk := by
  have hr := h.port p
  cases hp : (s.port p).state with
  | up => rw [countGood_up hp]; exact h.withPort p (hr.good hp) _
  | down =>
    rw [countGood_down hp]
    split
    · rw [setPort_eq]
      exact h.withPort p (by grind) _
    · exact h.withPort_judged p (by decide) _ _

theorem arrive_portsOk (h : s.PortsOk) (p : Port) (bytes : List Byte) : (arrive p bytes s).PortsOk := by
  unfold arrive
  split
  next => exact h
  next =>
    split
    next => exact countFailed_portsOk h p
    next f hf =>
      have hgood := countGood_portsOk h p
      split
      next => exact (touches_handOn _ p (frameBytes_of_parseFrame hf).2).keeps portsOk_dependsOn hgood rfl
      next => exact hgood

theorem exec_portsOk {c : Instr} (h : s.PortsOk) (hx : exec c s = .next t) : t.PortsOk := by
  by_cases hc : .portU ∈ footprint c ∨ .portD ∈ footprint c
  · cases c with
    | frameArrival p bytes => exact Host.Outcome.next.inj hx ▸ arrive_portsOk h p bytes
    | powerOnReset a => exact Host.Outcome.next.inj hx ▸ ⟨PortRec.ok_initial, PortRec.ok_initial⟩
    | pinReset a => exact Host.Outcome.next.inj hx ▸ ⟨PortRec.ok_initial, PortRec.ok_initial⟩
    | reset w =>
      exact Host.Outcome.next.inj hx ▸ walkRequest_keeps portsOk_dependsOn rfl h ⟨PortRec.ok_initial, PortRec.ok_initial⟩
    | _ => exact absurd hc (by simp [footprint])
  · rw [not_or] at hc
    refine portsOk_dependsOn s t (fun p hp => ?_) h
    simp only [List.mem_cons, List.not_mem_nil, or_false] at hp
    rcases hp with rfl | rfl
    · exact (touches_of_exec hx).same _ hc.1
    · exact (touches_of_exec hx).same _ hc.2

end Ports

/-! ### The line and the role table -/

section Line
variable {s t : State}

/-- R138 and R150 together: what a change of the line keeps. -/
def State.LineRolesOk (s : State) : Prop := s.LineOk ∧ s.RolesOk

theorem lineRolesOk_dependsOn : DependsOn [.line, .roles, .portU, .portD] State.LineRolesOk := by
  intro s t h hs
  have hline : t.line = s.line := h .line (by simp)
  have hroles : t.roles = s.roles := h .roles (by simp)
  have hu : t.portU = s.portU := h .portU (by simp)
  have hd : t.portD = s.portD := h .portD (by simp)
  simpa only [State.LineRolesOk, State.LineOk, State.RolesOk, State.holdSet, hline, hroles, hu, hd] using hs

theorem State.RolesOk.of_same (h : s.RolesOk) (hown : t.line.ownAddr = s.line.ownAddr) (hroles : t.roles = s.roles) :
    t.RolesOk := by
  simpa only [State.RolesOk, hown, hroles] using h

/-- A change of the line that moves neither its state nor a hold cause. -/
theorem State.LineRolesOk.of_same (h : s.LineRolesOk) (hstate : t.line.state = s.line.state) (hholds : t.holdSet = s.holdSet)
    (hwatch : t.line.watchdogHold = true → t.line.watchdog = none) (hown : t.line.ownAddr = s.line.ownAddr)
    (hroles : t.roles = s.roles) : t.LineRolesOk :=
  ⟨⟨by rw [hstate, hholds]; exact h.1.1, hwatch⟩, h.2.of_same hown hroles⟩

/-- R150: the line judged after a source has changed. -/
theorem State.LineRolesOk.judged (h : s.LineRolesOk) (hstate : t.line.state = s.line.state)
    (hwatch : t.line.watchdogHold = true → t.line.watchdog = none) (hown : t.line.ownAddr = s.line.ownAddr)
    (hroles : t.roles = s.roles) : (t.lineJudged s.holdSet).LineRolesOk := by
  refine ⟨⟨?_, hwatch⟩, h.2.of_same hown hroles⟩
  have hbefore := h.1.1
  have hholds : (t.lineJudged s.holdSet).holdSet = t.holdSet := rfl
  have hlaw : (t.lineJudged s.holdSet).line.state = (lineLaw s.holdSet t.holdSet t.line.state).1 := rfl
  rw [hholds, hlaw, hstate]
  unfold lineLaw
  split
  next hsame => exact hsame ▸ hbefore
  next =>
    split
    next hheld => simp [hheld]
    next hfree =>
      split
      next => simpa using hfree
      next hl => simpa [hl] using hfree

theorem State.LineRolesOk.withPort (h : s.LineRolesOk) {p : Port} {r : PortRec} (hr : r.state = (s.port p).state)
    (notes : List Posted) : (s.withPort p r notes).LineRolesOk :=
  h.of_same (by cases p <;> rfl) (State.holdSet_withPort hr notes) (by cases p <;> exact h.1.2) (by cases p <;> rfl)
    (by cases p <;> rfl)

theorem State.LineRolesOk.withPort_judged (h : s.LineRolesOk) (p : Port) (r : PortRec) (notes : List Posted) :
    ((s.withPort p r notes).lineJudged s.holdSet).LineRolesOk :=
  h.judged (by cases p <;> rfl) (by cases p <;> exact h.1.2) (by cases p <;> rfl) (by cases p <;> rfl)

theorem countFailed_lineRolesOk (h : s.LineRolesOk) (p : Port) : (countFailed p s).LineRolesOk := by
  cases hp : (s.port p).state with
  | up => rw [countFailed_up hp]; exact h.withPort_judged p _ _
  | down =>
    rw [countFailed_down hp, setPort_eq]
    refine h.withPort ?_ _
    rfl

theorem countGood_lineRolesOk (h : s.LineRolesOk) (p : Port) : (countGood p s).LineRolesOk := by
  cases hp : (s.port p).state with
  | up =>
    rw [countGood_up hp]
    refine h.withPort ?_ _
    rfl
  | down =>
    rw [countGood_down hp]
    split
    · rw [setPort_eq]
      refine h.withPort ?_ _
      rfl
    · exact h.withPort_judged p _ _

theorem restartWatchdog_lineRolesOk (h : s.LineRolesOk) : (restartWatchdog s).LineRolesOk := by
  rw [restartWatchdog_eq]
  exact h.judged rfl (by simp) rfl rfl

theorem handOn_lineRolesOk (h : s.LineRolesOk) (p : Port) (f : LinkFrame) : (handOn p f s).LineRolesOk := by
  have hwalk {t u : State} (ht : t.LineRolesOk) (htu : Touches [.down, .up, .frames] t u) : u.LineRolesOk :=
    htu.keeps lineRolesOk_dependsOn ht rfl
  unfold handOn
  split
  next =>
    split
    next => exact hwalk (restartWatchdog_lineRolesOk h) (Touches.mono (G := [.down, .frames]) (.of_take rfl rfl) rfl)
    next =>
      split
      next => exact hwalk h (Touches.mono (G := [.down, .frames]) (.of_take rfl rfl) rfl)
      next => exact h
  next =>
    split
    next => exact hwalk h (Touches.mono (G := [.up, .frames]) (.of_take rfl rfl) rfl)
    next => exact h

theorem arrive_lineRolesOk (h : s.LineRolesOk) (p : Port) (bytes : List Byte) : (arrive p bytes s).LineRolesOk := by
  unfold arrive
  split
  next => exact h
  next =>
    split
    next => exact countFailed_lineRolesOk h p
    next f _ =>
      split
      next => exact handOn_lineRolesOk (countGood_lineRolesOk h p) p f
      next => exact countGood_lineRolesOk h p

theorem watchdogExpired_lineRolesOk (h : s.LineRolesOk) : (watchdogExpired s).LineRolesOk := by
  have hjudged : (State.lineJudged { s with line := { s.line with watchdogHold := true, watchdog := none } } s.holdSet).LineRolesOk :=
    h.judged rfl (fun _ => rfl) rfl rfl
  unfold watchdogExpired
  rw [judgeLine_eq]
  dsimp only
  generalize State.lineJudged _ _ = t at hjudged ⊢
  refine (touches_foldl touches_watchdogDeliver allLanes _).keeps lineRolesOk_dependsOn ?_ rfl
  exact Touches.keeps (F := [.sentD, .frames]) (.of_take rfl rfl) lineRolesOk_dependsOn hjudged rfl

theorem filterExpired_lineRolesOk (h : s.LineRolesOk) (high : Bool) : (filterExpired high s).LineRolesOk := by
  rw [filterExpired, judgeLine_eq]
  exact h.judged rfl h.1.2 rfl rfl

theorem senseChange_lineRolesOk (h : s.LineRolesOk) (high : Bool) : (senseChange high s).LineRolesOk := by
  unfold senseChange
  split
  next => exact h
  next =>
    dsimp only
    split
    next => exact h
    next =>
      split
      next => exact h.of_same rfl rfl h.1.2 rfl rfl
      next => exact h.of_same rfl rfl h.1.2 rfl rfl

theorem requestRun_lineRolesOk (h : s.LineRolesOk) : (requestRun s).1.LineRolesOk := by
  unfold requestRun
  split
  next hidle =>
    have hfree : ¬s.holdSet.isEmpty = false := fun hheld => by
      have := h.1.1.mpr hheld
      simp [hidle.1] at this
    exact ⟨⟨by simpa [State.holdSet] using hfree, h.1.2⟩, h.2⟩
  next => exact h

theorem requestHalt_lineRolesOk (h : s.LineRolesOk) : (requestHalt s).1.LineRolesOk := by
  unfold requestHalt
  dsimp only
  split
  next hrun =>
    have hfree : ¬s.holdSet.isEmpty = false := fun hheld => by
      have := h.1.1.mpr hheld
      simp [hrun] at this
    exact ⟨⟨by simpa [State.holdSet] using hfree, h.1.2⟩, h.2⟩
  next => exact h

theorem requestLock_lineRolesOk (h : s.LineRolesOk) (p : Payload) : (requestLock p s).1.LineRolesOk := by
  unfold requestLock
  split
  · exact h.of_same rfl rfl h.1.2 rfl rfl
  · exact h

/-- R161: an address a ROLE-SET may write. -/
theorem roleSetAddress_some {b : Byte} {a : Station} (h : roleSetAddress s b = some (some a)) :
    a ≠ 0 ∧ a ≠ 63 ∧ a ≠ s.line.ownAddr := by
  unfold roleSetAddress at h
  split at h
  next => cases h
  next =>
    split at h
    next => cases h
    next hb =>
      obtain rfl := Option.some.inj (Option.some.inj h)
      simp only [not_or, Nat.not_le] at hb
      obtain ⟨hzero, hbig, hown⟩ := hb
      have hback : addrByte (stationOf b) = b := by
        unfold addrByte stationOf
        bv_omega
      refine ⟨fun h0 => hzero ?_, fun h63 => ?_, fun ho => hown (ho ▸ hback.symm)⟩
      · rw [← hback, h0]
        rfl
      · rw [← hback, h63] at hbig
        exact absurd hbig (by decide)

theorem allRoles_index (i : Fin 8) : ∃ r ∈ allRoles, r.index = i := by
  fin_cases i
  · exact ⟨.lane 0, by simp [allRoles], rfl⟩
  · exact ⟨.lane 1, by simp [allRoles], rfl⟩
  · exact ⟨.lane 2, by simp [allRoles], rfl⟩
  · exact ⟨.lane 3, by simp [allRoles], rfl⟩
  · exact ⟨.picker 0, by simp [allRoles], rfl⟩
  · exact ⟨.picker 1, by simp [allRoles], rfl⟩
  · exact ⟨.elevator, by simp [allRoles], rfl⟩
  · exact ⟨.table, by simp [allRoles], rfl⟩

/-- R161: an address no other role holds is in no other entry. -/
theorem State.roles_ne_of_heldByOther {r : Role} {a : Station} (h : s.heldByOther r (some a) = false) {i : Fin 8}
    (hi : i ≠ r.index) : s.roles[i] ≠ some a := by
  obtain ⟨q, hq, rfl⟩ := allRoles_index i
  intro ha
  have hqr : q ≠ r := fun e => hi (e ▸ rfl)
  simp only [State.heldByOther, Option.isSome_some, Bool.true_and, List.any_eq_false] at h
  exact h q hq (by simp only [Bool.and_eq_true, decide_eq_true_eq]; exact ⟨hqr, ha⟩)

theorem State.RolesOk.set (h : s.RolesOk) {r : Role} {a : Option Station}
    (ha : ∀ x, a = some x → (x ≠ 0 ∧ x ≠ 63 ∧ x ≠ s.line.ownAddr) ∧ s.heldByOther r (some x) = false) :
    State.RolesOk { s with roles := s.roles.set r.index.val a r.index.isLt } := by
  obtain ⟨hown, hrange, hinj⟩ := h
  have hentry (i : Fin 8) : (s.roles.set r.index.val a r.index.isLt)[i] = if r.index = i then a else s.roles[i] := by
    rw [Fin.getElem_fin, Vector.getElem_set]
    simp only [Fin.ext_iff]
    rfl
  have hnew {i j : Fin 8} (hi : r.index = i) (hj : ¬r.index = j) : a ≠ none → a ≠ s.roles[j] := by
    intro hsome heq
    obtain ⟨x, rfl⟩ := Option.ne_none_iff_exists'.mp hsome
    exact State.roles_ne_of_heldByOther (ha x rfl).2 (Ne.symm hj) heq.symm
  refine ⟨hown, fun i => ?_, fun i j => ?_⟩
  · change (s.roles.set r.index.val a r.index.isLt)[i] ≠ _ ∧ (s.roles.set r.index.val a r.index.isLt)[i] ≠ _ ∧
      (s.roles.set r.index.val a r.index.isLt)[i] ≠ _
    rw [hentry]
    split
    · cases a with
      | none => simp
      | some x =>
        obtain ⟨⟨h0, h63, ho⟩, -⟩ := ha x rfl
        exact ⟨fun e => h0 (Option.some.inj e), fun e => h63 (Option.some.inj e), fun e => ho (Option.some.inj e)⟩
    · exact hrange i
  · change (s.roles.set r.index.val a r.index.isLt)[i] = (s.roles.set r.index.val a r.index.isLt)[j] →
      (s.roles.set r.index.val a r.index.isLt)[i] ≠ none → i = j
    rw [hentry, hentry]
    split
    next hi =>
      split
      next hj => exact fun _ _ => hi.symm.trans hj
      next hj => exact fun heq hsome => absurd heq (hnew hi hj hsome)
    next hi =>
      split
      next hj => exact fun heq hsome => absurd heq.symm (hnew hj hi (heq ▸ hsome))
      next hj => exact hinj i j

theorem requestRoleSet_lineRolesOk (h : s.LineRolesOk) (p : Payload) : (requestRoleSet p s).1.LineRolesOk := by
  unfold requestRoleSet
  split
  next => exact h
  next =>
    split
    next r a _ haddr =>
      split
      next => exact h
      next hheld =>
        refine ⟨h.1, h.2.set fun x hx => ?_⟩
        subst hx
        exact ⟨roleSetAddress_some haddr, by simpa using hheld⟩
    next => exact h

theorem ownOf_ok (straps : Station) : ownOf straps ≠ 0 ∧ ownOf straps ≠ 63 := by
  unfold ownOf
  split
  next => decide
  next h => exact not_or.mp h

theorem powerOnValues_lineRolesOk (straps : Station) (pins : Pins) : (powerOnValues straps pins s).LineRolesOk := by
  have hroles (i : Fin 8) : (powerOnValues straps pins s).roles[i] = none := by
    fin_cases i <;> rfl
  refine ⟨⟨by simp [powerOnValues, State.reset, State.holdSet, HoldSet.isEmpty, PortRec.initial], by simp [powerOnValues, State.reset]⟩,
    ownOf_ok straps, fun i => ?_, fun i j _ hi => ?_⟩
  · rw [hroles]
    simp
  · exact absurd (hroles i) hi

theorem linkReset_lineRolesOk (h : s.LineRolesOk) : (linkReset s).LineRolesOk := by
  refine ⟨⟨by simp [linkReset, State.holdSet, HoldSet.isEmpty, PortRec.initial], by simp [linkReset]⟩, ?_⟩
  cases hlock : s.line.recipeLock with
  | true => exact h.2.of_same rfl (by simp [linkReset, hlock])
  | false =>
    have hroles (i : Fin 8) : (linkReset s).roles[i] = none := by
      simp only [linkReset, hlock]
      fin_cases i <;> rfl
    refine ⟨h.2.1, fun i => ?_, fun i j _ hi => ?_⟩
    · rw [hroles]
      simp
    · exact absurd (hroles i) hi

theorem exec_lineRolesOk {c : Instr} (h : s.LineRolesOk) (hx : exec c s = .next t) : t.LineRolesOk := by
  have hP := lineRolesOk_dependsOn
  by_cases hc : Part.apart [.line, .roles, .portU, .portD] (footprint c) = true
  · exact (touches_of_exec hx).keeps hP h hc
  · cases c with
    | frameArrival p bytes => exact Host.Outcome.next.inj hx ▸ arrive_lineRolesOk h p bytes
    | cycleWatchdogExpiry => exact Host.Outcome.next.inj hx ▸ expire_keeps hP rfl h fun _ ht => watchdogExpired_lineRolesOk ht
    | stopsenseChange high => exact Host.Outcome.next.inj hx ▸ senseChange_lineRolesOk h high
    | filterTimerExpiry =>
      obtain rfl := Host.Outcome.next.inj hx
      split
      next timer _ => exact expire_keeps hP rfl h fun _ ht => filterExpired_lineRolesOk ht timer.high
      next => exact h
    | powerOnReset a => exact Host.Outcome.next.inj hx ▸ powerOnValues_lineRolesOk a _
    | pinReset a =>
      exact Host.Outcome.next.inj hx ▸ powerOnValues_lineRolesOk (s := s) a { s.pins with nreset := false }
    | reset w => exact Host.Outcome.next.inj hx ▸ walkRequest_keeps hP rfl h (linkReset_lineRolesOk h)
    | run w => exact Host.Outcome.next.inj hx ▸ walkRequest_keeps hP rfl h (requestRun_lineRolesOk h)
    | halt w => exact Host.Outcome.next.inj hx ▸ walkRequest_keeps hP rfl h (requestHalt_lineRolesOk h)
    | alertMask w => exact Host.Outcome.next.inj hx ▸ walkRequest_keeps hP rfl h (h.of_same rfl rfl h.1.2 rfl rfl)
    | lock w => exact Host.Outcome.next.inj hx ▸ walkRequest_keeps hP rfl h (requestLock_lineRolesOk h w.payload)
    | roleSet w => exact Host.Outcome.next.inj hx ▸ walkRequest_keeps hP rfl h (requestRoleSet_lineRolesOk h w.payload)
    | _ => exact absurd rfl hc

end Line

/-! ### The invariant of the link -/

section Link
variable {s t : State} {c : Instr}

theorem path_notMem_footprint (c : Instr) : .path ∉ footprint c := by cases c <;> simp [footprint, resetParts]

theorem frames_notMem_footprint (c : Instr) : .frames ∉ footprint c := by cases c <;> simp [footprint, resetParts]

theorem linkInv_iff : s.LinkInv ↔ s.PortsOk ∧ s.ret.Ok ∧ s.LineRolesOk ∧ s.FramesOk := by
  constructor
  · exact fun ⟨hu, hd, hret, hroles, hline, hframes⟩ => ⟨⟨hu, hd⟩, hret, ⟨hline, hroles⟩, hframes⟩
  · exact fun ⟨⟨hu, hd⟩, hret, ⟨hline, hroles⟩, hframes⟩ => ⟨hu, hd, hret, hroles, hline, hframes⟩

theorem exec_linkInv (h : s.LinkInv) (hx : exec c s = .next t) : t.LinkInv := by
  rw [linkInv_iff] at h ⊢
  obtain ⟨hports, hret, hline, hframes⟩ := h
  have htouch := touches_of_exec hx
  exact ⟨exec_portsOk hports hx, htouch.same .path (path_notMem_footprint c) hret, exec_lineRolesOk hline hx,
    htouch.same .frames (frames_notMem_footprint c) hframes⟩

theorem linkInv_dependsOn :
    DependsOn [.portU, .portD, .ret, .line, .roles, .down, .up, .sentD, .sentU] State.LinkInv := by
  intro s t h hs
  have hu : t.portU = s.portU := h .portU (by simp)
  have hd : t.portD = s.portD := h .portD (by simp)
  have hret : t.ret = s.ret := h .ret (by simp)
  have hline : t.line = s.line := h .line (by simp)
  have hroles : t.roles = s.roles := h .roles (by simp)
  have hdown : t.down = s.down := h .down (by simp)
  have hup : t.up = s.up := h .up (by simp)
  have hsentD : t.sentD = s.sentD := h .sentD (by simp)
  have hsentU : t.sentU = s.sentU := h .sentU (by simp)
  simpa only [State.LinkInv, State.LineOk, State.RolesOk, State.FramesOk, State.holdSet, hu, hd, hret, hline, hroles, hdown, hup,
    hsentD, hsentU] using hs

end Link

end Sys2Proof.Machine

/-! Every command keeps the recipe store (R1, R2, R5, R7, R9, R12). -/

namespace Sys2Proof.Machine

/-! ### One slot -/

section OneSlot
variable {r : RecipeSlot}

theorem RecipeSlot.ok_cleared : RecipeSlot.cleared.Ok := by decide

theorem RecipeSlot.ok_opened {boards tabs : Nat} (hb : 1 ≤ boards ∧ boards ≤ 64) (ht : 1 ≤ tabs ∧ tabs ≤ 256) (suspect : Bool) :
    (RecipeSlot.opened boards tabs suspect).Ok := by
  refine ⟨by simp [RecipeSlot.opened], fun _ => by simpa [RecipeSlot.opened] using ⟨hb, ht⟩, ?_, ?_, by simp [RecipeSlot.opened],
    by simp [RecipeSlot.opened]⟩
  · simp only [RecipeSlot.opened, List.mem_replicate]
    rintro b ⟨-, rfl⟩ t ⟨⟩
  · simp only [RecipeSlot.opened, List.mem_replicate]
    rintro b ⟨-, rfl⟩ t ⟨⟩

/-- R12: the use count is free while the slot is READY, and otherwise 0. -/
theorem RecipeSlot.Ok.with_useCount (h : r.Ok) {n : Nat} (hn : r.state ≠ .ready → n = 0) : RecipeSlot.Ok { r with useCount := n } := by
  obtain ⟨hempty, hcount, hboards, htabs, hready, huse⟩ := h
  refine ⟨fun he => ?_, hcount, hboards, htabs, hready, hn⟩
  rw [hn (by simp_all), hempty he]
  rfl

/-- R6: a board template the slot takes. -/
theorem RecipeSlot.Ok.putBoard (h : r.Ok) (hs : r.state = .building) {t : RawBoard} (ht : boardOk r t = true)
    (hv : t.variant ≤ 255) : (r.putBoard t).Ok := by
  obtain ⟨hempty, hcount, hboards, htabs, hready, huse⟩ := h
  simp only [boardOk, Bool.and_eq_true, decide_eq_true_eq] at ht
  obtain ⟨⟨⟨hv0, hlo⟩, hhi⟩, -⟩ := ht
  have hheight := clampTo_mem (show 5 ≤ 400 by omega) t.height
  refine ⟨fun he => absurd (hs ▸ he) (by simp), ?_, fun b hb x hx => ?_, ?_, fun hr => absurd (hs ▸ hr) (by simp), huse⟩
  · simpa [RecipeSlot.putBoard] using hcount
  · rcases List.mem_or_eq_of_mem_set hb with hb | rfl
    · exact hboards b hb x hx
    · obtain rfl := Option.mem_some_iff.mp hx
      exact ⟨⟨by dsimp only; omega, hv⟩, hheight, hlo, hhi⟩
  · simpa [RecipeSlot.putBoard] using htabs

/-- R8: a tab template the slot takes. -/
theorem RecipeSlot.Ok.putTab (h : r.Ok) (hs : r.state = .building) {t : RawTab} (ht : tabOk r t = true) : (r.putTab t).Ok := by
  obtain ⟨hempty, hcount, hboards, htabs, hready, huse⟩ := h
  simp only [tabOk, hs, Bool.or_eq_true, Bool.and_eq_true, decide_eq_true_eq, not_true_eq_false, false_or, ne_eq] at ht
  refine ⟨fun he => absurd (hs ▸ he) (by simp), ?_, hboards, fun b hb x hx => ?_, fun hr => absurd (hs ▸ hr) (by simp), huse⟩
  · simpa [RecipeSlot.putTab] using hcount
  · rcases List.mem_or_eq_of_mem_set hb with hb | rfl
    · exact htabs b hb x hx
    · obtain rfl := Option.mem_some_iff.mp hx
      refine ⟨ht.2, fun c hc => ?_⟩
      simp only [storedCap] at hc
      split at hc
      next => cases hc
      next h0 =>
        obtain rfl := Option.mem_some_iff.mp hc
        omega

/-- What a template to store leaves as it is. -/
theorem RecipeSlot.putBoard_frame (t : RawBoard) : (r.putBoard t).state = r.state ∧ (r.putBoard t).boards.length = r.boards.length ∧
    (r.putBoard t).tabs = r.tabs ∧ (r.putBoard t).useCount = r.useCount := by
  simp [RecipeSlot.putBoard]

theorem RecipeSlot.putTab_frame (t : RawTab) : (r.putTab t).state = r.state ∧ (r.putTab t).boards = r.boards ∧
    (r.putTab t).tabs.length = r.tabs.length ∧ (r.putTab t).useCount = r.useCount := by
  simp [RecipeSlot.putTab]

/-- What RECIPE-BOARDS and RECIPE-TABS keep of a slot. -/
def RecipeSlot.Fills (r x : RecipeSlot) : Prop :=
  x.Ok ∧ x.state = r.state ∧ x.boards.length = r.boards.length ∧ x.tabs.length = r.tabs.length ∧ x.useCount = r.useCount

theorem RecipeSlot.Ok.putBoards (h : r.Ok) (hs : r.state = .building) {ts : List RawBoard}
    (ht : ∀ t ∈ ts, boardOk r t = true ∧ t.variant ≤ 255) : r.Fills (ts.foldl RecipeSlot.putBoard r) := by
  have key (x : RecipeSlot) (hx : r.Fills x) (ts : List RawBoard) (ht : ∀ t ∈ ts, boardOk r t = true ∧ t.variant ≤ 255) :
      r.Fills (ts.foldl RecipeSlot.putBoard x) := by
    induction ts generalizing x with
    | nil => exact hx
    | cons t ts ih =>
      obtain ⟨hok, hstate, hb, htabs, huse⟩ := hx
      obtain ⟨hst, hvar⟩ := ht t List.mem_cons_self
      obtain ⟨hfs, hfb, hft, hfu⟩ := RecipeSlot.putBoard_frame (r := x) t
      refine ih _ ⟨hok.putBoard (hstate.trans hs) ?_ hvar, hfs.trans hstate, hfb.trans hb, ?_, hfu.trans huse⟩
        fun t' ht' => ht t' (List.mem_cons_of_mem t ht')
      · simpa only [boardOk, hstate, hb] using hst
      · rw [hft, htabs]
  exact key r ⟨h, rfl, rfl, rfl, rfl⟩ ts ht

theorem RecipeSlot.Ok.putTabs (h : r.Ok) (hs : r.state = .building) {ts : List RawTab} (ht : ∀ t ∈ ts, tabOk r t = true) :
    r.Fills (ts.foldl RecipeSlot.putTab r) := by
  have key (x : RecipeSlot) (hx : r.Fills x) (ts : List RawTab) (ht : ∀ t ∈ ts, tabOk r t = true) :
      r.Fills (ts.foldl RecipeSlot.putTab x) := by
    induction ts generalizing x with
    | nil => exact hx
    | cons t ts ih =>
      obtain ⟨hok, hstate, hb, htabs, huse⟩ := hx
      have hst := ht t List.mem_cons_self
      obtain ⟨hfs, hfb, hft, hfu⟩ := RecipeSlot.putTab_frame (r := x) t
      refine ih _ ⟨hok.putTab (hstate.trans hs) ?_, hfs.trans hstate, ?_, hft.trans htabs, hfu.trans huse⟩
        fun t' ht' => ht t' (List.mem_cons_of_mem t ht')
      · simpa only [tabOk, hstate, hb, htabs] using hst
      · rw [hfb, hb]
  exact key r ⟨h, rfl, rfl, rfl, rfl⟩ ts ht

/-- R9: a slot that passes its checks. -/
theorem RecipeSlot.Ok.finished (h : r.Ok) (hs : r.state = .building) (hf : r.firstFault = none) : r.finished.Ok := by
  obtain ⟨-, hcount, hboards, htabs, -, huse⟩ := h
  exact ⟨fun he => (nomatch he), fun _ => hcount (by simp [hs]), hboards, htabs, fun _ => ⟨hf, rfl⟩, fun hr => absurd rfl hr⟩

theorem rawBoards_variant_le {p : Payload} {t : RawBoard} (h : t ∈ rawBoards p) : t.variant ≤ 255 := by
  obtain ⟨k, -, rfl⟩ := List.mem_map.mp h
  exact Nat.le_of_lt_succ (BitVec.isLt _)

end OneSlot

/-! ### The store -/

section Store
variable {s t : State}

theorem sum_map_set {α : Type} (f : α → Nat) (l : List α) (i : Nat) (h : i < l.length) (x : α) :
    ((l.set i x).map f).sum + f l[i] = (l.map f).sum + f x := by
  induction l generalizing i with
  | nil => simp at h
  | cons y l ih =>
    cases i with
    | zero => simp only [List.set_cons_zero, List.map_cons, List.sum_cons, List.getElem_cons_zero]; omega
    | succ i =>
      have := ih i (by simpa using h)
      simp only [List.set_cons_succ, List.map_cons, List.sum_cons, List.getElem_cons_succ]
      omega

theorem State.sum_setRecipe (f : RecipeSlot → Nat) (i : SlotId) (r : RecipeSlot) :
    ((setRecipe i r s).recipes.toList.map f).sum + f (s.recipe i) = (s.recipes.toList.map f).sum + f r := by
  have h := sum_map_set f s.recipes.toList i.val (by simp) r
  simpa [setRecipe, State.recipe, Vector.toList_set] using h

theorem State.recipe_setRecipe (i j : SlotId) (r : RecipeSlot) :
    (setRecipe i r s).recipe j = if i = j then r else s.recipe j := by
  simp only [setRecipe, State.recipe, Fin.getElem_fin, Vector.getElem_set, Fin.ext_iff]

/-- R12: what one nest adds to the use count of a slot. -/
def NestRec.uses (r : NestRec) (i : SlotId) : Nat := if r.state ≠ .empty ∧ r.slot = i then 1 else 0

theorem State.loadedFrom_eq (i : SlotId) : s.loadedFrom i = (s.nest .a).uses i + (s.nest .b).uses i := rfl

theorem NestRec.uses_of_panel {r r' : NestRec} (h : r'.panel = r.panel) (i : SlotId) : r'.uses i = r.uses i := by
  simp only [NestRec.panel, Prod.mk.injEq, decide_eq_decide] at h
  obtain ⟨hstate, hslot, -⟩ := h
  simp only [NestRec.uses, ne_eq, hstate, hslot]

theorem recipeInv_dependsOn : DependsOn [.recipes, .panel] State.RecipeInv := by
  intro s t h hs
  have hrecipes : t.recipes = s.recipes := h .recipes (by simp)
  have hpanel : ∀ n, (t.nest n).panel = (s.nest n).panel := h .panel (by simp)
  have hloaded (i : SlotId) : t.loadedFrom i = s.loadedFrom i := by
    rw [State.loadedFrom_eq, State.loadedFrom_eq, NestRec.uses_of_panel (hpanel .a), NestRec.uses_of_panel (hpanel .b)]
  simpa only [State.RecipeInv, State.recipe, hrecipes, hloaded] using hs

/-- A change of one slot, where the nests stand. -/
theorem State.RecipeInv.set (h : s.RecipeInv) {i : SlotId} {r : RecipeSlot} (hr : r.Ok) (huse : r.useCount = s.loadedFrom i)
    (hb : (s.recipes.toList.map fun r => r.boards.length).sum + r.boards.length ≤ 256 + (s.recipe i).boards.length)
    (ht : (s.recipes.toList.map fun r => r.tabs.length).sum + r.tabs.length ≤ 1024 + (s.recipe i).tabs.length) :
    (setRecipe i r s).RecipeInv := by
  have hsumB := s.sum_setRecipe (fun r => r.boards.length) i r
  have hsumT := s.sum_setRecipe (fun r => r.tabs.length) i r
  refine ⟨fun j => ?_, by omega, by omega⟩
  rw [State.recipe_setRecipe]
  split
  next hij => exact ⟨hr, hij ▸ huse⟩
  next => exact h.1 j

theorem State.RecipeInv.fill (h : s.RecipeInv) {i : SlotId} {r : RecipeSlot} (hr : (s.recipe i).Fills r) :
    (setRecipe i r s).RecipeInv := by
  obtain ⟨hok, -, hb, ht, huse⟩ := hr
  exact h.set hok (huse.trans (h.1 i).2) (by rw [hb]; exact Nat.add_le_add_right h.2.1 _)
    (by rw [ht]; exact Nat.add_le_add_right h.2.2 _)

/-- R12: a nest record and the use count of one slot change together. -/
theorem State.RecipeInv.setNest (h : s.RecipeInv) {n : Nest} {x : NestRec} {i : SlotId} {k : Nat}
    (hk : (s.recipe i).state ≠ .ready → k = 0) (hi : k + (s.nest n).uses i = (s.recipe i).useCount + x.uses i)
    (hj : ∀ j, j ≠ i → x.uses j = (s.nest n).uses j) :
    (setRecipe i { s.recipe i with useCount := k } (Machine.setNest n x s)).RecipeInv := by
  have hrecipe (j : SlotId) : (Machine.setNest n x s).recipe j = s.recipe j := rfl
  have hloaded (j : SlotId) :
      (Machine.setNest n x s).loadedFrom j + (s.nest n).uses j = s.loadedFrom j + x.uses j := by
    rw [State.loadedFrom_eq, State.loadedFrom_eq]
    cases n with
    | a =>
      change x.uses j + (s.nest .b).uses j + _ = _
      omega
    | b =>
      change (s.nest .a).uses j + x.uses j + _ = _
      omega
  refine ⟨fun j => ?_, ?_, ?_⟩
  · rw [State.recipe_setRecipe, hrecipe]
    have hold := (h.1 j).2
    have hnew := hloaded j
    split
    next hij =>
      subst hij
      refine ⟨(h.1 i).1.with_useCount hk, ?_⟩
      change k = (Machine.setNest n x s).loadedFrom i
      omega
    next hij =>
      have := hj j (Ne.symm hij)
      refine ⟨(h.1 j).1, ?_⟩
      change _ = (Machine.setNest n x s).loadedFrom j
      omega
  · exact Nat.le_trans (Nat.le_of_eq (Nat.add_right_cancel
      ((Machine.setNest n x s).sum_setRecipe (fun r => r.boards.length) i { s.recipe i with useCount := k }))) h.2.1
  · exact Nat.le_trans (Nat.le_of_eq (Nat.add_right_cancel
      ((Machine.setNest n x s).sum_setRecipe (fun r => r.tabs.length) i { s.recipe i with useCount := k }))) h.2.2

/-! ### The commands -/

theorem requestRecipeOpen_recipeInv (h : s.RecipeInv) (p : Payload) : (requestRecipeOpen p s).1.RecipeInv := by
  unfold requestRecipeOpen
  split
  next => exact h
  next =>
    split
    next i suspect _ _ =>
      dsimp only
      split
      next => exact h
      next hcounts =>
        split
        next => exact h
        next huse =>
          split
          next => exact h
          next hroom =>
            simp only [openCountsOk, Bool.not_eq_false, Bool.and_eq_true, decide_eq_true_eq] at hcounts
            simp only [State.freeBoards, State.freeTabs, Config.boardPool, Config.tabPool, not_or, Nat.not_lt] at hroom
            obtain ⟨⟨⟨⟨⟨hb1, hb2⟩, ht1⟩, ht2⟩, -⟩, -⟩ := hcounts
            have hB := h.2.1
            have hT := h.2.2
            refine h.set (RecipeSlot.ok_opened ⟨hb1, hb2⟩ ⟨ht1, ht2⟩ suspect) ?_ ?_ ?_
            · have := (h.1 i).2
              simp only [RecipeSlot.opened]
              omega
            · simp only [RecipeSlot.opened, List.length_replicate]
              omega
            · simp only [RecipeSlot.opened, List.length_replicate]
              omega
    next => exact h

theorem requestRecipeBoards_recipeInv (h : s.RecipeInv) (p : Payload) : (requestRecipeBoards p s).1.RecipeInv := by
  unfold requestRecipeBoards
  split
  next => exact h
  next =>
    split
    next => exact h
    next i _ =>
      dsimp only
      split
      next => exact h
      next hok =>
        split
        next => exact h
        next hstate =>
          simp only [not_or, Bool.not_eq_false, List.all_eq_true] at hok
          exact h.fill ((h.1 i).1.putBoards (by simpa using hstate) fun t ht => ⟨hok.2.2 t ht, rawBoards_variant_le ht⟩)

theorem requestRecipeTabs_recipeInv (h : s.RecipeInv) (p : Payload) : (requestRecipeTabs p s).1.RecipeInv := by
  unfold requestRecipeTabs
  split
  next => exact h
  next =>
    split
    next => exact h
    next i _ =>
      dsimp only
      split
      next => exact h
      next hok =>
        split
        next => exact h
        next hstate =>
          simp only [not_or, Bool.not_eq_false, List.all_eq_true] at hok
          exact h.fill ((h.1 i).1.putTabs (by simpa using hstate) hok.2.2)

theorem requestRecipeFinish_recipeInv (h : s.RecipeInv) (p : Payload) : (requestRecipeFinish p s).1.RecipeInv := by
  unfold requestRecipeFinish
  split
  next => exact h
  next =>
    split
    next => exact h
    next i _ =>
      dsimp only
      split
      next => exact h
      next hstate =>
        split
        next => exact h
        next hfault =>
          refine h.set ((h.1 i).1.finished (by simpa using hstate) hfault) (h.1 i).2 ?_ ?_
          · exact Nat.add_le_add_right h.2.1 _
          · exact Nat.add_le_add_right h.2.2 _

theorem requestRecipeDrop_recipeInv (h : s.RecipeInv) (p : Payload) : (requestRecipeDrop p s).1.RecipeInv := by
  unfold requestRecipeDrop
  split
  next => exact h
  next =>
    split
    next => exact h
    next i _ =>
      dsimp only
      split
      next => exact h
      next huse =>
        have hcount := (h.1 i).2
        have hB := h.2.1
        have hT := h.2.2
        refine h.set RecipeSlot.ok_cleared ?_ ?_ ?_
        · simp only [RecipeSlot.cleared]
          omega
        · simp only [RecipeSlot.cleared, List.length_nil]
          omega
        · simp only [RecipeSlot.cleared, List.length_nil]
          omega

theorem requestNestLoad_recipeInv (h : s.RecipeInv) (p : Payload) : (requestNestLoad p s).1.RecipeInv := by
  unfold requestNestLoad
  split
  next n i _ _ =>
    dsimp only
    split
    next => exact h
    next hempty =>
      split
      next => exact h
      next hready =>
        have hempty' : (s.nest n).state = .empty := by simpa using hempty
        refine h.setNest (i := i) (k := (s.recipe i).useCount + 1) (fun hr => absurd (by simpa using hready) hr) ?_ fun j hj => ?_
        · simp [NestRec.uses, hempty']
        · simp [NestRec.uses, hempty', Ne.symm hj]
  next => exact h

theorem requestNestUnload_recipeInv (h : s.RecipeInv) (p : Payload) : (requestNestUnload p s).1.RecipeInv := by
  unfold requestNestUnload
  split
  next => exact h
  next n _ =>
    dsimp only
    split
    next => exact h
    next hempty =>
      split
      next => exact h
      next =>
        have hswap (r : RecipeSlot) (i : SlotId) (x : NestRec) : setNest n x (setRecipe i r s) = setRecipe i r (setNest n x s) := rfl
        have huse := (h.1 (s.nest n).slot).2
        have hok := (h.1 (s.nest n).slot).1.2.2.2.2.2
        have hone : (s.nest n).uses (s.nest n).slot = 1 := by simp [NestRec.uses, hempty]
        have hpos : 1 ≤ s.loadedFrom (s.nest n).slot := by
          rw [State.loadedFrom_eq]
          cases n with
          | a => omega
          | b => omega
        refine h.setNest (n := n) (i := (s.nest n).slot) (k := (s.recipe (s.nest n).slot).useCount - 1) (fun hr => ?_) ?_ fun j hj => ?_
        · rw [hok hr]
        · have hnew : (s.nest n).unloaded.uses (s.nest n).slot = 0 := by simp [NestRec.uses, NestRec.unloaded, NestRec.cleared]
          omega
        · simp [NestRec.uses, NestRec.unloaded, NestRec.cleared, Ne.symm hj]

theorem State.recipeInv_cleared (hr : ∀ i, (s.recipe i) = RecipeSlot.cleared) (hn : ∀ n, (s.nest n).state = .empty) :
    s.RecipeInv := by
  have hloaded (i : SlotId) : s.loadedFrom i = 0 := by simp [State.loadedFrom_eq, NestRec.uses, hn]
  have hsum (f : RecipeSlot → Nat) (hf : f RecipeSlot.cleared = 0) : (s.recipes.toList.map f).sum = 0 := by
    refine List.sum_eq_zero_iff.mpr fun x hx => ?_
    obtain ⟨y, hy, rfl⟩ := List.mem_map.mp hx
    obtain ⟨i, hi, rfl⟩ := List.getElem_of_mem hy
    have hi' : i < 8 := by simpa using hi
    have := hr ⟨i, hi'⟩
    simp only [State.recipe, Fin.getElem_fin] at this
    simpa [this] using hf
  refine ⟨fun i => ⟨hr i ▸ RecipeSlot.ok_cleared, by rw [hr i, hloaded]; rfl⟩, ?_, ?_⟩
  · rw [hsum _ rfl]
    omega
  · rw [hsum _ rfl]
    omega

theorem powerOnValues_recipeInv (straps : Station) (pins : Pins) : (powerOnValues straps pins s).RecipeInv := by
  refine State.recipeInv_cleared (fun i => ?_) fun n => ?_
  · change (Vector.replicate 8 RecipeSlot.cleared)[i] = _
    simp
  · cases n <;> rfl

theorem linkReset_recipeInv (h : s.RecipeInv) : (linkReset s).RecipeInv := by
  have hrecipe (i : SlotId) : (linkReset s).recipe i = (s.recipe i).linkReset s.line.recipeLock := by
    simp only [linkReset, State.recipe, Fin.getElem_fin, Vector.getElem_map]
  have hempty (n : Nest) : ((linkReset s).nest n).state = .empty := by cases n <;> rfl
  cases hlock : s.line.recipeLock with
  | false =>
    refine State.recipeInv_cleared (fun i => ?_) hempty
    rw [hrecipe, hlock]
    rfl
  | true =>
    have hlens (f : RecipeSlot → Nat) (hf : ∀ r, f { r with useCount := 0 } = f r) :
        ((linkReset s).recipes.toList.map f).sum = (s.recipes.toList.map f).sum := by
      simp only [linkReset, hlock, Vector.toList_map, List.map_map]
      congr 1
      exact List.map_congr_left fun r _ => hf r
    refine ⟨fun i => ?_, ?_, ?_⟩
    · rw [hrecipe, hlock]
      refine ⟨(h.1 i).1.with_useCount fun _ => rfl, ?_⟩
      simp [State.loadedFrom_eq, NestRec.uses, hempty, RecipeSlot.linkReset]
    · rw [hlens _ fun _ => rfl]
      exact h.2.1
    · rw [hlens _ fun _ => rfl]
      exact h.2.2

theorem exec_recipeInv {c : Instr} (h : s.RecipeInv) (hx : exec c s = .next t) : t.RecipeInv := by
  have hP := recipeInv_dependsOn
  by_cases hc : Part.apart [.recipes, .panel] (footprint c) = true
  · exact (touches_of_exec hx).keeps hP h hc
  · cases c with
    | recipeOpen w => exact Host.Outcome.next.inj hx ▸ walkRequest_keeps hP rfl h (requestRecipeOpen_recipeInv h w.payload)
    | recipeBoards w => exact Host.Outcome.next.inj hx ▸ walkRequest_keeps hP rfl h (requestRecipeBoards_recipeInv h w.payload)
    | recipeTabs w => exact Host.Outcome.next.inj hx ▸ walkRequest_keeps hP rfl h (requestRecipeTabs_recipeInv h w.payload)
    | recipeFinish w => exact Host.Outcome.next.inj hx ▸ walkRequest_keeps hP rfl h (requestRecipeFinish_recipeInv h w.payload)
    | recipeDrop w => exact Host.Outcome.next.inj hx ▸ walkRequest_keeps hP rfl h (requestRecipeDrop_recipeInv h w.payload)
    | nestLoad w => exact Host.Outcome.next.inj hx ▸ walkRequest_keeps hP rfl h (requestNestLoad_recipeInv h w.payload)
    | nestUnload w => exact Host.Outcome.next.inj hx ▸ walkRequest_keeps hP rfl h (requestNestUnload_recipeInv h w.payload)
    | powerOnReset a => exact Host.Outcome.next.inj hx ▸ powerOnValues_recipeInv a _
    | pinReset a => exact Host.Outcome.next.inj hx ▸ powerOnValues_recipeInv (s := s) a { s.pins with nreset := false }
    | reset w => exact Host.Outcome.next.inj hx ▸ walkRequest_keeps hP rfl h (linkReset_recipeInv h)
    | _ => exact absurd rfl hc

end Store

/-- Settles O57: each command keeps the link (`exec_linkInv`) and the recipe store (`exec_recipeInv`). -/
theorem stepsKeepTheLinkAndTheRecipes : Obligations.StepsKeepTheLinkAndTheRecipes := fun _ _ h =>
  ⟨fun hs => step_keeps linkInv_dependsOn rfl exec_linkInv hs h, fun hs => step_keeps recipeInv_dependsOn rfl exec_recipeInv hs h⟩

end Sys2Proof.Machine

/-! Custody (R60, R61), with the nests' states (R17, R23): each command keeps the pairing of pickers and boards. -/

namespace Sys2Proof.Machine

/-! ### Board records by reference -/

section Records
variable {s : State}

theorem State.boardAt_modBoard (r r' : BoardRef) (f : BoardRec → BoardRec) :
    (modBoard r f s).boardAt r' = if r = r' then (s.boardAt r').map f else s.boardAt r' := by
  obtain ⟨n, j⟩ := r
  obtain ⟨n', j'⟩ := r'
  simp only [State.boardAt, modBoard_eq, nest_setNest, BoardRef.mk.injEq]
  by_cases hn : n = n'
  · subst hn
    by_cases hj : j = j'
    · simp [hj]
    · simp [hj]
  · simp [hn]

theorem State.boardAt_modTab (n : Nest) (t : Nat) (f : TabRec → TabRec) (r : BoardRef) :
    (modTab n t f s).boardAt r = s.boardAt r := by
  simp only [State.boardAt, modTab_eq, nest_setNest]
  split
  next h => rw [h]
  next => rfl

theorem State.boardAt_settleNest (tag : Half) (n : Nest) (r : BoardRef) : (settleNest tag n s).boardAt r = s.boardAt r := by
  simp only [State.boardAt, settleNest_boards]

/-- What is said of every board record of both nests, by reference. -/
theorem State.bothNests_boards_iff {P : BoardRef → BoardRec → Prop} :
    (BothNests fun n => ∀ j : Fin (s.nest n).boards.length, P { nest := n, board := j } (s.nest n).boards[j]) ↔
      ∀ r b, s.boardAt r = some b → P r b := by
  have key (n : Nest) : (∀ j : Fin (s.nest n).boards.length, P { nest := n, board := j } (s.nest n).boards[j]) ↔
      ∀ j b, s.boardAt { nest := n, board := j } = some b → P { nest := n, board := j } b := by
    constructor
    · intro h j b hb
      obtain ⟨hj, rfl⟩ := List.getElem?_eq_some_iff.mp hb
      exact h ⟨j, hj⟩
    · intro h j
      exact h j _ (List.getElem?_eq_getElem j.isLt)
  constructor
  · intro h r b hb
    obtain ⟨n, j⟩ := r
    cases n
    · exact (key .a).mp h.1 j b hb
    · exact (key .b).mp h.2 j b hb
  · exact fun h => ⟨(key .a).mpr fun j b => h _ b, (key .b).mpr fun j b => h _ b⟩

end Records

/-! ### The invariant of custody -/

/-- R60, R61, R17, R23: pickers and boards name each other. -/
structure State.Custody (s : State) : Prop where
  pickers : ∀ p, (s.picker p).Ok
  bound : ∀ p r, (s.picker p).board = some r → ∃ b, s.boardAt r = some b ∧ b.picker = some p
  nests : ∀ n, (s.nest n).Ok
  boards : ∀ r b, s.boardAt r = some b → s.BoardBound r b

section Custody
variable {s t : State} {p : PickerId} {r : BoardRef} {b : BoardRec}

theorem State.custody_iff : s.Custody ↔ s.CustodyInv := by
  have hbound (p : PickerId) (r : BoardRef) :
      (s.boardAt r).map BoardRec.picker = some (some p) ↔ ∃ b, s.boardAt r = some b ∧ b.picker = some p := by
    simp [Option.map_eq_some_iff]
  constructor
  · intro h
    have hboards := State.bothNests_boards_iff.mpr h.boards
    exact ⟨fun p => ⟨h.pickers p, fun r hr => (hbound p r).mpr (h.bound p r hr)⟩, ⟨h.nests .a, hboards.1⟩, h.nests .b, hboards.2⟩
  · intro ⟨hp, ⟨ha, hba⟩, hb, hbb⟩
    refine ⟨fun p => (hp p).1, fun p r hr => (hbound p r).mp ((hp p).2 r hr), fun n => ?_, State.bothNests_boards_iff.mp ⟨hba, hbb⟩⟩
    cases n
    · exact ha
    · exact hb

theorem custody_dependsOn : DependsOn [.nests, .pickers] State.Custody := by
  intro s t h hs
  have hnests : t.nests = s.nests := h .nests (by simp)
  have hpickers : t.pickers = s.pickers := h .pickers (by simp)
  have hpicker (p : PickerId) : t.picker p = s.picker p := by simp only [State.picker, hpickers]
  have hnest (n : Nest) : t.nest n = s.nest n := by simp only [State.nest, hnests]
  have hboard (r : BoardRef) : t.boardAt r = s.boardAt r := by simp only [State.boardAt, hnest]
  obtain ⟨h1, h2, h3, h4⟩ := hs
  refine ⟨fun p => hpicker p ▸ h1 p, fun p r hr => ?_, fun n => hnest n ▸ h3 n, fun r b hb => ?_⟩
  · rw [hboard]
    exact h2 p r (hpicker p ▸ hr)
  · obtain ⟨h5, h6, h7⟩ := h4 r b (hboard r ▸ hb)
    exact ⟨h5, h6, fun q hq => hpicker q ▸ h7 q hq⟩

theorem State.Custody.of_touches {F : List Part} (hs : s.Custody) (h : Touches F s t)
    (hF : Part.apart [.nests, .pickers] F = true) : t.Custody := h.keeps custody_dependsOn hs hF

/-! ### Nest records -/

theorem NestRec.Ok.modifyBoard {r : NestRec} (h : r.Ok) (j : Nat) {f : BoardRec → BoardRec}
    (hf : ∀ b, r.boards[j]? = some b → b.state.terminal = true → (f b).state.terminal = true) :
    NestRec.Ok { r with boards := r.boards.modify j f } := by
  refine ⟨fun he => ?_, fun hc => ?_⟩
  · obtain ⟨hb, ht, hv⟩ := h.1 he
    exact ⟨by simp [hb], ht, hv⟩
  · refine List.all_eq_true.mpr fun b hb => ?_
    obtain ⟨i, hi⟩ := List.mem_iff_getElem?.mp hb
    have hall := List.all_eq_true.mp (h.2 hc)
    rw [List.getElem?_modify] at hi
    cases hx : r.boards[i]? with
    | none => simp [hx] at hi
    | some x =>
      have hterm := hall x (List.mem_of_getElem? hx)
      simp only [hx, Option.map_eq_map, Option.map_some, Option.some.injEq] at hi
      split at hi
      next hij =>
        subst hij
        exact hi ▸ hf x hx hterm
      next => exact hi ▸ hterm

theorem NestRec.Ok.modifyTab {r : NestRec} (h : r.Ok) (j : Nat) (f : TabRec → TabRec) :
    NestRec.Ok { r with tabs := r.tabs.modify j f } := by
  refine ⟨fun he => ?_, h.2⟩
  obtain ⟨hb, ht, hv⟩ := h.1 he
  exact ⟨hb, by simp [ht], hv⟩

/-! ### One board -/

/-- A board that keeps its picker, in a state that agrees with it. -/
theorem State.Custody.modBoard (h : s.Custody) {f : BoardRec → BoardRec}
    (hf : ∀ b, s.boardAt r = some b →
      (f b).picker = b.picker ∧ s.BoardBound r (f b) ∧ (b.state.terminal = true → (f b).state.terminal = true)) :
    (modBoard r f s).Custody := by
  refine ⟨h.pickers, fun p r' hr => ?_, fun n => ?_, fun r' b hb => ?_⟩
  · obtain ⟨b, hb, hp⟩ := h.bound p r' hr
    rw [State.boardAt_modBoard]
    split
    next heq =>
      subst heq
      exact ⟨f b, by rw [hb]; rfl, (hf b hb).1.trans hp⟩
    next => exact ⟨b, hb, hp⟩
  · rw [modBoard_eq, nest_setNest]
    split
    next => exact (h.nests _).modifyBoard _ fun b hb => (hf b hb).2.2
    next => exact h.nests n
  · rw [State.boardAt_modBoard] at hb
    split at hb
    next heq =>
      subst heq
      obtain ⟨x, hx, rfl⟩ := Option.map_eq_some_iff.mp hb
      exact (hf x hx).2.1
    next => exact h.boards r' b hb

/-- What custody does not read of a board changes. -/
theorem State.Custody.modBoard_frame (h : s.Custody) {f : BoardRec → BoardRec}
    (hf : ∀ b, (f b).picker = b.picker ∧ (f b).state = b.state) : (Machine.modBoard r f s).Custody := by
  refine h.modBoard fun b hb => ?_
  obtain ⟨hpicker, hstate⟩ := hf b
  have := h.boards r b hb
  exact ⟨hpicker, by simpa only [State.BoardBound, hpicker, hstate] using this, by simp [hstate]⟩

/-- A board without a picker reaches an end, or goes on its way to one. -/
theorem State.Custody.modBoard_free (h : s.Custody) {f : BoardRec → BoardRec}
    (hf : ∀ b, s.boardAt r = some b → b.picker = none ∧ (f b).picker = none ∧ (f b).state.terminal = true) :
    (Machine.modBoard r f s).Custody := by
  refine h.modBoard fun b hb => ?_
  obtain ⟨hp, hfp, hst⟩ := hf b hb
  refine ⟨hfp.trans hp.symm, ⟨fun h => ?_, fun _ => hfp, by simp [hfp]⟩, fun _ => hst⟩
  rcases h with h | h | h <;> simp [h, BoardState.terminal] at hst

theorem State.Custody.modTab (h : s.Custody) (n : Nest) (j : Nat) (f : TabRec → TabRec) : (modTab n j f s).Custody := by
  refine ⟨h.pickers, fun p r hr => ?_, fun m => ?_, fun r b hb => ?_⟩
  · rw [State.boardAt_modTab]
    exact h.bound p r hr
  · rw [modTab_eq, nest_setNest]
    split
    next => exact (h.nests _).modifyTab j f
    next => exact h.nests m
  · rw [State.boardAt_modTab] at hb
    exact h.boards r b hb

/-- A nest record with the same boards. -/
theorem State.Custody.setNest (h : s.Custody) {n : Nest} {x : NestRec} (hx : x.Ok) (hb : x.boards = (s.nest n).boards) :
    (setNest n x s).Custody := by
  have hboard (r : BoardRef) : (Machine.setNest n x s).boardAt r = s.boardAt r := by
    simp only [State.boardAt, nest_setNest]
    split
    next heq => rw [← heq, hb]
    next => rfl
  refine ⟨h.pickers, fun p r hr => ?_, fun m => ?_, fun r b hb => ?_⟩
  · rw [hboard]
    exact h.bound p r hr
  · rw [nest_setNest]
    split
    next => exact hx
    next => exact h.nests m
  · rw [hboard] at hb
    exact h.boards r b hb

theorem State.Custody.post (h : s.Custody) (tag : Half) (n : Notice) : (post tag n s).Custody :=
  h.of_touches (touches_post s tag n) rfl

/-- R23: the nest whose boards have all reached an end is CLEARED. -/
theorem State.Custody.settleNest (h : s.Custody) (tag : Half) (n : Nest) : (settleNest tag n s).Custody := by
  unfold Machine.settleNest
  dsimp only
  split
  next hst => exact (h.setNest (x := { s.nest n with state := .cleared }) ⟨fun he => (nomatch he), fun _ => hst.2⟩ rfl).post tag _
  next => exact h

/-! ### One picker -/

/-- A picker bound to no board, before and after. -/
theorem State.Custody.setPicker_free (h : s.Custody) {k : Picker} (hk : k.Ok) (hold : (s.picker p).board = none)
    (hnew : k.board = none) : (setPicker p k s).Custody := by
  refine ⟨fun q => ?_, fun q r hr => ?_, h.nests, fun r b hb => ?_⟩
  · rw [picker_setPicker]
    split
    next => exact hk
    next => exact h.pickers q
  · rw [picker_setPicker] at hr
    split at hr
    next => exact absurd (hnew.symm.trans hr) (by simp)
    next => exact h.bound q r hr
  · obtain ⟨h1, h2, h3⟩ := h.boards r b hb
    refine ⟨h1, h2, fun q hq => ?_⟩
    rw [picker_setPicker]
    split
    next hpq =>
      have := (h3 q hq).1
      rw [← hpq, hold] at this
      cases this
    next => exact h3 q hq

/-- What custody does not read of a picker changes. -/
theorem State.Custody.modPicker_frame (h : s.Custody) {f : Picker → Picker}
    (hst : (f (s.picker p)).state = (s.picker p).state) (hbd : (f (s.picker p)).board = (s.picker p).board)
    (hsent : (f (s.picker p)).sentFor = (s.picker p).sentFor) (hjaw : (f (s.picker p)).jawTimer = (s.picker p).jawTimer) :
    (modPicker p f s).Custody := by
  have hkept (q : PickerId) : ((modPicker p f s).picker q).state = (s.picker q).state ∧
      ((modPicker p f s).picker q).board = (s.picker q).board := by
    rw [modPicker_eq, picker_setPicker]
    split
    next heq => exact heq ▸ ⟨hst, hbd⟩
    next => exact ⟨rfl, rfl⟩
  refine ⟨fun q => ?_, fun q r hr => h.bound q r ((hkept q).2 ▸ hr), h.nests, fun r b hb => ?_⟩
  · rw [modPicker_eq, picker_setPicker]
    split
    next => simpa only [Picker.Ok, hst, hbd, hsent, hjaw] using h.pickers p
    next => exact h.pickers q
  · obtain ⟨h1, h2, h3⟩ := h.boards r b hb
    exact ⟨h1, h2, fun q hq => by rw [(hkept q).1, (hkept q).2]; exact h3 q hq⟩

/-! ### A picker and its board -/

/-- R61: a picker and a board, bound to each other or to nothing, come to be bound to each other or to nothing. -/
theorem State.Custody.exchange (h : s.Custody) {k : Picker} {f : BoardRec → BoardRec} (hb : s.boardAt r = some b)
    (hfree : b.picker = none ∨ b.picker = some p) (hheld : ∀ r', (s.picker p).board = some r' → r' = r) (hk : k.Ok)
    (hpair : k.board = none ∧ (f b).picker = none ∨
      k.board = some r ∧ (f b).picker = some p ∧ k.state = if (f b).state = .attached then .closing else .holding)
    (hst : ((f b).state = .held ∨ (f b).state = .freed ∨ (f b).state = .inTransit → (f b).picker.isSome = true) ∧
      ((f b).state = .placing ∨ (f b).state.terminal = true → (f b).picker = none))
    (hterm : b.state.terminal = true → (f b).state.terminal = true) :
    (Machine.modBoard r f (setPicker p k s)).Custody := by
  have hboard (r' : BoardRef) : (Machine.modBoard r f (setPicker p k s)).boardAt r' = if r = r' then some (f b) else s.boardAt r' := by
    rw [State.boardAt_modBoard]
    split
    next heq =>
      subst heq
      exact congrArg (Option.map f) hb
    next => rfl
  have hpicker (q : PickerId) : (Machine.modBoard r f (setPicker p k s)).picker q = if p = q then k else s.picker q :=
    picker_setPicker ..
  refine ⟨fun q => ?_, fun q r' hr => ?_, fun n => ?_, fun r' b' hb' => ?_⟩
  · rw [hpicker]
    split
    next => exact hk
    next => exact h.pickers q
  · rw [hpicker] at hr
    rw [hboard]
    split at hr
    next hpq => grind
    next hpq =>
      obtain ⟨b', hb', hq⟩ := h.bound q r' hr
      grind
  · rw [modBoard_eq, nest_setNest]
    split
    next =>
      refine (h.nests _).modifyBoard _ fun x hx => ?_
      have hx' : s.boardAt r = some x := hx
      obtain rfl := Option.some.inj (hb.symm.trans hx')
      exact hterm
    next => exact h.nests n
  · rw [hboard] at hb'
    split at hb'
    next =>
      obtain rfl := Option.some.inj hb'
      refine ⟨hst.1, hst.2, fun q hq => ?_⟩
      rw [hpicker]
      grind
    next =>
      obtain ⟨h1, h2, h3⟩ := h.boards r' b' hb'
      refine ⟨h1, h2, fun q hq => ?_⟩
      rw [hpicker]
      have := h3 q hq
      grind

end Custody

end Sys2Proof.Machine

/-! Every command keeps custody (R60, R61). -/

namespace Sys2Proof.Machine

section Ops
variable {s : State} {p : PickerId} {r : BoardRef} {b : BoardRec} (tag cycle : Half)

/-! ### What custody says of a bound board -/

theorem State.Custody.board_of_picker (h : s.Custody) (hr : (s.picker p).board = some r) :
    ∃ b, s.boardAt r = some b ∧ b.picker = some p ∧ (s.picker p).state = if b.state = .attached then .closing else .holding := by
  obtain ⟨b, hb, hp⟩ := h.bound p r hr
  exact ⟨b, hb, hp, ((h.boards r b hb).2.2 p hp).2⟩

/-- R61: a picker that is CLOSING on a board has it ATTACHED. -/
theorem State.Custody.attached_of_closing (h : s.Custody) (hr : (s.picker p).board = some r) (hk : (s.picker p).state = .closing) :
    ∃ b, s.boardAt r = some b ∧ b.picker = some p ∧ b.state = .attached := by
  obtain ⟨b, hb, hp, hst⟩ := h.board_of_picker hr
  refine ⟨b, hb, hp, ?_⟩
  rw [hk] at hst
  split at hst
  next h => exact h
  next => cases hst

/-- R61: a board held by a picker is HELD, FREED or IN-TRANSIT. -/
theorem State.Custody.held_of_holding (h : s.Custody) (hr : (s.picker p).board = some r) (hk : (s.picker p).state = .holding) :
    ∃ b, s.boardAt r = some b ∧ b.picker = some p ∧ (b.state = .held ∨ b.state = .freed ∨ b.state = .inTransit) := by
  obtain ⟨b, hb, hp, hst⟩ := h.board_of_picker hr
  refine ⟨b, hb, hp, ?_⟩
  have hnone := (h.boards r b hb).2.1
  rw [hk] at hst
  cases hs : b.state with
  | held | freed | inTransit => simp
  | attached => simp [hs] at hst
  | placing | stacked | rejected | lost => simp [hs, hp, BoardState.terminal] at hnone

theorem State.boardStateAt_placing (h : s.boardStateAt r = .placing) : ∃ b, s.boardAt r = some b ∧ b.state = .placing := by
  unfold State.boardStateAt at h
  cases hb : s.boardAt r with
  | none => simp [hb] at h
  | some b => exact ⟨b, rfl, by simpa [hb] using h⟩

/-! ### Ends of placements -/

theorem unbind_bound (hr : (s.picker p).board = some r) :
    unbind p s = modBoard r (fun b => { b with picker := none }) (setPicker p { s.picker p with board := none } s) := by
  simp only [unbind, hr]
  rfl

theorem unbind_unbound (hr : (s.picker p).board = none) : unbind p s = setPicker p { s.picker p with board := none } s := by
  simp only [unbind, hr]
  rfl

theorem State.Custody.closePlacement (h : s.Custody) (r : BoardRef) : (closePlacement r s).Custody :=
  h.of_touches (touches_closePlacement s r) rfl

theorem State.Custody.modBay (h : s.Custody) (i : BayId) (f : Bay → Bay) : (modBay i f s).Custody :=
  h.of_touches (touches_modBay s i f) rfl

/-- R92: a board PLACING is bound to no picker when its placement completes. -/
theorem State.Custody.completePlacement (h : s.Custody) {x : Placement} (hx : s.boardStateAt x.ref = .placing) :
    (completePlacement tag x cycle s).Custody := by
  unfold Machine.completePlacement
  dsimp only
  refine State.Custody.settleNest (State.Custody.modBoard_free ((h.closePlacement x.ref).modBay x.dest.bay _) fun b hb => ?_) tag _
  obtain ⟨b', hb', hst⟩ := State.boardStateAt_placing hx
  obtain rfl := Option.some.inj (hb'.symm.trans hb)
  have hp := (h.boards _ _ hb').2.1 (.inl hst)
  refine ⟨hp, hp, ?_⟩
  split <;> rfl

/-- R93, R83: what ends a placement of a board PLACING loses the board. -/
theorem State.Custody.modBoard_ended (h : s.Custody) {f : BoardRec → BoardRec}
    (hf : ∀ b, (f b).picker = b.picker ∧ ((f b).state = b.state ∨ b.state = .placing ∧ (f b).state = .lost)) :
    (Machine.modBoard r f s).Custody := by
  refine h.modBoard fun b hb => ?_
  obtain ⟨hpicker, hstate⟩ := hf b
  have hbound := h.boards r b hb
  refine ⟨hpicker, ?_, fun hterm => ?_⟩
  · rcases hstate with hst | ⟨hst, hlost⟩
    · simpa only [State.BoardBound, hpicker, hst] using hbound
    · have hnone := hbound.2.1 (.inl hst)
      simp [State.BoardBound, hlost, hpicker, hnone]
  · rcases hstate with hst | ⟨hst, hlost⟩
    · rwa [hst]
    · rw [hlost]
      rfl

theorem BoardRec.unplaced_ends (b : BoardRec) :
    b.unplaced.picker = b.picker ∧ (b.unplaced.state = b.state ∨ b.state = .placing ∧ b.unplaced.state = .lost) := by
  unfold BoardRec.unplaced
  split <;> simp [*]

theorem BoardRec.stripped_ends (b : BoardRec) :
    b.stripped.picker = b.picker ∧ (b.stripped.state = b.state ∨ b.state = .placing ∧ b.stripped.state = .lost) := by
  unfold BoardRec.stripped
  split <;> simp [*]

theorem State.Custody.endPlacement (h : s.Custody) (x : Placement) (reason : PlaceReason) :
    (endPlacement tag x reason s).Custody := by
  unfold Machine.endPlacement
  exact ((((h.closePlacement x.ref).modBay x.dest.bay _).modBoard_ended BoardRec.unplaced_ends).settleNest tag _).post tag _

theorem State.Custody.removePlacement (h : s.Custody) (x : Placement) : (removePlacement tag s x).Custody := by
  unfold Machine.removePlacement
  exact (((h.closePlacement x.ref).modBoard_ended BoardRec.stripped_ends).post tag _).settleNest tag _

/-! ### Pickers -/

theorem Picker.ok_empty (k : Picker) : Picker.Ok { k with state := .empty, board := none, sentFor := none, jawTimer := none } := by
  simp [Picker.Ok]

theorem Picker.ok_opening (k : Picker) (ends : Nat) :
    Picker.Ok { k with state := .opening, board := none, sentFor := none, jawTimer := some ends } := by
  simp [Picker.Ok]

theorem Picker.ok_closing (k : Picker) (r : BoardRef) (ends : Nat) :
    Picker.Ok { k with state := .closing, board := some r, sentFor := some r, jawTimer := some ends } := by
  simp [Picker.Ok]

/-- R61: emptying a picker after a change of its board is one change of the board and one of the picker. -/
theorem emptyPicker_unbind_modBoard (hr : (s.picker p).board = some r) (f : BoardRec → BoardRec) :
    emptyPicker p (Machine.unbind p (modBoard r f s)) = modBoard r (fun b => { f b with picker := none })
      (setPicker p { s.picker p with state := .empty, board := none, sentFor := none, jawTimer := none } s) := by
  have hr' : ((modBoard r f s).picker p).board = some r := hr
  rw [unbind_bound hr', modBoard_setPicker, modBoard_modBoard, emptyPicker, modPicker_eq, picker_setPicker_same,
    setPicker_setPicker, modBoard_setPicker]
  rfl

/-- R61, R65, R67, R73: a picker lets its board go and is EMPTY. -/
theorem State.Custody.letGo (h : s.Custody) (hr : (s.picker p).board = some r) {f : BoardRec → BoardRec}
    (hf : ∀ b, s.boardAt r = some b → ((f b).state = .attached ∨ (f b).state = .lost) ∧
      (b.state.terminal = true → (f b).state.terminal = true)) :
    (emptyPicker p (unbind p (Machine.modBoard r f s))).Custody := by
  obtain ⟨b, hb, hp, -⟩ := h.board_of_picker hr
  obtain ⟨hst, hterm⟩ := hf b hb
  rw [emptyPicker_unbind_modBoard hr]
  refine h.exchange hb (.inr hp) (fun r' hr' => Option.some.inj (hr'.symm.trans hr)) (Picker.ok_empty _) (.inl ⟨rfl, rfl⟩)
    ⟨fun hf => ?_, fun _ => rfl⟩ hterm
  rcases hst with hst | hst <;> simp [hst] at hf

theorem modBoard_id (r : BoardRef) (s : State) : modBoard r id s = s := by
  obtain ⟨n, j⟩ := r
  cases n <;> simp [modBoard, modNest, setNest, State.nest, PerNest.get, PerNest.set]

/-- R65, R73: a picker CLOSING on a board lets it go. -/
theorem State.Custody.emptyPicker_unbind (h : s.Custody) (hk : (s.picker p).state = .closing) :
    (emptyPicker p (unbind p s)).Custody := by
  cases hr : (s.picker p).board with
  | none =>
    rw [unbind_unbound hr, emptyPicker, modPicker_eq, picker_setPicker_same, setPicker_setPicker]
    exact h.setPicker_free (Picker.ok_empty _) hr rfl
  | some r =>
    obtain ⟨b, hb, hp, hst⟩ := h.attached_of_closing hr hk
    have := h.letGo hr (f := id) fun x hx => by
      obtain rfl := Option.some.inj (hb.symm.trans hx)
      exact ⟨.inl hst, id⟩
    rwa [modBoard_id] at this

/-- R48: a picker CLOSING loses the board it is closing on, and stays CLOSING. -/
theorem State.Custody.unbind (h : s.Custody) (hk : (s.picker p).state = .closing) : (unbind p s).Custody := by
  have hok : Picker.Ok { s.picker p with board := none } := by
    obtain ⟨h1, h2, h3, h4, h5⟩ := h.pickers p
    exact ⟨by simp [hk], fun _ => rfl, h3, h4, fun _ => .inl rfl⟩
  cases hr : (s.picker p).board with
  | none =>
    rw [unbind_unbound hr]
    exact h.setPicker_free hok hr rfl
  | some r =>
    obtain ⟨b, hb, hp, hst⟩ := h.attached_of_closing hr hk
    rw [unbind_bound hr]
    exact h.exchange hb (.inr hp) (fun r' hr' => Option.some.inj (hr'.symm.trans hr)) hok (.inl ⟨rfl, rfl⟩)
      (by simp [hst]) (by simp [hst])

end Ops

/-! ### Gated items -/

section Gated
variable {s : State}

theorem checkGrip_ok {p : PickerId} {nest : Byte} {board : Nat} {r : BoardRef} (h : checkGrip s p nest board = .ok r) :
    (s.picker p).state = .empty ∧ ∃ b, s.boardAt r = some b ∧ b.state = .attached ∧ b.picker = none := by
  unfold checkGrip at h
  split at h
  next => cases h
  next => cases h
  next => cases h
  next => cases h
  next hk =>
    split at h
    next => cases h
    next n _ =>
      rw [guard_eq_ok, guard_eq_ok] at h
      obtain ⟨-, -, h⟩ := h
      split at h
      next => cases h
      next b hb =>
        split at h
        next hst =>
          obtain rfl := Except.ok.inj h
          exact ⟨hk, b, hb, hst⟩
        next => cases h

theorem State.Custody.admitCut (h : s.Custody) (i : LaneId) (t : CutTarget) (tab feed : Nat) (path cycle : Half) :
    (admitCut i t tab feed path cycle s).Custody := by
  unfold Machine.admitCut
  exact State.Custody.of_touches (F := [.lanes, .cuts]) ((h.modTab t.nest tab _).modBoard_frame (by exact fun _ => ⟨rfl, rfl⟩))
    (.of_take rfl rfl) rfl

theorem judgeCut_custody (h : s.Custody) (cycle : Half) (it : Item) (i : LaneId) : (judgeCut cycle it i s).state.Custody := by
  unfold judgeCut
  dsimp only
  split
  next => exact h
  next t _ => exact h.admitCut i t ..

theorem judgeGrip_custody (h : s.Custody) (cycle : Half) (it : Item) (p : PickerId) : (judgeGrip cycle it p s).state.Custody := by
  unfold judgeGrip
  split
  next => exact h
  next r hr =>
    obtain ⟨hk, b, hb, hst, hfree⟩ := checkGrip_ok hr
    have hnone : (s.picker p).board = none := (h.pickers p).2.1 (.inl hk)
    exact h.exchange hb (.inl hfree) (fun r' hr' => by simp [hnone] at hr') (Picker.ok_closing ..) (.inr ⟨rfl, rfl, by simp [hst]⟩)
      (by simp [hst, BoardState.terminal]) (by simp [hst])

theorem State.Custody.completeSensed (h : s.Custody) (tag : Half) (r : BoardRef) : (completeSensed tag r s).Custody := by
  unfold Machine.completeSensed
  split
  next x hx =>
    split
    next =>
      split
      next hst => exact h.completePlacement tag _ ((placementOf_some hx).2 ▸ hst)
      next => exact h
    next => exact h
  next => exact h

/-- R69: an OPEN that is carried out lets no FREED board go. -/
theorem State.Custody.openPicker (h : s.Custody) {p : PickerId} (hk : (s.picker p).state = .closing ∨ (s.picker p).state = .holding)
    (hc : checkOpen s p = none) (tag : Half) : (openPicker tag p s).Custody := by
  cases hr : (s.picker p).board with
  | none =>
    rw [openPicker_unbound tag hr]
    exact h.setPicker_free (Picker.ok_opening ..) hr rfl
  | some r =>
    rw [openPicker_bound tag hr]
    refine State.Custody.completeSensed ?_ tag r
    have hheld (r' : BoardRef) (hr' : (s.picker p).board = some r') : r' = r := Option.some.inj (hr'.symm.trans hr)
    rcases hk with hk | hk
    · obtain ⟨b, hb, hp, hst⟩ := h.attached_of_closing hr hk
      have hrel := BoardRec.released_attached hst
      exact h.exchange hb (.inr hp) hheld (Picker.ok_opening ..) (.inl ⟨rfl, rfl⟩) (by simp [hrel]) (by simp [hst, BoardState.terminal])
    · obtain ⟨b, hb, hp, hst | hst | hst⟩ := h.held_of_holding hr hk
      · have hrel := BoardRec.released_held hst
        exact h.exchange hb (.inr hp) hheld (Picker.ok_opening ..) (.inl ⟨rfl, rfl⟩) (by simp [hrel]) (by simp [hst, BoardState.terminal])
      · rw [checkOpen_freed hk hr hb hst] at hc
        cases hc
      · have hrel := BoardRec.released_inTransit hst
        exact h.exchange hb (.inr hp) hheld (Picker.ok_opening ..) (.inl ⟨rfl, rfl⟩) (by simp [hrel]) (by simp [hst, BoardState.terminal])

theorem judgeOpen_custody (h : s.Custody) (cycle : Half) (it : Item) (p : PickerId) : (judgeOpen cycle it p s).state.Custody := by
  unfold judgeOpen
  split
  next => exact h
  next hc =>
    split
    next hk => exact h.openPicker (.inl hk) hc it.tag
    next hk => exact h.openPicker (.inr hk) hc it.tag
    next => exact h

theorem checkLift_ok {p : PickerId} {r : BoardRef} (h : checkLift s p = .ok r) :
    s.line.state = .running ∧ (s.picker p).state = .holding ∧ (s.picker p).board = some r ∧ ∃ b, s.boardAt r = some b ∧ b.state = .freed := by
  unfold checkLift at h
  rw [guard_eq_ok] at h
  obtain ⟨hrun, h⟩ := h
  split at h
  next => cases h
  next => cases h
  next => cases h
  next => cases h
  next hk =>
    split at h
    next r' hr =>
      split at h
      next hst =>
        obtain rfl := Except.ok.inj h
        exact ⟨not_not.mp hrun, hk, hr, Option.map_eq_some_iff.mp hst⟩
      next => cases h
    next => cases h

theorem judgeLift_custody (h : s.Custody) (cycle : Half) (it : Item) (p : PickerId) : (judgeLift cycle it p s).state.Custody := by
  unfold judgeLift
  split
  next => exact h
  next r hr =>
    obtain ⟨-, hk, hr', b, hb, hst⟩ := checkLift_ok hr
    refine h.modBoard fun x hx => ?_
    obtain rfl := Option.some.inj (hb.symm.trans hx)
    obtain ⟨h1, h2, h3⟩ := h.boards r b hb
    exact ⟨rfl, ⟨fun _ => h1 (by simp [hst]), by simp [BoardState.terminal], fun q hq => by simpa [hst] using h3 q hq⟩,
      by simp [hst, BoardState.terminal]⟩

theorem judgePlace_custody (h : s.Custody) (cycle : Half) (it : Item) (p : PickerId) : (judgePlace cycle it p s).state.Custody := by
  have hreserve {t : State} (ht : t.Custody) (r : BoardRef) (d : Destination) : (reservePlace it.tag cycle r d t).Custody := by
    unfold reservePlace
    have hbay := ht.modBay d.bay fun b => b.reserve d r
    refine State.Custody.of_touches (F := [.placements]) (State.Custody.modBoard_frame (r := r) (f := fun b => { b with dest := some d }) ?_
      fun _ => ⟨rfl, rfl⟩) (.of_take rfl rfl) rfl
    split
    next => exact hbay.of_touches (touches_becomeFull _ it.tag d.bay) rfl
    next => exact hbay
  unfold judgePlace
  split
  next => exact h
  next r b _ =>
    split
    next =>
      split
      next d _ => exact hreserve h r d
      next => exact h
    next =>
      have hsearch := h.of_touches (touches_searchVariant s it.tag b.variant b.height allBays) rfl
      dsimp only
      split
      next d _ => exact hreserve hsearch r d
      next => exact hsearch.of_touches (F := [.free]) (.of_take rfl rfl) rfl

end Gated

end Sys2Proof.Machine

/-! Every command keeps custody (R60, R61): the reports, the timers, the requests and the resets. -/

namespace Sys2Proof.Machine

section Reports
variable {s : State} {p : PickerId}

/-! ### Cut reports (R46 to R54) -/

theorem State.Custody.lanesOnly {F : List Part} {t : State} (h : s.Custody) (ht : Touches F s t)
    (hF : Part.covers F [.lanes, .cuts, .ret] = true) : t.Custody :=
  h.of_touches (ht.mono hF) rfl

theorem State.Custody.markSuspect (h : s.Custody) (r : BoardRef) (yes : Bool) : (markSuspect r yes s).Custody := by
  unfold Machine.markSuspect
  split
  · exact h.modBoard_frame fun _ => ⟨rfl, rfl⟩
  · exact h

theorem State.Custody.faultTab (h : s.Custody) (n : Nest) (tab : Nat) (c : Bool) : (faultTab n tab c s).Custody :=
  (h.modTab n tab _).modBoard_frame fun _ => ⟨rfl, rfl⟩

/-- R48: a board ATTACHED that a picker is CLOSING on loses it, and is bound to none. -/
theorem State.Custody.dropClosing (h : s.Custody) {r : BoardRef} {b : BoardRec} (hb : s.boardAt r = some b)
    (hst : b.state = .attached) :
    (dropClosing b s).Custody ∧ ∃ x, (Machine.dropClosing b s).boardAt r = some x ∧ x.picker = none := by
  unfold Machine.dropClosing
  split
  next q hq =>
    obtain ⟨hr, hk⟩ := (h.boards r b hb).2.2 q hq
    simp only [hst, if_true] at hk
    rw [if_pos hk]
    refine ⟨h.unbind hk, { b with picker := none }, ?_, rfl⟩
    rw [unbind_bound hr, State.boardAt_modBoard_same]
    exact congrArg (Option.map _) hb
  next hq => exact ⟨h, b, hb, hq⟩

theorem State.Custody.freeBoard (h : s.Custody) {r : BoardRef} {b : BoardRec} (hb : s.boardAt r = some b) (tag : Half) (tab : Nat)
    (i : LaneId) (cycle : Half) : (freeBoard tag r tab i cycle b s).Custody := by
  unfold Machine.freeBoard
  split
  next hst =>
    refine h.modBoard fun x hx => ?_
    obtain rfl := Option.some.inj (hb.symm.trans hx)
    obtain ⟨h1, -, h3⟩ := h.boards r b hb
    exact ⟨rfl, ⟨fun _ => h1 (.inl hst), by simp [BoardState.terminal], fun q hq => by simpa [hst] using h3 q hq⟩,
      by simp [hst, BoardState.terminal]⟩
  next hst =>
    obtain ⟨hdrop, x, hx, hnone⟩ := h.dropClosing hb hst
    refine State.Custody.settleNest (State.Custody.post (hdrop.modBoard_free fun y hy => ?_) tag _) tag _
    obtain rfl := Option.some.inj (hx.symm.trans hy)
    exact ⟨hnone, hnone, rfl⟩
  next => exact h

theorem takeCutDone_custody (h : s.Custody) (w : Wire) (i : LaneId) (cycle : Half) : (takeCutDone w i cycle s).Custody := by
  have hwear : (wearStep w.tag i w.payload s).Custody := h.lanesOnly (touches_rewear s w.tag .report i _) rfl
  unfold takeCutDone
  dsimp only
  split
  next b _ =>
    unfold cutComplete
    dsimp only
    refine State.Custody.lanesOnly ?_ (touches_endCut _ i true) rfl
    have hcut := (hwear.modTab b.nest b.tab fun t => { t with state := .cut, lane := none, cutAt := some cycle }).markSuspect
      ((wearStep w.tag i w.payload s).boardOfTab b.nest b.tab) b.govAbort
    split
    next x hx =>
      split
      next => exact hcut.freeBoard hx w.tag b.tab i cycle
      next => exact hcut
    next => exact hcut
  next b _ => exact State.Custody.lanesOnly ((hwear.faultTab _ _ _).markSuspect _ _) (touches_endCut _ i true) rfl
  next b _ =>
    exact State.Custody.lanesOnly (((hwear.faultTab _ _ _).markSuspect _ _).lanesOnly (touches_raiseCause _ w.tag i .bitBroken) rfl)
      (touches_endCut _ i true) rfl
  next => exact hwear.post w.tag _

theorem cutTimedOut_custody (h : s.Custody) (i : LaneId) : (cutTimedOut i s).Custody := by
  unfold cutTimedOut
  split
  next => exact h.lanesOnly (touches_modLane s i _ (by rfl)) rfl
  next b _ =>
    exact State.Custody.lanesOnly (State.Custody.lanesOnly (((h.faultTab _ _ _).markSuspect _ _).lanesOnly
      (touches_raiseCause _ 0 i .cutTimeout) rfl) (touches_giveAbort _ i) rfl) (touches_endCut _ i false) rfl

/-! ### Grip reports (R64 to R68) -/

theorem State.Custody.dropReservation (h : s.Custody) (r : BoardRef) : (dropReservation r s).Custody :=
  h.of_touches (touches_dropReservation s r) rfl

theorem closingReport_custody (h : s.Custody) (hk : (s.picker p).state = .closing) (tag cycle : Half) (jaws : Jaws) (sensed : Bool) :
    (closingReport tag p cycle jaws sensed s).Custody := by
  have hfree (hr : (s.picker p).board = none) : (emptyPicker p s).Custody := by
    refine h.setPicker_free ?_ hr hr
    simp [Picker.Ok, Picker.enter, hr]
  unfold closingReport
  dsimp only
  split
  next => exact h
  next r hr =>
    split
    next =>
      obtain ⟨b, hb, hp, hst⟩ := h.attached_of_closing hr hk
      refine h.exchange hb (.inr hp) (fun r' hr' => Option.some.inj (hr'.symm.trans hr)) ?_ (.inr ⟨hr, hp, by rfl⟩)
        (by simp [hp, BoardState.terminal]) (by simp [hst, BoardState.terminal])
      simp [Picker.Ok, Picker.enter, hr]
    next => exact (h.emptyPicker_unbind hk).post tag _
  next hr =>
    split
    next => exact (hfree hr).post tag _
    next => exact hfree hr

theorem gripLoss_custody (h : s.Custody) {r : BoardRef} {b : BoardRec} (hr : (s.picker p).board = some r) (hb : s.boardAt r = some b)
    (tag cycle : Half) : (gripLoss tag p cycle r b s).Custody := by
  have hlost := State.Custody.letGo h hr (f := fun b => { b with state := .lost }) fun x _ => ⟨.inr rfl, fun _ => rfl⟩
  unfold gripLoss
  split
  next hst =>
    have hback := State.Custody.letGo h hr (f := fun b => { b with state := .attached }) fun x hx => by
      obtain rfl := Option.some.inj (hb.symm.trans hx)
      exact ⟨.inl rfl, by simp [hst, BoardState.terminal]⟩
    refine State.Custody.post ?_ tag _
    split
    next => exact hback.lanesOnly (touches_abortBound _ _) rfl
    next => exact hback
  next => exact ((hlost.dropReservation r).post tag _).settleNest tag _
  next => exact ((hlost.dropReservation r).post tag _).settleNest tag _
  next => exact h

theorem holdingReport_custody (h : s.Custody) (tag cycle : Half) (jaws : Jaws) (sensed : Bool) :
    (holdingReport tag p cycle jaws sensed s).Custody := by
  unfold holdingReport
  split
  next => exact h
  next =>
    split
    next r hr =>
      split
      next b hb => exact gripLoss_custody h hr hb tag cycle
      next => exact h
    next => exact h

theorem takeGripState_custody (h : s.Custody) (w : Wire) (p : PickerId) (cycle : Half) : (takeGripState w p cycle s).Custody := by
  unfold takeGripState
  split
  next jaws sensed _ _ =>
    have htaken : (modPicker p (fun k => { k with lastJaws := some jaws, lastSensed := some sensed }) s).Custody :=
      h.modPicker_frame rfl rfl rfl rfl
    have hpicker : (modPicker p (fun k => { k with lastJaws := some jaws, lastSensed := some sensed }) s).picker p =
        { s.picker p with lastJaws := some jaws, lastSensed := some sensed } := by
      rw [modPicker_eq, picker_setPicker_same]
    dsimp only
    split
    next =>
      split
      next => exact htaken.post w.tag _
      next => exact htaken
    next hk => exact closingReport_custody htaken (by rw [hpicker]; exact hk) w.tag cycle jaws sensed
    next => exact holdingReport_custody htaken w.tag cycle jaws sensed
    next hk =>
      split
      next =>
        have hnone := (h.pickers p).2.1 (.inr (.inl hk))
        refine htaken.setPicker_free ?_ (by rw [hpicker]; exact hnone) (by rw [hpicker]; exact hnone)
        rw [hpicker]
        simp [Picker.Ok, Picker.enter, hnone]
      next => exact htaken
    next => exact htaken
  next => exact h.post _ _

theorem jawExpired_custody (h : s.Custody) (p : PickerId) : (jawExpired p s).Custody := by
  unfold jawExpired
  dsimp only
  split
  next hk =>
    split
    next => exact (h.emptyPicker_unbind hk).post 0 _
    next => exact h.emptyPicker_unbind hk
  next hk =>
    have hnone := (h.pickers p).2.1 (.inr (.inl hk))
    refine State.Custody.post (h.setPicker_free (k := { (s.picker p).enter .jammed with jawTimer := none }) ?_ hnone hnone) 0 _
    simp [Picker.Ok, Picker.enter, hnone]
  next hc ho =>
    have hjaw : (s.picker p).jawTimer = none := by
      have := mt (h.pickers p).2.2.2.1.mpr (not_or.mpr ⟨hc, ho⟩)
      simpa using this
    exact h.modPicker_frame rfl rfl rfl hjaw.symm

/-! ### Table reports (R26, R27, R30, R31) -/

theorem keepOut_custody (h : s.Custody) (tag : Half) (n : Nest) : (keepOut tag n s).Custody := by
  have hok := h.nests n
  unfold keepOut
  dsimp only
  split
  next => exact h
  next v _ =>
    split
    next => exact h.setNest hok rfl
    next hw =>
      split
      next => exact h.setNest hok rfl
      next =>
        split
        next =>
          have hloaded : (s.nest n).state = .loaded := by
            have := mt Or.inl hw
            simp only [Bool.not_eq_false, NestRec.watched, Bool.and_eq_true, decide_eq_true_eq] at this
            exact this.1.1
          have hflag := h.setNest (n := n) (x := { s.nest n with vacuumFlag := true, lowRun := none })
            ⟨fun he => absurd (he.symm.trans hloaded) (by simp), hok.2⟩ rfl
          exact State.Custody.post (hflag.lanesOnly (touches_abortBound _ _) rfl) tag _
        next => exact h

theorem takeTableState_custody (h : s.Custody) (w : Wire) (x : Unit) (cycle : Half) : (takeTableState w x cycle s).Custody := by
  unfold takeTableState
  split
  next => exact h.post _ _
  next pos _ =>
    have ha := h.setNest (n := .a) (x := { s.nest .a with lastVacuum := some (min 100 (Operand.vacuumA w.payload)) }) (h.nests .a) rfl
    have hb := ha.setNest (n := .b) (x := { State.nest _ .b with lastVacuum := some (min 100 (Operand.vacuumB w.payload)) })
      (ha.nests .b) rfl
    exact (keepOut_custody (keepOut_custody hb w.tag .a) w.tag .b).of_touches (touches_movePosition _ w.tag cycle pos) rfl

/-! ### Magazine reports (R81 to R83, R91 to R95) -/

theorem State.Custody.removeMagazine (h : s.Custody) (tag : Half) (id : BayId) : (removeMagazine tag id s).Custody := by
  unfold Machine.removeMagazine
  exact State.Custody.modBay (foldl_keeps (P := State.Custody) (fun _ x ht => ht.removePlacement tag x) _ h) id _

theorem bayReport_custody (h : s.Custody) (tag : Half) (present : Bool) (id : BayId) : (bayReport tag present id s).Custody := by
  have htaken := h.modBay id fun b => { b with presence := if present then .present else .notPresent }
  unfold bayReport
  dsimp only
  split
  next => exact htaken
  next =>
    split
    next => exact htaken.modBay id _
    next => exact htaken.removeMagazine tag id
    next => exact htaken.modBay id _
    next => exact htaken

theorem strayInSlot_custody (h : s.Custody) (tag : Half) (id : BayId) (slots : Nat) (dir : FillDir) (t : SlotTable) (slot : Nat) :
    (strayInSlot tag id slots dir t slot s).Custody := by
  unfold strayInSlot
  dsimp only
  split
  next => exact h
  next => exact h
  next => exact h.modBay id _
  next =>
    split
    next => exact State.Custody.of_touches (h.modBay id _) (touches_becomeFull _ tag id) rfl
    next => exact h.modBay id _
  next =>
    split
    next x _ => exact (h.endPlacement tag x .stray).modBay id _
    next => exact h.modBay id _

theorem strayPlace_custody (h : s.Custody) (w : Wire) (sensed : Bool) (cycle : Half) : (strayPlace w sensed cycle s).Custody := by
  unfold strayPlace
  dsimp only
  have hposted := h.post w.tag (.strayPlace (Operand.placeBay w.payload) (Operand.placeFirst w.payload) sensed cycle)
  split
  next id _ =>
    split
    next =>
      unfold strayInBay
      dsimp only
      split
      next =>
        split
        next => exact hposted.of_touches (touches_strayInReject _ w.tag id _) rfl
        next => exact strayInSlot_custody hposted ..
        next => exact hposted
      next => exact hposted
    next => exact hposted
  next => exact hposted

theorem takePlaceDone_custody (h : s.Custody) (w : Wire) (x : Unit) (cycle : Half) : (takePlaceDone w x cycle s).Custody := by
  unfold takePlaceDone
  split
  next => exact h.post _ _
  next sensed _ =>
    split
    next q _ =>
      unfold takeMatched
      split
      next => exact h.endPlacement w.tag q .notSensed
      next =>
        split
        next hst => exact h.completePlacement w.tag cycle hst
        next => exact h.of_touches (touches_markSensed s q.ref cycle) rfl
    next => exact strayPlace_custody h w sensed cycle

end Reports

/-! ### Requests and resets -/

section Requests
variable {s : State}

/-- A panel of which no board is bound gives way to one of which no board is bound. -/
theorem State.Custody.setNest_free (h : s.Custody) {n : Nest} {x : NestRec} (hx : x.Ok) (hold : ∀ b ∈ (s.nest n).boards, b.picker = none)
    (hnew : ∀ b ∈ x.boards, b.picker = none ∧ b.state = .attached) : (Machine.setNest n x s).Custody := by
  refine ⟨h.pickers, fun p r hr => ?_, fun m => ?_, fun r b hb => ?_⟩
  · obtain ⟨b, hb, hp⟩ := h.bound p r hr
    by_cases hn : n = r.nest
    · have hmem : b ∈ (s.nest n).boards := by
        rw [hn]
        exact List.mem_of_getElem? hb
      rw [hold b hmem] at hp
      cases hp
    · refine ⟨b, ?_, hp⟩
      rw [State.boardAt, nest_setNest, if_neg hn]
      exact hb
  · rw [nest_setNest]
    split
    next => exact hx
    next => exact h.nests m
  · rw [State.boardAt, nest_setNest] at hb
    split at hb
    next =>
      obtain ⟨hp, hst⟩ := hnew b (List.mem_of_getElem? hb)
      simp [State.BoardBound, hp, hst, BoardState.terminal]
    next => exact h.boards r b hb

theorem requestNestLoad_custody (h : s.Custody) (p : Payload) : (requestNestLoad p s).1.Custody := by
  unfold requestNestLoad
  split
  next n i _ _ =>
    dsimp only
    split
    next => exact h
    next hempty =>
      split
      next => exact h
      next =>
        have hboards := ((h.nests n).1 (not_not.mp hempty)).1
        refine State.Custody.of_touches (F := [.recipes]) ?_ (.of_take rfl rfl) rfl
        refine h.setNest_free (n := n) ⟨?_, ?_⟩ (by simp [hboards]) ?_
        · exact fun he => (nomatch he)
        · exact fun hc => (nomatch hc)
        · intro b hb
          obtain ⟨k, -, rfl⟩ := List.mem_map.mp hb
          exact ⟨rfl, rfl⟩
  next => exact h

/-- R24: a nest that may be unloaded has no board bound. -/
theorem State.Custody.unbound_of_unload (h : s.Custody) {n : Nest} (hst : (s.nest n).state ≠ .empty)
    (hmay : ¬((s.nest n).state = .loaded ∧ (s.nest n).mayUnload = false)) : ∀ b ∈ (s.nest n).boards, b.picker = none := by
  intro b hb
  cases hs : (s.nest n).state with
  | empty => exact absurd hs hst
  | loaded =>
    have hok : (s.nest n).mayUnload = true := by simpa [hs] using hmay
    simp only [NestRec.mayUnload, Bool.and_eq_true, Bool.not_eq_true', List.any_eq_false] at hok
    have := hok.1 b hb
    simp only [Bool.or_eq_true, not_or, Bool.not_eq_true, Option.isSome_eq_false_iff, Option.isNone_iff_eq_none] at this
    exact this.2
  | cleared =>
    obtain ⟨j, hj⟩ := List.mem_iff_getElem?.mp hb
    exact (h.boards { nest := n, board := j } b hj).2.1 (.inr (List.all_eq_true.mp ((h.nests n).2 hs) b hb))

theorem requestNestUnload_custody (h : s.Custody) (p : Payload) : (requestNestUnload p s).1.Custody := by
  unfold requestNestUnload
  split
  next => exact h
  next n _ =>
    dsimp only
    split
    next => exact h
    next hst =>
      split
      next => exact h
      next hmay =>
        have hrecipe := h.of_touches (touches_modRecipe s (s.nest n).slot fun x => { x with useCount := x.useCount - 1 }) rfl
        exact hrecipe.setNest_free ⟨fun _ => ⟨rfl, rfl, rfl⟩, fun hc => (nomatch hc)⟩ (h.unbound_of_unload hst hmay)
          (List.forall_mem_nil _)

theorem requestNestClear_custody (h : s.Custody) (p : Payload) : (requestNestClear p s).1.Custody := by
  unfold requestNestClear
  split
  next => exact h
  next n _ =>
    split
    next => exact h
    next =>
      split
      next => exact h.setNest (n := n) ⟨fun he => ⟨((h.nests n).1 he).1, ((h.nests n).1 he).2.1, rfl⟩, (h.nests n).2⟩ rfl
      next => exact h

theorem requestPickerClear_custody (h : s.Custody) (p : Payload) : (requestPickerClear p s).1.Custody := by
  unfold requestPickerClear
  split
  next => exact h
  next q _ =>
    dsimp only
    split
    next hk =>
      split
      next =>
        have hnone := (h.pickers q).2.1 (.inr (.inr hk))
        refine h.setPicker_free ?_ hnone hnone
        have hjaw := (h.pickers q).2.2.2.1
        simp only [hk, reduceCtorEq, or_self, false_iff] at hjaw
        simp [Picker.Ok, Picker.enter, hnone, hjaw]
      next => exact h
    next => exact h
    next => exact h

/-- No picker is bound, and both nests are empty. -/
theorem State.custody_cleared (hp : ∀ p, s.picker p = Picker.cleared) (hn : ∀ n, s.nest n = NestRec.cleared) : s.Custody := by
  refine ⟨fun p => ?_, fun p r hr => ?_, fun n => ?_, fun r b hb => ?_⟩
  · rw [hp]
    simp [Picker.Ok, Picker.cleared]
  · rw [hp] at hr
    cases hr
  · rw [hn]
    exact ⟨fun _ => ⟨rfl, rfl, rfl⟩, fun hc => (nomatch hc)⟩
  · rw [State.boardAt, hn] at hb
    cases hb

theorem powerOnValues_custody (straps : Station) (pins : Pins) : (powerOnValues straps pins s).Custody :=
  State.custody_cleared (fun p => by fin_cases p <;> rfl) fun n => by cases n <;> rfl

theorem linkReset_custody : (linkReset s).Custody :=
  State.custody_cleared (fun p => by fin_cases p <;> rfl) fun n => by cases n <;> rfl

end Requests

section Exec
variable {s t : State} {c : Instr}

theorem exec_custody (h : s.Custody) (hx : exec c s = .next t) : t.Custody := by
  have hP := custody_dependsOn
  by_cases hc : Part.apart [.nests, .pickers] (footprint c) = true
  · exact (touches_of_exec hx).keeps hP h hc
  · cases c with
    | cut w => exact Host.Outcome.next.inj hx ▸ walkGated_keeps hP rfl h (judgeCut_custody h)
    | grip w => exact Host.Outcome.next.inj hx ▸ walkGated_keeps hP rfl h (judgeGrip_custody h)
    | openJaws w => exact Host.Outcome.next.inj hx ▸ walkGated_keeps hP rfl h (judgeOpen_custody h)
    | lift w => exact Host.Outcome.next.inj hx ▸ walkGated_keeps hP rfl h (judgeLift_custody h)
    | place w => exact Host.Outcome.next.inj hx ▸ walkGated_keeps hP rfl h (judgePlace_custody h)
    | cutDone w => exact Host.Outcome.next.inj hx ▸ walkReport_keeps hP rfl h (takeCutDone_custody h w)
    | gripState w => exact Host.Outcome.next.inj hx ▸ walkReport_keeps hP rfl h (takeGripState_custody h w)
    | tableState w => exact Host.Outcome.next.inj hx ▸ walkReport_keeps hP rfl h (takeTableState_custody h w)
    | bayState w =>
      exact Host.Outcome.next.inj hx ▸ walkReport_keeps hP rfl h fun _ _ => foldl_keeps (P := State.Custody) (fun _ id ht => bayReport_custody ht w.tag _ id) allBays h
    | placeDone w => exact Host.Outcome.next.inj hx ▸ walkReport_keeps hP rfl h (takePlaceDone_custody h w)
    | cutTimerExpiry i => exact Host.Outcome.next.inj hx ▸ expire_keeps hP rfl h fun _ ht => cutTimedOut_custody ht i
    | jawTimerExpiry p => exact Host.Outcome.next.inj hx ▸ expire_keeps hP rfl h fun _ ht => jawExpired_custody ht p
    | nestLoad w => exact Host.Outcome.next.inj hx ▸ walkRequest_keeps hP rfl h (requestNestLoad_custody h w.payload)
    | nestUnload w => exact Host.Outcome.next.inj hx ▸ walkRequest_keeps hP rfl h (requestNestUnload_custody h w.payload)
    | nestClear w => exact Host.Outcome.next.inj hx ▸ walkRequest_keeps hP rfl h (requestNestClear_custody h w.payload)
    | pickerClear w => exact Host.Outcome.next.inj hx ▸ walkRequest_keeps hP rfl h (requestPickerClear_custody h w.payload)
    | placeTimerExpiry n j =>
      obtain rfl := Host.Outcome.next.inj hx
      split
      next x _ => exact expire_keeps hP rfl h fun _ ht => ht.endPlacement 0 x .timeout
      next => exact h
    | powerOnReset a => exact Host.Outcome.next.inj hx ▸ powerOnValues_custody a _
    | pinReset a =>
      obtain rfl := Host.Outcome.next.inj hx
      exact (powerOnValues_custody (s := s) a { s.pins with nreset := false }).of_touches (F := [.lanes, .cuts]) (.of_take rfl rfl) rfl
    | reset w => exact Host.Outcome.next.inj hx ▸ walkRequest_keeps hP rfl h linkReset_custody
    | _ => exact absurd rfl hc

end Exec

end Sys2Proof.Machine

/-! The tab records, the lanes bound to them, and the uncut counts (R18, R19, R36): what the operations on nests keep of their agreement. -/

namespace Sys2Proof.Machine

/-- R18, R19, R36: the tabs, and the boards they hold, agree with lanes that are bound as `c` says. -/
structure State.TabsAgree (c : LaneId → Option (Nest × Nat)) (s : State) : Prop where
  bound : ∀ i n j, c i = some (n, j) → ∃ t, (s.nest n).tabs[j]? = some t ∧ t.state = .cutting ∧ t.lane = some i
  tabs : ∀ n j t, (s.nest n).tabs[j]? = some t →
    (t.state = .cutting ↔ t.lane.isSome = true) ∧ t.board < (s.nest n).boards.length ∧ ∀ i, t.lane = some i → c i = some (n, j)
  boards : ∀ r b, s.boardAt r = some b → (s.nest r.nest).BoardCount r.board b

/-- R36: the tabs the lanes are bound to. -/
def State.cutTabs (s : State) (i : LaneId) : Option (Nest × Nat) := (s.lane i).cutTab

section Forms
variable {s : State}

theorem State.bothNests_tabs_iff {P : Nest → Nat → TabRec → Prop} :
    (BothNests fun n => ∀ t : Fin (s.nest n).tabs.length, P n t (s.nest n).tabs[t]) ↔
      ∀ n j t, (s.nest n).tabs[j]? = some t → P n j t := by
  have key (n : Nest) : (∀ t : Fin (s.nest n).tabs.length, P n t (s.nest n).tabs[t]) ↔
      ∀ j t, (s.nest n).tabs[j]? = some t → P n j t := by
    constructor
    · intro h j t ht
      obtain ⟨hj, rfl⟩ := List.getElem?_eq_some_iff.mp ht
      exact h ⟨j, hj⟩
    · intro h j
      exact h j _ (List.getElem?_eq_getElem j.isLt)
  constructor
  · intro h n
    cases n
    · exact (key .a).mp h.1
    · exact (key .b).mp h.2
  · exact fun h => ⟨(key .a).mpr (h .a), (key .b).mpr (h .b)⟩

theorem State.tabsAgree_iff : s.TabsAgree s.cutTabs ↔ s.CutInv := by
  have hcut (i : LaneId) (n : Nest) (j : Nat) : s.cutTabs i = some (n, j) ↔ ∃ b, (s.lane i).binding = some b ∧ b.nest = n ∧ b.tab = j := by
    simp [State.cutTabs, Lane.cutTab, Option.map_eq_some_iff]
  have htab (i : LaneId) (n : Nest) (j : Nat) :
      (((s.nest n).tabs[j]?).map fun t => (t.state, t.lane)) = some (.cutting, some i) ↔
        ∃ t, (s.nest n).tabs[j]? = some t ∧ t.state = .cutting ∧ t.lane = some i := by
    simp [Option.map_eq_some_iff]
  constructor
  · intro h
    have htabs := State.bothNests_tabs_iff.mpr h.tabs
    have hboards := State.bothNests_boards_iff.mpr h.boards
    refine ⟨fun i b hb => ?_, ⟨htabs.1, hboards.1⟩, htabs.2, hboards.2⟩
    exact (htab ..).mpr (h.bound i b.nest b.tab ((hcut ..).mpr ⟨b, hb, rfl, rfl⟩))
  · intro ⟨hbound, ⟨hta, hba⟩, htb, hbb⟩
    refine ⟨fun i n j hc => ?_, State.bothNests_tabs_iff.mp ⟨hta, htb⟩, State.bothNests_boards_iff.mp ⟨hba, hbb⟩⟩
    obtain ⟨b, hb, rfl, rfl⟩ := (hcut ..).mp hc
    exact (htab ..).mp (hbound i b hb)

theorem tabsAgree_dependsOn (c : LaneId → Option (Nest × Nat)) : DependsOn [.nests] (State.TabsAgree c) := by
  intro s t h hs
  have hnests : t.nests = s.nests := h .nests (by simp)
  have hnest (n : Nest) : t.nest n = s.nest n := by simp only [State.nest, hnests]
  obtain ⟨h1, h2, h3⟩ := hs
  refine ⟨fun i n j hc => by rw [hnest]; exact h1 i n j hc, fun n j x hx => ?_, fun r b hb => ?_⟩
  · rw [hnest] at hx ⊢
    exact h2 n j x hx
  · rw [State.boardAt, hnest] at hb
    rw [hnest]
    exact h3 r b hb

end Forms

/-! ### The uncut count of one board -/

theorem countP_change {l : List Nat} (hl : l.Nodup) {p q : Nat → Bool} {j : Nat} (h : ∀ i, i ≠ j → q i = p i) :
    l.countP q + (if j ∈ l then (p j).toNat else 0) = l.countP p + (if j ∈ l then (q j).toNat else 0) := by
  induction l with
  | nil => rfl
  | cons x l ih =>
    obtain ⟨hx, hl⟩ := List.nodup_cons.mp hl
    have hrest := ih hl
    by_cases hxj : x = j
    · subst hxj
      simp only [hx, if_false, Nat.add_zero] at hrest
      simp only [List.countP_cons, List.mem_cons, true_or, if_true, hrest]
      cases p x <;> cases q x <;> simp
    · have hne : j ≠ x := fun he => hxj he.symm
      simp only [List.countP_cons, List.mem_cons, hne, false_or, h x hxj]
      omega

theorem NestRec.BoardCount.nodup {r : NestRec} {k : Nat} {b : BoardRec} (h : r.BoardCount k b) : b.tabs.Nodup :=
  h.1 ▸ List.nodup_range.filter _

theorem NestRec.BoardCount.mem_tabs {r : NestRec} {k j : Nat} {b : BoardRec} {t : TabRec} (h : r.BoardCount k b)
    (ht : r.tabs[j]? = some t) : j ∈ b.tabs ↔ t.board = k := by
  obtain ⟨hj, ht⟩ := List.getElem?_eq_some_iff.mp ht
  rw [h.1, List.mem_filter, List.mem_range]
  simp [hj, ht]

/-- R18: a tab that holds its board counts. -/
theorem NestRec.BoardCount.uncut_pos {r : NestRec} {k j : Nat} {b : BoardRec} {t : TabRec} (h : r.BoardCount k b)
    (ht : r.tabs[j]? = some t) (hk : t.board = k) (hh : t.holds = true) : 1 ≤ b.uncut := by
  rw [h.2.1]
  exact List.countP_pos_iff.mpr ⟨j, (h.mem_tabs ht).mpr hk, by simpa [ht] using hh⟩

/-- R40, R47, R49: one tab changes, and the count of its board with it. -/
theorem NestRec.BoardCount.modifyTab {r r' : NestRec} {k j : Nat} {b b' : BoardRec} {t : TabRec} {g : TabRec → TabRec}
    (h : r.BoardCount k b) (ht : r.tabs[j]? = some t) (hg : ∀ t, (g t).board = t.board) (hr' : r'.tabs = r.tabs.modify j g)
    (htabs : b'.tabs = b.tabs) (hsame : t.board = k → b'.uncut + t.holds.toNat = b.uncut + (g t).holds.toNat)
    (hother : t.board ≠ k → b'.uncut = b.uncut)
    (hoff : b'.state ≠ .attached ∧ b'.state ≠ .held → (b.state ≠ .attached ∧ b.state ≠ .held) ∧ (t.board = k → (g t).state = .cut)) :
    r'.BoardCount k b' := by
  have hget (i : Nat) : r'.tabs[i]? = if j = i then some (g t) else r.tabs[i]? := by
    rw [hr', List.getElem?_modify]
    split
    next hij => rw [← hij, ht]; rfl
    next => cases r.tabs[i]? <;> rfl
  have hboard (i : Nat) : (r'.tabs[i]?).map TabRec.board = (r.tabs[i]?).map TabRec.board := by
    rw [hget]
    split
    next hij => rw [← hij, ht, Option.map_some, Option.map_some, hg]
    next => rfl
  have hmem := h.mem_tabs ht
  refine ⟨?_, ?_, fun hst => ?_⟩
  · rw [htabs, h.1, hr', List.length_modify, ← hr']
    exact List.filter_congr fun i _ => by rw [hboard]
  · rw [htabs]
    have hcount := countP_change h.nodup (p := fun i => (r.tabs[i]?).any TabRec.holds) (q := fun i => (r'.tabs[i]?).any TabRec.holds)
      (j := j) fun i hij => by simp only [hget, if_neg (Ne.symm hij)]
    simp only [hget, ht, if_true, Option.any_some, hmem] at hcount
    have hold := h.2.1
    by_cases hk : t.board = k
    · have := hsame hk
      simp only [hk, if_true] at hcount
      simp only [hget]
      omega
    · have := hother hk
      simp only [hk, if_false, Nat.add_zero] at hcount
      simp only [hget]
      omega
  · obtain ⟨hb, hcut⟩ := hoff hst
    refine List.all_eq_true.mpr fun i hi => ?_
    rw [htabs] at hi
    have hall := List.all_eq_true.mp (h.2.2 hb) i hi
    rw [hget]
    split
    next hij =>
      subst hij
      simp [hcut (hmem.mp hi)]
    next => exact hall

/-! ### The operations -/

section Ops
variable {s : State} {c : LaneId → Option (Nest × Nat)} {r : BoardRef}

theorem State.TabsAgree.of_touches {F : List Part} {t : State} (hs : s.TabsAgree c) (h : Touches F s t)
    (hF : Part.apart [.nests] F = true) : t.TabsAgree c := h.keeps (tabsAgree_dependsOn c) hs hF

theorem State.TabsAgree.post (h : s.TabsAgree c) (tag : Half) (n : Notice) : (post tag n s).TabsAgree c :=
  h.of_touches (touches_post s tag n) rfl

theorem State.tabs_modBoard (r : BoardRef) (f : BoardRec → BoardRec) (n : Nest) :
    ((modBoard r f s).nest n).tabs = (s.nest n).tabs := by
  rw [modBoard_eq, nest_setNest]
  split
  next h => rw [h]
  next => rfl

theorem State.length_boards_modBoard (r : BoardRef) (f : BoardRec → BoardRec) (n : Nest) :
    ((modBoard r f s).nest n).boards.length = (s.nest n).boards.length := by
  rw [modBoard_eq, nest_setNest]
  split
  next h => rw [List.length_modify, h]
  next => rfl

/-- A board that keeps its count, and does not come off the frame. -/
theorem State.TabsAgree.modBoard (h : s.TabsAgree c) {f : BoardRec → BoardRec}
    (hf : ∀ b, s.boardAt r = some b → (f b).tabs = b.tabs ∧ (f b).uncut = b.uncut ∧
      ((f b).state ≠ .attached ∧ (f b).state ≠ .held → (b.state ≠ .attached ∧ b.state ≠ .held) ∨ (s.nest r.nest).allCut b = true)) :
    (modBoard r f s).TabsAgree c := by
  refine ⟨fun i n j hc => ?_, fun n j t ht => ?_, fun r' b' hb' => ?_⟩
  · rw [State.tabs_modBoard]
    exact h.bound i n j hc
  · rw [State.tabs_modBoard] at ht
    rw [State.length_boards_modBoard]
    exact h.tabs n j t ht
  · have hcount (k : Nat) (b : BoardRec) (n : Nest) (hb : (s.nest n).BoardCount k b) : ((Machine.modBoard r f s).nest n).BoardCount k b := by
      simpa only [NestRec.BoardCount, NestRec.allCut, State.tabs_modBoard] using hb
    rw [State.boardAt_modBoard] at hb'
    split at hb'
    next heq =>
      subst heq
      obtain ⟨b, hb, rfl⟩ := Option.map_eq_some_iff.mp hb'
      obtain ⟨htabs, huncut, hst⟩ := hf b hb
      obtain ⟨h1, h2, h3⟩ := hcount _ _ _ (h.boards r b hb)
      refine ⟨htabs.trans h1, ?_, fun hoff => ?_⟩
      · rw [huncut, htabs]
        exact h2
      · rw [NestRec.allCut, htabs]
        rcases hst hoff with hb | hall
        · exact h3 hb
        · rwa [← NestRec.allCut, NestRec.allCut, State.tabs_modBoard]
    next => exact hcount _ _ _ (h.boards r' b' hb')

/-- A nest record with the same boards and tabs. -/
theorem State.TabsAgree.setNest (h : s.TabsAgree c) {n : Nest} {x : NestRec} (hb : x.boards = (s.nest n).boards)
    (ht : x.tabs = (s.nest n).tabs) : (setNest n x s).TabsAgree c := by
  have hboards (m : Nest) : ((Machine.setNest n x s).nest m).boards = (s.nest m).boards := by
    rw [nest_setNest]
    split
    next hnm => rw [← hnm, hb]
    next => rfl
  have htabs (m : Nest) : ((Machine.setNest n x s).nest m).tabs = (s.nest m).tabs := by
    rw [nest_setNest]
    split
    next hnm => rw [← hnm, ht]
    next => rfl
  refine ⟨fun i m j hc => ?_, fun m j t hm => ?_, fun r b hr => ?_⟩
  · rw [htabs]
    exact h.bound i m j hc
  · rw [htabs] at hm
    rw [hboards]
    exact h.tabs m j t hm
  · rw [State.boardAt, hboards] at hr
    have := h.boards r b hr
    simpa only [NestRec.BoardCount, NestRec.allCut, htabs] using this

theorem State.TabsAgree.settleNest (h : s.TabsAgree c) (tag : Half) (n : Nest) : (settleNest tag n s).TabsAgree c := by
  unfold Machine.settleNest
  dsimp only
  split
  next => exact (h.setNest (n := n) (x := { s.nest n with state := .cleared }) rfl rfl).post tag _
  next => exact h

/-- A board whose fields outside the pairing with its tabs change, and which was or is on the frame. -/
theorem State.TabsAgree.modBoard_frame (h : s.TabsAgree c) {f : BoardRec → BoardRec}
    (hf : ∀ b, (f b).tabs = b.tabs ∧ (f b).uncut = b.uncut ∧ ((f b).state = b.state ∨ (f b).state = .attached ∨ (f b).state = .held ∨
      (b.state ≠ .attached ∧ b.state ≠ .held))) : (Machine.modBoard r f s).TabsAgree c := by
  refine h.modBoard fun b _ => ?_
  obtain ⟨htabs, huncut, hst⟩ := hf b
  refine ⟨htabs, huncut, fun hoff => .inl ?_⟩
  rcases hst with hst | hst | hst | hst
  · rwa [← hst]
  · exact absurd hst hoff.1
  · exact absurd hst hoff.2
  · exact hst

theorem State.tabs_modTab (n m : Nest) (j : Nat) (g : TabRec → TabRec) :
    ((modTab n j g s).nest m).tabs = if n = m then (s.nest m).tabs.modify j g else (s.nest m).tabs := by
  rw [modTab_eq, nest_setNest]
  split
  next h => rw [h]
  next => rfl

/-- R43, R47, R49: a tab comes to be bound to a lane, or ends its binding, and the count of its board follows. -/
theorem State.TabsAgree.turnTab (h : s.TabsAgree c) {c' : LaneId → Option (Nest × Nat)} {i : LaneId} {n : Nest} {j : Nat} {t : TabRec}
    {g : TabRec → TabRec} {f : BoardRec → BoardRec} (ht : (s.nest n).tabs[j]? = some t) (hg : ∀ t, (g t).board = t.board)
    (hc' : ∀ k, k ≠ i → c' k = c k) (hfree : t.lane = none ∨ t.lane = some i) (hci : ∀ m k, c i = some (m, k) → m = n ∧ k = j)
    (hnew : c' i = some (n, j) ∧ (g t).state = .cutting ∧ (g t).lane = some i ∨ c' i = none ∧ (g t).state ≠ .cutting ∧ (g t).lane = none)
    (hf : ∀ b, s.boardAt { nest := n, board := t.board } = some b →
      (f b).tabs = b.tabs ∧ (f b).uncut + t.holds.toNat = b.uncut + (g t).holds.toNat ∧ (f b).state = b.state ∧
        (b.state ≠ .attached ∧ b.state ≠ .held → (g t).state = .cut)) :
    (Machine.modBoard { nest := n, board := t.board } f (modTab n j g s)).TabsAgree c' := by
  have hget (m : Nest) (k : Nat) : ((Machine.modBoard { nest := n, board := t.board } f (modTab n j g s)).nest m).tabs[k]? =
      if n = m ∧ j = k then some (g t) else (s.nest m).tabs[k]? := by
    rw [State.tabs_modBoard, State.tabs_modTab]
    by_cases hnm : n = m
    · subst hnm
      rw [if_pos rfl, List.getElem?_modify]
      by_cases hjk : j = k
      · subst hjk
        rw [if_pos ⟨rfl, rfl⟩, ht]
        simp
      · rw [if_neg (fun hh => hjk hh.2)]
        simp [hjk]
    · rw [if_neg hnm, if_neg (fun hh => hnm hh.1)]
  have hlen (m : Nest) : ((Machine.modBoard { nest := n, board := t.board } f (modTab n j g s)).nest m).boards.length =
      (s.nest m).boards.length := by
    rw [State.length_boards_modBoard, modTab_eq, nest_setNest]
    split
    next hnm => rw [hnm]
    next => rfl
  obtain ⟨hstate, hboard, hlane⟩ := h.tabs n j t ht
  refine ⟨fun k m l hc => ?_, fun m k x hx => ?_, fun r' b' hb' => ?_⟩
  · by_cases hk : k = i
    · subst hk
      rcases hnew with ⟨hsome, hcut, hl⟩ | ⟨hnone, -, -⟩
      · obtain ⟨rfl, rfl⟩ : n = m ∧ j = l := by simpa [hsome] using hc
        exact ⟨g t, by rw [hget, if_pos ⟨rfl, rfl⟩], hcut, hl⟩
      · rw [hnone] at hc
        cases hc
    · rw [hc' k hk] at hc
      obtain ⟨x, hx, hcut, hl⟩ := h.bound k m l hc
      refine ⟨x, ?_, hcut, hl⟩
      rw [hget, if_neg]
      · exact hx
      · rintro ⟨rfl, rfl⟩
        obtain rfl := Option.some.inj (ht.symm.trans hx)
        rcases hfree with hfree | hfree
        · rw [hfree] at hl
          cases hl
        · exact hk (Option.some.inj (hl.symm.trans hfree))
  · rw [hget] at hx
    rw [hlen]
    split at hx
    next hmk =>
      obtain ⟨rfl, rfl⟩ := hmk
      obtain rfl := Option.some.inj hx
      rw [hg]
      refine ⟨?_, hboard, fun k hk => ?_⟩
      · rcases hnew with ⟨-, hcut, hl⟩ | ⟨-, hcut, hl⟩
        · simp [hcut, hl]
        · simp [hcut, hl]
      · rcases hnew with ⟨hsome, -, hl⟩ | ⟨-, -, hl⟩
        · rw [← Option.some.inj (hl.symm.trans hk)]
          exact hsome
        · rw [hl] at hk
          cases hk
    next hmk =>
      obtain ⟨h1, h2, h3⟩ := h.tabs m k x hx
      refine ⟨h1, h2, fun l hl => ?_⟩
      by_cases hli : l = i
      · subst hli
        obtain ⟨rfl, rfl⟩ := hci m k (h3 l hl)
        exact absurd ⟨rfl, rfl⟩ hmk
      · rw [hc' l hli]
        exact h3 l hl
  · have hold (r : BoardRef) : (modTab n j g s).boardAt r = s.boardAt r := State.boardAt_modTab ..
    simp only [State.boardAt_modBoard, hold] at hb'
    by_cases hn : n = r'.nest
    · have htabs : ((Machine.modBoard { nest := n, board := t.board } f (modTab n j g s)).nest r'.nest).tabs =
          (s.nest r'.nest).tabs.modify j g := by
        rw [State.tabs_modBoard, State.tabs_modTab, if_pos hn]
      have ht' : (s.nest r'.nest).tabs[j]? = some t := hn ▸ ht
      by_cases hk : t.board = r'.board
      · have hr' : ({ nest := n, board := t.board } : BoardRef) = r' := by
          cases r'
          simp_all
        rw [if_pos hr'] at hb'
        subst hr'
        obtain ⟨b, hb, rfl⟩ := Option.map_eq_some_iff.mp hb'
        obtain ⟨h1, h2, h3, h4⟩ := hf b hb
        exact (h.boards _ b hb).modifyTab ht' hg htabs h1 (fun _ => h2) (fun hne => absurd rfl hne)
          fun hoff => ⟨by rwa [← h3], fun _ => h4 (by rwa [← h3])⟩
      · rw [if_neg (fun hr => hk (by rw [← hr]))] at hb'
        exact (h.boards r' b' hb').modifyTab ht' hg htabs rfl (fun he => absurd he hk) (fun _ => rfl)
          fun hoff => ⟨hoff, fun he => absurd he hk⟩
    · rw [if_neg (fun hr => hn (by rw [← hr]))] at hb'
      have hnest : (Machine.modBoard { nest := n, board := t.board } f (modTab n j g s)).nest r'.nest = s.nest r'.nest := by
        rw [modBoard_eq, nest_setNest, if_neg hn, modTab_eq, nest_setNest, if_neg hn]
      rw [hnest]
      exact h.boards r' b' hb'

end Ops

end Sys2Proof.Machine

/-! Every command keeps the tabs, the lanes bound to them and the uncut counts in agreement (R18, R19, R36), which completes O59. -/

namespace Sys2Proof.Machine

/-- R18, R19, R36: the tabs and boards agree with the bindings of the lanes. -/
def State.CutsAgree (s : State) : Prop := s.TabsAgree s.cutTabs

section Basics
variable {s t : State} {c : LaneId → Option (Nest × Nat)}

theorem State.cutsAgree_iff : s.CutsAgree ↔ s.CutInv := State.tabsAgree_iff

theorem Touches.cutTabs {F : List Part} (h : Touches F s t) (hF : Part.apart [.cuts] F = true) : t.cutTabs = s.cutTabs :=
  funext (h.at .cuts hF)

theorem cutsAgree_dependsOn : DependsOn [.nests, .cuts] State.CutsAgree := by
  intro s t h hs
  have hcuts : t.cutTabs = s.cutTabs := funext (h .cuts (by simp))
  rw [State.CutsAgree, hcuts]
  exact tabsAgree_dependsOn _ s t (fun p hp => h p (by simp_all)) hs

/-- A lane that is not CUTTING is bound to no tab. -/
theorem Lane.Good.cutTab_none {l : Lane} (h : l.Good) (hs : l.state ≠ .cutting) : l.cutTab = none := by
  obtain ⟨hok, -, -⟩ := h
  have hnone : l.binding = none := by simpa using mt hok.1.mpr hs
  simp [Lane.cutTab, hnone]

end Basics

/-! ### The admission of a CUT -/

section Admission
variable {s : State} {i : LaneId}

/-- R39 to R41: what the nine checks of an admitted CUT found. -/
theorem checkTab_admits {r : NestRec} {n : Nest} {tab : Nat} {t : CutTarget} (h : checkTab r n tab = .ok t) :
    t.nest = n ∧ r.tabs[tab]? = some t.tab ∧ (t.tab.state = .intact ∨ t.tab.state = .faulted) ∧
      r.boards[t.tab.board]? = some t.board ∧ (t.board.state = .attached ∨ t.board.state = .held) ∧ holdRule t.board = true := by
  unfold checkTab at h
  split at h
  next => cases h
  next x hx =>
    obtain ⟨hst, h⟩ := guard_eq_ok.mp h
    split at h
    next => cases h
    next b hb =>
      obtain ⟨hbst, h⟩ := guard_eq_ok.mp h
      obtain ⟨hrule, h⟩ := guard_eq_ok.mp h
      cases h
      refine ⟨rfl, hx, ?_, hb, ?_, by simpa using hrule⟩
      · simpa [imp_iff_not_or] using hst
      · simpa [imp_iff_not_or] using hbst

theorem checkCut_admits {p : Payload} {t : CutTarget} (h : checkCut s i p = .ok t) :
    checkLane s (s.lane i) = none ∧ (s.nest t.nest).state = .loaded ∧ checkTab (s.nest t.nest) t.nest (Operand.index p) = .ok t := by
  unfold checkCut at h
  split at h
  next => cases h
  next hl =>
    refine ⟨hl, ?_⟩
    unfold checkNest at h
    split at h
    next => cases h
    next n _ =>
      simp only [guard_eq_ok] at h
      obtain ⟨hloaded, -, -, h⟩ := h
      obtain ⟨rfl, -⟩ := checkTab_ok h
      exact ⟨not_not.mp hloaded, h⟩

theorem State.TabsAgree.admitCut (h : s.CutsAgree) {t : CutTarget} {tab : Nat} (hfree : s.cutTabs i = none)
    (ht : checkTab (s.nest t.nest) t.nest tab = .ok t) (feed : Nat) (path cycle : Half) :
    (admitCut i t tab feed path cycle s).CutsAgree := by
  obtain ⟨-, htab, hst, hb, hbst, -⟩ := checkTab_admits ht
  have hunbound : t.tab.lane = none := by
    have := (h.tabs _ _ _ htab).1
    rcases hst with hst | hst <;> simpa [hst] using this
  have hholds : t.tab.holds = true := by
    rcases hst with hst | hst <;> simp [TabRec.holds, hst]
  have hcuts : (Machine.admitCut i t tab feed path cycle s).cutTabs = fun k => if k = i then some (t.nest, tab) else s.cutTabs k := by
    funext k
    unfold State.cutTabs Machine.admitCut
    dsimp only
    rw [modLane_eq, lane_setLane]
    by_cases hk : i = k
    · rw [if_pos hk, if_pos hk.symm]
      rfl
    · rw [if_neg hk, if_neg (Ne.symm hk)]
      rfl
  unfold State.CutsAgree
  rw [hcuts]
  unfold Machine.admitCut
  refine State.TabsAgree.of_touches (F := [.lanes, .cuts]) ?_ (.of_take rfl rfl) rfl
  refine h.turnTab (i := i) htab (fun _ => rfl) (fun k hk => if_neg hk) (.inl hunbound) (by simp [hfree])
    (.inl ⟨if_pos rfl, rfl, rfl⟩) fun b hb' => ⟨rfl, ?_, rfl, fun hoff => ?_⟩
  · have hpos := (h.boards _ b hb').uncut_pos htab rfl hholds
    change b.uncut - 1 + t.tab.holds.toNat = b.uncut + 0
    rw [hholds, Bool.toNat_true]
    omega
  · have hb'' : (s.nest t.nest).boards[t.tab.board]? = some b := hb'
    obtain rfl := Option.some.inj (hb.symm.trans hb'')
    rcases hbst with hbst | hbst
    · exact absurd hbst hoff.1
    · exact absurd hbst hoff.2

theorem judgeCut_cutsAgree (hl : s.LaneInv) (h : s.CutsAgree) (cycle : Half) (it : Item) (i : LaneId) :
    (judgeCut cycle it i s).state.CutsAgree := by
  unfold judgeCut
  dsimp only
  split
  next => exact h
  next t ht =>
    obtain ⟨hlane, -, hcheck⟩ := checkCut_admits ht
    have hready := checkLane_eq_none hlane
    exact State.TabsAgree.admitCut h (Lane.Good.cutTab_none (hl i) (by simp [hready])) hcheck ..

end Admission

/-! ### The end of a cut -/

section Ends
variable {s u : State} {c : LaneId → Option (Nest × Nat)} {i : LaneId} {n : Nest} {j : Nat} {r : BoardRef}

/-- R36: the tabs the lanes are bound to once a lane's cut has ended. -/
def cutEnded (i : LaneId) (c : LaneId → Option (Nest × Nat)) (k : LaneId) : Option (Nest × Nat) := if k = i then none else c k

theorem Lane.endCut_cutTab (now : Nat) (matched : Bool) (l : Lane) : (l.endCut now matched).cutTab = none := by
  unfold Lane.endCut
  dsimp only
  split
  · exact Lane.toReady_cutTab _
  · exact Lane.placeByCauses_cutTab _ _

/-- R52: the lane's record follows the tab's. -/
theorem State.TabsAgree.endCut (h : u.TabsAgree (cutEnded i u.cutTabs)) (matched : Bool) : (endCut i matched u).CutsAgree := by
  have hcuts : (Machine.endCut i matched u).cutTabs = cutEnded i u.cutTabs := by
    funext k
    unfold State.cutTabs Machine.endCut cutEnded
    rw [modLane_eq, lane_setLane]
    by_cases hk : i = k
    · rw [if_pos hk, if_pos hk.symm]
      exact Lane.endCut_cutTab ..
    · rw [if_neg hk, if_neg (Ne.symm hk)]
  unfold State.CutsAgree
  rw [hcuts]
  exact h.of_touches (F := [.lanes, .cuts]) (touches_endCut u i matched) rfl

theorem State.boardOfTab_eq {t : TabRec} (ht : (s.nest n).tabs[j]? = some t) : s.boardOfTab n j = { nest := n, board := t.board } := by
  simp [State.boardOfTab, ht]

/-- R47: the tab is CUT. -/
theorem State.TabsAgree.cutTab (h : s.TabsAgree c) (hc : c i = some (n, j)) (cycle : Half) :
    (modTab n j (fun t => { t with state := .cut, lane := none, cutAt := some cycle }) s).TabsAgree (cutEnded i c) := by
  obtain ⟨t, ht, hst, hl⟩ := h.bound i n j hc
  rw [← modBoard_id { nest := n, board := t.board } (modTab _ _ _ _)]
  exact h.turnTab ht (fun _ => rfl) (fun k hk => if_neg hk) (.inr hl) (fun m k hk => by simpa [eq_comm] using hc.symm.trans hk)
    (.inr ⟨if_pos rfl, by simp, rfl⟩) fun b _ => ⟨rfl, by simp [TabRec.holds, hst], rfl, fun _ => rfl⟩

/-- R49, R50, R54: the tab is FAULTED and counts again. -/
theorem State.TabsAgree.faultTab (h : s.TabsAgree c) (hc : c i = some (n, j)) (countIt : Bool) :
    (faultTab n j countIt s).TabsAgree (cutEnded i c) := by
  obtain ⟨t, ht, hst, hl⟩ := h.bound i n j hc
  unfold Machine.faultTab
  rw [State.boardOfTab_eq ht]
  refine h.turnTab ht (fun _ => rfl) (fun k hk => if_neg hk) (.inr hl) (fun m k hk => by simpa [eq_comm] using hc.symm.trans hk)
    (.inr ⟨if_pos rfl, by simp, rfl⟩) fun b hb => ⟨rfl, by simp [TabRec.holds, hst], rfl, fun hoff => ?_⟩
  have hcount := h.boards _ b hb
  have := List.all_eq_true.mp (hcount.2.2 hoff) j ((hcount.mem_tabs ht).mpr rfl)
  simp [ht, hst] at this

theorem State.TabsAgree.markSuspect (h : s.TabsAgree c) (r : BoardRef) (yes : Bool) : (markSuspect r yes s).TabsAgree c := by
  unfold Machine.markSuspect
  split
  · exact h.modBoard_frame fun _ => ⟨rfl, rfl, .inl rfl⟩
  · exact h

theorem State.TabsAgree.unbind (h : s.TabsAgree c) (p : PickerId) : (unbind p s).TabsAgree c := by
  cases hr : (s.picker p).board with
  | none =>
    rw [unbind_unbound hr]
    exact h.of_touches (F := [.pickers]) (.of_take rfl rfl) rfl
  | some r =>
    rw [unbind_bound hr]
    exact State.TabsAgree.modBoard_frame (h.of_touches (F := [.pickers]) (.of_take rfl rfl) rfl) fun _ => ⟨rfl, rfl, .inl rfl⟩

/-- R61: unbinding leaves the tabs and the tab lists. -/
theorem unbind_tabs (p : PickerId) (s : State) (r : BoardRef) :
    ((unbind p s).nest r.nest).tabs = (s.nest r.nest).tabs ∧
      ((unbind p s).boardAt r).map BoardRec.tabs = (s.boardAt r).map BoardRec.tabs := by
  cases hr : (s.picker p).board with
  | none =>
    rw [unbind_unbound hr]
    exact ⟨rfl, rfl⟩
  | some r' =>
    rw [unbind_bound hr, State.tabs_modBoard, State.boardAt_modBoard]
    refine ⟨rfl, ?_⟩
    split
    next heq =>
      subst heq
      change Option.map BoardRec.tabs (Option.map _ (s.boardAt r')) = _
      cases s.boardAt r' <;> rfl
    next => rfl

/-- R48: a board comes off the frame with every tab CUT. -/
theorem State.TabsAgree.freeBoard (h : s.TabsAgree c) {b : BoardRec} (hb : s.boardAt r = some b)
    (hall : (s.nest r.nest).allCut b = true) (tag : Half) (tab : Nat) (i : LaneId) (cycle : Half) :
    (freeBoard tag r tab i cycle b s).TabsAgree c := by
  unfold Machine.freeBoard
  split
  next =>
    refine h.modBoard fun x hx => ⟨rfl, rfl, fun _ => .inr ?_⟩
    obtain rfl := Option.some.inj (hb.symm.trans hx)
    exact hall
  next =>
    have hdrop : (dropClosing b s).TabsAgree c ∧ ((dropClosing b s).nest r.nest).tabs = (s.nest r.nest).tabs ∧
        ((dropClosing b s).boardAt r).map BoardRec.tabs = (s.boardAt r).map BoardRec.tabs := by
      unfold dropClosing
      split
      next p _ =>
        split
        next => exact ⟨h.unbind p, unbind_tabs p s r⟩
        next => exact ⟨h, rfl, rfl⟩
      next => exact ⟨h, rfl, rfl⟩
    obtain ⟨hagree, htabs, hlist⟩ := hdrop
    refine State.TabsAgree.settleNest (State.TabsAgree.post (hagree.modBoard (r := r)
      (f := fun b => { b with state := .lost, freedAt := some cycle }) fun x hx => ⟨rfl, rfl, fun _ => .inr ?_⟩) tag _) tag _
    have hx' : x.tabs = b.tabs := by simpa [hx, hb] using hlist
    simpa only [NestRec.allCut, htabs, hx'] using hall
  next => exact h

theorem matchCut_some {l : Lane} {p : Payload} {b : Binding} {o : CutOutcome} (h : matchCut l p = some (b, o)) :
    l.cutTab = some (b.nest, b.tab) := by
  obtain ⟨-, hb, -⟩ := matchCut_eq_some.mp h
  simp [Lane.cutTab, hb]

theorem takeCutDone_cutsAgree (h : s.CutsAgree) (w : Wire) (i : LaneId) (cycle : Half) : (takeCutDone w i cycle s).CutsAgree := by
  have hwear := touches_rewear s w.tag .report i fun l =>
    { l with wear := min Config.wearMax (l.wear + wearIncrement (Operand.cutLength w.payload) (Operand.cutLoad w.payload)) }
  have hworn : (wearStep w.tag i w.payload s).TabsAgree (wearStep w.tag i w.payload s).cutTabs :=
    (hwear.cutTabs rfl : _ = s.cutTabs) ▸ State.TabsAgree.of_touches h hwear rfl
  unfold takeCutDone
  dsimp only
  generalize wearStep w.tag i w.payload s = u at hworn ⊢
  split
  next b hb =>
    have hcut := (hworn.cutTab (matchCut_some hb) cycle).markSuspect (u.boardOfTab b.nest b.tab) b.govAbort
    have hkeep : Touches [.nests, .pickers, .ret] u (markSuspect (u.boardOfTab b.nest b.tab) b.govAbort
        (modTab b.nest b.tab (fun t => { t with state := .cut, lane := none, cutAt := some cycle }) u)) :=
      ((touches_modTab u b.nest b.tab (by exact fun _ => rfl)).comp (touches_markSuspect _ _ _) rfl).mono rfl
    unfold cutComplete
    dsimp only
    generalize markSuspect (u.boardOfTab b.nest b.tab) b.govAbort
      (modTab b.nest b.tab (fun t => { t with state := .cut, lane := none, cutAt := some cycle }) u) = v at hcut hkeep ⊢
    refine State.TabsAgree.endCut ?_ true
    split
    next x hx =>
      split
      next hall =>
        rw [(hkeep.trans (touches_freeBoard v w.tag _ b.tab i cycle x)).cutTabs rfl]
        exact hcut.freeBoard hx hall w.tag b.tab i cycle
      next => exact (hkeep.cutTabs rfl : _ = u.cutTabs) ▸ hcut
    next => exact (hkeep.cutTabs rfl : _ = u.cutTabs) ▸ hcut
  next b hb =>
    refine State.TabsAgree.endCut ?_ true
    rw [((touches_faultTab u b.nest b.tab true).trans (touches_markSuspect _ (u.boardOfTab b.nest b.tab) b.govAbort)).cutTabs rfl]
    exact (hworn.faultTab (matchCut_some hb) true).markSuspect _ _
  next b hb =>
    refine State.TabsAgree.endCut ?_ true
    rw [(touches_raiseCause _ w.tag i .bitBroken).cutTabs rfl,
      ((touches_faultTab u b.nest b.tab false).trans (touches_markSuspect _ (u.boardOfTab b.nest b.tab) true)).cutTabs rfl]
    exact ((hworn.faultTab (matchCut_some hb) false).markSuspect _ _).of_touches (touches_raiseCause _ w.tag i .bitBroken) rfl
  next => exact cutsAgree_dependsOn _ _ (fun p hp => (touches_post u w.tag _).same p (by simp at hp ⊢; rintro rfl; simp at hp)) hworn

theorem cutTimedOut_cutsAgree (h : s.CutsAgree) (i : LaneId) : (cutTimedOut i s).CutsAgree := by
  unfold cutTimedOut
  split
  next => exact (touches_modLane s i _ (by rfl)).keeps cutsAgree_dependsOn h rfl
  next b hb =>
    have hc : s.cutTabs i = some (b.nest, b.tab) := by simp [State.cutTabs, Lane.cutTab, hb]
    refine State.TabsAgree.endCut ?_ false
    rw [(touches_giveAbort _ i).cutTabs rfl, (touches_raiseCause _ 0 i .cutTimeout).cutTabs rfl,
      ((touches_faultTab s b.nest b.tab false).trans (touches_markSuspect _ (s.boardOfTab b.nest b.tab) b.govAbort)).cutTabs rfl]
    exact (((State.TabsAgree.faultTab h hc false).markSuspect _ _).of_touches (touches_raiseCause _ 0 i .cutTimeout) rfl).of_touches
      (touches_giveAbort _ i) rfl

end Ends

end Sys2Proof.Machine

/-! Every command keeps the tabs and the uncut counts true (R18, R19, R36): the commands that end no cut, and O59. -/

namespace Sys2Proof.Machine

section Moves
variable {s : State} {c : LaneId → Option (Nest × Nat)} {p : PickerId} {r : BoardRef}

/-! ### Boards on their way -/

theorem State.TabsAgree.modBay (h : s.TabsAgree c) (i : BayId) (f : Bay → Bay) : (modBay i f s).TabsAgree c :=
  h.of_touches (touches_modBay s i f) rfl

theorem State.TabsAgree.closePlacement (h : s.TabsAgree c) (r : BoardRef) : (closePlacement r s).TabsAgree c :=
  h.of_touches (touches_closePlacement s r) rfl

theorem State.TabsAgree.emptyPicker (h : s.TabsAgree c) (p : PickerId) : (emptyPicker p s).TabsAgree c :=
  h.of_touches (touches_emptyPicker s p) rfl

/-- R92: a board PLACING is off the frame already. -/
theorem State.TabsAgree.completePlacement (h : s.TabsAgree c) (tag : Half) {x : Placement} (cycle : Half)
    (hx : s.boardStateAt x.ref = .placing) : (completePlacement tag x cycle s).TabsAgree c := by
  unfold Machine.completePlacement
  dsimp only
  refine State.TabsAgree.settleNest (State.TabsAgree.modBoard ((h.closePlacement x.ref).modBay x.dest.bay _) fun b hb => ?_) tag _
  refine ⟨rfl, rfl, fun _ => .inl ?_⟩
  obtain ⟨b', hb', hst⟩ := State.boardStateAt_placing hx
  obtain rfl := Option.some.inj (hb'.symm.trans hb)
  simp [hst]

theorem BoardRec.unplaced_frame (b : BoardRec) : b.unplaced.tabs = b.tabs ∧ b.unplaced.uncut = b.uncut ∧
    (b.unplaced.state = b.state ∨ b.unplaced.state = .attached ∨ b.unplaced.state = .held ∨ (b.state ≠ .attached ∧ b.state ≠ .held)) := by
  unfold BoardRec.unplaced
  split <;> simp [*]

theorem BoardRec.stripped_frame (b : BoardRec) : b.stripped.tabs = b.tabs ∧ b.stripped.uncut = b.uncut ∧
    (b.stripped.state = b.state ∨ b.stripped.state = .attached ∨ b.stripped.state = .held ∨ (b.state ≠ .attached ∧ b.state ≠ .held)) := by
  unfold BoardRec.stripped
  split <;> simp [*]

theorem BoardRec.released_frame (b : BoardRec) : b.released.tabs = b.tabs ∧ b.released.uncut = b.uncut ∧
    (b.released.state = b.state ∨ b.released.state = .attached ∨ b.released.state = .held ∨ (b.state ≠ .attached ∧ b.state ≠ .held)) := by
  unfold BoardRec.released
  split <;> simp [*]

theorem State.TabsAgree.endPlacement (h : s.TabsAgree c) (tag : Half) (x : Placement) (reason : PlaceReason) :
    (endPlacement tag x reason s).TabsAgree c := by
  unfold Machine.endPlacement
  exact ((((h.closePlacement x.ref).modBay x.dest.bay _).modBoard_frame BoardRec.unplaced_frame).settleNest tag _).post tag _

theorem State.TabsAgree.removePlacement (h : s.TabsAgree c) (tag : Half) (x : Placement) :
    (removePlacement tag s x).TabsAgree c := by
  unfold Machine.removePlacement
  exact (((h.closePlacement x.ref).modBoard_frame BoardRec.stripped_frame).post tag _).settleNest tag _

theorem State.TabsAgree.removeMagazine (h : s.TabsAgree c) (tag : Half) (id : BayId) : (removeMagazine tag id s).TabsAgree c := by
  unfold Machine.removeMagazine
  exact State.TabsAgree.modBay (foldl_keeps (P := State.TabsAgree c) (fun _ x ht => ht.removePlacement tag x) _ h) id _

theorem State.TabsAgree.completeSensed (h : s.TabsAgree c) (tag : Half) (r : BoardRef) : (completeSensed tag r s).TabsAgree c := by
  unfold Machine.completeSensed
  split
  next x hx =>
    split
    next =>
      split
      next hst => exact h.completePlacement tag _ ((placementOf_some hx).2 ▸ hst)
      next => exact h
    next => exact h
  next => exact h

/-! ### Gated items -/

theorem judgeGrip_tabsAgree (h : s.TabsAgree c) (cycle : Half) (it : Item) (p : PickerId) : (judgeGrip cycle it p s).state.TabsAgree c := by
  unfold judgeGrip
  split
  next => exact h
  next r _ =>
    exact State.TabsAgree.modBoard_frame (r := r) (f := fun b => { b with picker := some p })
      (h.of_touches (F := [.pickers]) (touches_modPicker s p _) rfl) fun _ => ⟨rfl, rfl, .inl rfl⟩

theorem judgeOpen_tabsAgree (h : s.TabsAgree c) (cycle : Half) (it : Item) (p : PickerId) : (judgeOpen cycle it p s).state.TabsAgree c := by
  have hjaws : (s.jawsOpening p).TabsAgree c := h.of_touches (F := [.pickers]) (.of_take rfl rfl) rfl
  have hopen : (openPicker it.tag p s).TabsAgree c := by
    cases hr : (s.picker p).board with
    | none =>
      rw [openPicker_unbound it.tag hr]
      exact hjaws
    | some r =>
      rw [openPicker_bound it.tag hr]
      refine State.TabsAgree.completeSensed (State.TabsAgree.modBoard_frame hjaws fun b => ?_) it.tag r
      exact BoardRec.released_frame b
  unfold judgeOpen
  split
  next => exact h
  next =>
    split
    next => exact hopen
    next => exact hopen
    next => exact h

theorem judgeLift_tabsAgree (h : s.TabsAgree c) (cycle : Half) (it : Item) (p : PickerId) : (judgeLift cycle it p s).state.TabsAgree c := by
  unfold judgeLift
  split
  next => exact h
  next r hr =>
    obtain ⟨-, -, -, b, hb, hst⟩ := checkLift_ok hr
    refine h.modBoard fun x hx => ⟨rfl, rfl, fun _ => .inl ?_⟩
    obtain rfl := Option.some.inj (hb.symm.trans hx)
    simp [hst]

theorem judgePlace_tabsAgree (h : s.TabsAgree c) (cycle : Half) (it : Item) (p : PickerId) : (judgePlace cycle it p s).state.TabsAgree c := by
  have hreserve {t : State} (ht : t.TabsAgree c) (r : BoardRef) (d : Destination) : (reservePlace it.tag cycle r d t).TabsAgree c := by
    unfold reservePlace
    have hbay := ht.modBay d.bay fun b => b.reserve d r
    refine State.TabsAgree.of_touches (F := [.placements]) (State.TabsAgree.modBoard_frame (r := r)
      (f := fun b => { b with dest := some d }) ?_ fun _ => ⟨rfl, rfl, .inl rfl⟩) (.of_take rfl rfl) rfl
    split
    next => exact hbay.of_touches (touches_becomeFull _ it.tag d.bay) rfl
    next => exact hbay
  unfold judgePlace
  split
  next => exact h
  next r b _ =>
    split
    next =>
      split
      next d _ => exact hreserve h r d
      next => exact h
    next =>
      have hsearch := h.of_touches (touches_searchVariant s it.tag b.variant b.height allBays) rfl
      dsimp only
      split
      next d _ => exact hreserve hsearch r d
      next => exact hsearch.of_touches (F := [.free]) (.of_take rfl rfl) rfl

/-! ### Reports and timers -/

theorem closingReport_tabsAgree (h : s.TabsAgree c) (tag : Half) (p : PickerId) (cycle : Half) (jaws : Jaws) (sensed : Bool) :
    (closingReport tag p cycle jaws sensed s).TabsAgree c := by
  unfold closingReport
  dsimp only
  split
  next => exact h
  next r _ =>
    split
    next =>
      exact State.TabsAgree.modBoard_frame (r := r) (f := fun b => { b with state := .held })
        (h.of_touches (touches_modPicker s p _) rfl) fun _ => ⟨rfl, rfl, .inr (.inr (.inl rfl))⟩
    next => exact ((h.unbind p).emptyPicker p).post tag _
  next =>
    split
    next => exact (h.emptyPicker p).post tag _
    next => exact h.emptyPicker p

theorem gripLoss_tabsAgree (h : s.TabsAgree c) {b : BoardRec} (hb : s.boardAt r = some b) (tag : Half) (p : PickerId) (cycle : Half) :
    (gripLoss tag p cycle r b s).TabsAgree c := by
  have hlost (hst : b.state ≠ .attached ∧ b.state ≠ .held) : (settleNest tag r.nest (post tag (.gripLost p r .lost cycle)
      (dropReservation r (emptyPicker p (unbind p (modBoard r (fun b => { b with state := .lost }) s)))))).TabsAgree c := by
    have hmod : (modBoard r (fun b => { b with state := .lost }) s).TabsAgree c := h.modBoard fun x hx => by
      obtain rfl := Option.some.inj (hb.symm.trans hx)
      exact ⟨rfl, rfl, fun _ => .inl hst⟩
    exact ((((hmod.unbind p).emptyPicker p).of_touches (touches_dropReservation _ r) rfl).post tag _).settleNest tag _
  unfold gripLoss
  split
  next =>
    have hback : (modBoard r (fun b => { b with state := .attached }) s).TabsAgree c :=
      h.modBoard_frame fun _ => ⟨rfl, rfl, .inr (.inl rfl)⟩
    have hempty := (hback.unbind p).emptyPicker p
    refine State.TabsAgree.post ?_ tag _
    split
    next => exact hempty.of_touches (touches_abortBound _ _) rfl
    next => exact hempty
  next hst => exact hlost (by simp [hst])
  next hst => exact hlost (by simp [hst])
  next => exact h

theorem takeGripState_tabsAgree (h : s.TabsAgree c) (w : Wire) (p : PickerId) (cycle : Half) : (takeGripState w p cycle s).TabsAgree c := by
  unfold takeGripState
  split
  next jaws sensed _ _ =>
    have htaken := h.of_touches (touches_modPicker s p fun k => { k with lastJaws := some jaws, lastSensed := some sensed }) rfl
    dsimp only
    split
    next =>
      split
      next => exact htaken.post w.tag _
      next => exact htaken
    next => exact closingReport_tabsAgree htaken ..
    next =>
      unfold holdingReport
      split
      next => exact htaken
      next =>
        split
        next =>
          split
          next b hb => exact gripLoss_tabsAgree htaken hb w.tag p cycle
          next => exact htaken
        next => exact htaken
    next =>
      split
      next => exact htaken.emptyPicker p
      next => exact htaken
    next => exact htaken
  next => exact h.post _ _

theorem jawExpired_tabsAgree (h : s.TabsAgree c) (p : PickerId) : (jawExpired p s).TabsAgree c := by
  unfold jawExpired
  dsimp only
  split
  next =>
    split
    next => exact ((h.unbind p).emptyPicker p).post 0 _
    next => exact (h.unbind p).emptyPicker p
  next => exact State.TabsAgree.post (h.of_touches (touches_modPicker s p _) rfl) 0 _
  next => exact h.of_touches (touches_modPicker s p _) rfl

theorem keepOut_tabsAgree (h : s.TabsAgree c) (tag : Half) (n : Nest) : (keepOut tag n s).TabsAgree c := by
  unfold keepOut
  dsimp only
  split
  next => exact h
  next =>
    split
    next => exact h.setNest rfl rfl
    next =>
      split
      next => exact h.setNest rfl rfl
      next =>
        split
        next =>
          have hflag := h.setNest (n := n) (x := { s.nest n with vacuumFlag := true, lowRun := none }) rfl rfl
          exact (hflag.of_touches (touches_abortBound _ _) rfl).post tag _
        next => exact h

theorem takeTableState_tabsAgree (h : s.TabsAgree c) (w : Wire) (x : Unit) (cycle : Half) : (takeTableState w x cycle s).TabsAgree c := by
  unfold takeTableState
  split
  next => exact h.post _ _
  next pos _ =>
    have ha := h.setNest (n := .a) (x := { s.nest .a with lastVacuum := some (min 100 (Operand.vacuumA w.payload)) }) rfl rfl
    have hb := ha.setNest (n := .b) (x := { State.nest _ .b with lastVacuum := some (min 100 (Operand.vacuumB w.payload)) }) rfl rfl
    exact (keepOut_tabsAgree (keepOut_tabsAgree hb w.tag .a) w.tag .b).of_touches (touches_movePosition _ w.tag cycle pos) rfl

theorem bayReport_tabsAgree (h : s.TabsAgree c) (tag : Half) (present : Bool) (id : BayId) : (bayReport tag present id s).TabsAgree c := by
  have htaken := h.modBay id fun b => { b with presence := if present then .present else .notPresent }
  unfold bayReport
  dsimp only
  split
  next => exact htaken
  next =>
    split
    next => exact htaken.modBay id _
    next => exact htaken.removeMagazine tag id
    next => exact htaken.modBay id _
    next => exact htaken

theorem strayInSlot_tabsAgree (h : s.TabsAgree c) (tag : Half) (id : BayId) (slots : Nat) (dir : FillDir) (t : SlotTable) (slot : Nat) :
    (strayInSlot tag id slots dir t slot s).TabsAgree c := by
  unfold strayInSlot
  dsimp only
  split
  next => exact h
  next => exact h
  next => exact h.modBay id _
  next =>
    split
    next => exact State.TabsAgree.of_touches (h.modBay id _) (touches_becomeFull _ tag id) rfl
    next => exact h.modBay id _
  next =>
    split
    next x _ => exact (h.endPlacement tag x .stray).modBay id _
    next => exact h.modBay id _

theorem strayPlace_tabsAgree (h : s.TabsAgree c) (w : Wire) (sensed : Bool) (cycle : Half) : (strayPlace w sensed cycle s).TabsAgree c := by
  unfold strayPlace
  dsimp only
  have hposted := h.post w.tag (.strayPlace (Operand.placeBay w.payload) (Operand.placeFirst w.payload) sensed cycle)
  split
  next id _ =>
    split
    next =>
      unfold strayInBay
      dsimp only
      split
      next =>
        split
        next => exact hposted.of_touches (touches_strayInReject _ w.tag id _) rfl
        next => exact strayInSlot_tabsAgree hposted ..
        next => exact hposted
      next => exact hposted
    next => exact hposted
  next => exact hposted

theorem takePlaceDone_tabsAgree (h : s.TabsAgree c) (w : Wire) (x : Unit) (cycle : Half) : (takePlaceDone w x cycle s).TabsAgree c := by
  unfold takePlaceDone
  split
  next => exact h.post _ _
  next sensed _ =>
    split
    next q _ =>
      unfold takeMatched
      split
      next => exact h.endPlacement w.tag q .notSensed
      next =>
        split
        next hst => exact h.completePlacement w.tag cycle hst
        next => exact h.of_touches (touches_markSensed s q.ref cycle) rfl
    next => exact strayPlace_tabsAgree h w sensed cycle

end Moves

/-! ### Panels come and go (R21 to R25) -/

section Panels
variable {s : State} {c : LaneId → Option (Nest × Nat)}

theorem isSome_of_find?_isNone {α : Type} {l : List (Option α)}
    (h : (List.range l.length).find? (fun i => (l.getD i none).isNone) = none) : ∀ x ∈ l, x.isSome = true := by
  intro x hx
  obtain ⟨i, hi, rfl⟩ := List.getElem_of_mem hx
  have := List.find?_eq_none.mp h i (List.mem_range.mpr hi)
  simpa [hi, Option.isSome_iff_ne_none] using this

/-- R9: a READY slot has every template. -/
theorem RecipeSlot.Ok.templates {r : RecipeSlot} (h : r.Ok) (hs : r.state = .ready) :
    (∀ x ∈ r.boards, x.isSome = true) ∧ (∀ x ∈ r.tabs, x.isSome = true) ∧
      r.tabLists = (List.range r.boards.length).map r.tabListOf := by
  obtain ⟨-, -, -, -, hready, -⟩ := h
  obtain ⟨hf, hl⟩ := hready hs
  have hnone (k : RecipeCheck) : r.failing k = none := by
    have := List.findSome?_eq_none_iff.mp hf k (by cases k <;> simp)
    simpa using this
  exact ⟨isSome_of_find?_isNone (hnone .boardMissing), isSome_of_find?_isNone (hnone .tabMissing), hl⟩

/-- R22: the records built from a READY slot agree with each other. -/
theorem RecipeSlot.Ok.loaded {r : RecipeSlot} (h : r.Ok) (hs : r.state = .ready) (marked : Nat → Bool) {x : NestRec}
    (hb : x.boards = loadBoards r marked) (ht : x.tabs = loadTabs r) :
    (∀ (j : Nat) (t : TabRec), x.tabs[j]? = some t → t.state = .intact ∧ t.lane = none ∧ t.board < x.boards.length) ∧
      ∀ (k : Nat) (b : BoardRec), x.boards[k]? = some b → x.BoardCount k b := by
  obtain ⟨-, htabs, hlists⟩ := h.templates hs
  have htab (j : Nat) : x.tabs[j]? = (r.tabs[j]?).map fun t =>
      { board := (t.map TabTemplate.board).getD 0, state := .intact, lane := none, cutAt := none, faults := 0 } := by
    rw [ht, loadTabs, List.getElem?_map]
  have hlen : x.boards.length = r.boards.length := by simp [hb, loadBoards]
  refine ⟨fun j t hj => ?_, fun k b hk => ?_⟩
  · rw [htab, Option.map_eq_some_iff] at hj
    obtain ⟨y, hy, rfl⟩ := hj
    have hmem := List.mem_of_getElem? hy
    obtain ⟨z, rfl⟩ := Option.isSome_iff_exists.mp (htabs y hmem)
    exact ⟨rfl, rfl, hlen ▸ (h.2.2.2.1 _ hmem z rfl).1⟩
  · have hk' : k < r.boards.length := hlen ▸ (List.getElem?_eq_some_iff.mp hk).1
    have hlist : r.tabLists.getD k [] = r.tabListOf k := by simp [hlists, hk']
    have htabsOf : b.tabs = r.tabListOf k ∧ b.uncut = (r.tabListOf k).length ∧ b.state = .attached := by
      simp only [hb, loadBoards, List.getElem?_map, List.getElem?_range hk', Option.map_some, Option.some.injEq] at hk
      subst hk
      exact ⟨hlist, congrArg List.length hlist, rfl⟩
    obtain ⟨hlistEq, huncut, hst⟩ := htabsOf
    refine ⟨?_, ?_, fun hoff => absurd hst hoff.1⟩
    · rw [hlistEq, RecipeSlot.tabListOf, ht, loadTabs, List.length_map, ← loadTabs, ← ht]
      refine List.filter_congr fun i hi => ?_
      have hi' : i < r.tabs.length := List.mem_range.mp hi
      obtain ⟨z, hz⟩ := Option.isSome_iff_exists.mp (htabs _ (List.getElem_mem hi'))
      rw [htab, List.getD_eq_getElem?_getD, List.getElem?_eq_getElem hi', hz]
      simp
    · rw [huncut, hlistEq, eq_comm, List.countP_eq_length]
      intro i hi
      have hi' : i < r.tabs.length := List.mem_range.mp (List.mem_filter.mp hi).1
      rw [htab, List.getElem?_eq_getElem hi']
      rfl

/-- A nest whose tabs no lane is bound to takes a panel whose tabs no lane is bound to. -/
theorem State.TabsAgree.setNest_free (h : s.TabsAgree c) {n : Nest} {x : NestRec}
    (hold : ∀ (j : Nat) (t : TabRec), (s.nest n).tabs[j]? = some t → t.state ≠ .cutting)
    (htabs : ∀ (j : Nat) (t : TabRec), x.tabs[j]? = some t → t.state = .intact ∧ t.lane = none ∧ t.board < x.boards.length)
    (hboards : ∀ (k : Nat) (b : BoardRec), x.boards[k]? = some b → x.BoardCount k b) : (Machine.setNest n x s).TabsAgree c := by
  refine ⟨fun i m j hc => ?_, fun m j t ht => ?_, fun r b hb => ?_⟩
  · obtain ⟨t, ht, hst, hl⟩ := h.bound i m j hc
    by_cases hnm : n = m
    · subst hnm
      exact absurd hst (hold j t ht)
    · rw [nest_setNest, if_neg hnm]
      exact ⟨t, ht, hst, hl⟩
  · rw [nest_setNest] at ht ⊢
    split at ht
    next hnm =>
      obtain ⟨hst, hl, hlen⟩ := htabs j t ht
      rw [if_pos hnm]
      exact ⟨by simp [hst, hl], hlen, by simp [hl]⟩
    next hnm =>
      rw [if_neg hnm]
      exact h.tabs m j t ht
  · rw [State.boardAt, nest_setNest] at hb
    rw [nest_setNest]
    split at hb
    next hnm =>
      rw [if_pos hnm]
      exact hboards _ b hb
    next hnm =>
      rw [if_neg hnm]
      exact h.boards r b hb

theorem requestNestLoad_tabsAgree (hr : s.RecipeInv) (hcust : s.Custody) (h : s.TabsAgree c) (p : Payload) :
    (requestNestLoad p s).1.TabsAgree c := by
  unfold requestNestLoad
  split
  next n i _ _ =>
    dsimp only
    split
    next => exact h
    next hempty =>
      split
      next => exact h
      next hready =>
        obtain ⟨htabs, hboards⟩ := (hr.1 i).1.loaded (not_not.mp hready) (Operand.loadMarked p) (x := { s.nest n with
          state := .loaded, vacuumFlag := false, slot := i, serial := Operand.loadSerial p,
          boards := loadBoards (s.recipe i) (Operand.loadMarked p), tabs := loadTabs (s.recipe i), lowRun := none }) rfl rfl
        have hnone := ((hcust.nests n).1 (not_not.mp hempty)).2.1
        exact State.TabsAgree.of_touches (F := [.recipes]) (h.setNest_free (by simp [hnone]) htabs hboards) (.of_take rfl rfl) rfl
  next => exact h

/-- R24: a nest that may be unloaded has no tab CUTTING. -/
theorem State.TabsAgree.uncut_of_unload (hcust : s.Custody) (h : s.TabsAgree c) {n : Nest} (hst : (s.nest n).state ≠ .empty)
    (hmay : ¬((s.nest n).state = .loaded ∧ (s.nest n).mayUnload = false)) :
    ∀ (j : Nat) (t : TabRec), (s.nest n).tabs[j]? = some t → t.state ≠ .cutting := by
  intro j t ht
  cases hs : (s.nest n).state with
  | empty => exact absurd hs hst
  | loaded =>
    have hok : (s.nest n).mayUnload = true := by simpa [hs] using hmay
    simp only [NestRec.mayUnload, Bool.and_eq_true, Bool.not_eq_true', List.any_eq_false] at hok
    simpa using hok.2 t (List.mem_of_getElem? ht)
  | cleared =>
    have hlen := (h.tabs n j t ht).2.1
    have hb : s.boardAt { nest := n, board := t.board } = some (s.nest n).boards[t.board] := List.getElem?_eq_getElem hlen
    have hterm := List.all_eq_true.mp ((hcust.nests n).2 hs) _ (List.getElem_mem hlen)
    have hcount := h.boards _ _ hb
    have hall := hcount.2.2 (by constructor <;> intro he <;> simp [he, BoardState.terminal] at hterm)
    have := List.all_eq_true.mp hall j ((hcount.mem_tabs ht).mpr rfl)
    simp only [ht, Option.map_some, Option.some.injEq, decide_eq_true_eq] at this
    simp [this]

theorem requestNestUnload_tabsAgree (hcust : s.Custody) (h : s.TabsAgree c) (p : Payload) : (requestNestUnload p s).1.TabsAgree c := by
  unfold requestNestUnload
  split
  next => exact h
  next n _ =>
    dsimp only
    split
    next => exact h
    next hst =>
      split
      next => exact h
      next hmay =>
        have hrecipe := h.of_touches (touches_modRecipe s (s.nest n).slot fun x => { x with useCount := x.useCount - 1 }) rfl
        exact hrecipe.setNest_free (h.uncut_of_unload hcust hst hmay) (by simp [NestRec.unloaded, NestRec.cleared])
          (by simp [NestRec.unloaded, NestRec.cleared])

theorem requestNestClear_tabsAgree (h : s.TabsAgree c) (p : Payload) : (requestNestClear p s).1.TabsAgree c := by
  unfold requestNestClear
  split
  next => exact h
  next n _ =>
    split
    next => exact h
    next =>
      split
      next => exact h.setNest (n := n) rfl rfl
      next => exact h

/-- Both nests are empty, and no lane is bound. -/
theorem State.cutsAgree_cleared (hl : ∀ i, (s.lane i).binding = none) (hn : ∀ n, s.nest n = NestRec.cleared) : s.CutsAgree := by
  refine ⟨fun i n j hc => ?_, fun n j t ht => ?_, fun r b hb => ?_⟩
  · simp [State.cutTabs, Lane.cutTab, hl] at hc
  · rw [hn] at ht
    cases ht
  · rw [State.boardAt, hn] at hb
    cases hb

theorem lane_map_lanes {f : Lane → Lane} {t : State} (h : t.lanes = s.lanes.map f) (i : LaneId) : t.lane i = f (s.lane i) := by
  simp only [State.lane, h, Fin.getElem_fin, Vector.getElem_map]

end Panels

section Exec
variable {s t : State} {i : Instr}

/-- A command that lets every lane's binding stand. -/
theorem exec_tabsAgree (hr : s.RecipeInv) (hcust : s.Custody) (h : s.CutsAgree) (hx : exec i s = .next t)
    (hcuts : Part.apart [.cuts] (footprint i) = true) : t.TabsAgree s.cutTabs := by
  have hP := tabsAgree_dependsOn s.cutTabs
  have h : s.TabsAgree s.cutTabs := h
  by_cases hn : Part.apart [.nests] (footprint i) = true
  · exact (touches_of_exec hx).keeps hP h hn
  · cases i with
    | grip w => exact Host.Outcome.next.inj hx ▸ walkGated_keeps hP rfl h (judgeGrip_tabsAgree h)
    | openJaws w => exact Host.Outcome.next.inj hx ▸ walkGated_keeps hP rfl h (judgeOpen_tabsAgree h)
    | lift w => exact Host.Outcome.next.inj hx ▸ walkGated_keeps hP rfl h (judgeLift_tabsAgree h)
    | place w => exact Host.Outcome.next.inj hx ▸ walkGated_keeps hP rfl h (judgePlace_tabsAgree h)
    | gripState w => exact Host.Outcome.next.inj hx ▸ walkReport_keeps hP rfl h (takeGripState_tabsAgree h w)
    | tableState w => exact Host.Outcome.next.inj hx ▸ walkReport_keeps hP rfl h (takeTableState_tabsAgree h w)
    | bayState w =>
      exact Host.Outcome.next.inj hx ▸
        walkReport_keeps hP rfl h fun _ _ => foldl_keeps (P := State.TabsAgree s.cutTabs) (fun _ id ht => bayReport_tabsAgree ht w.tag _ id) allBays h
    | placeDone w => exact Host.Outcome.next.inj hx ▸ walkReport_keeps hP rfl h (takePlaceDone_tabsAgree h w)
    | jawTimerExpiry p => exact Host.Outcome.next.inj hx ▸ expire_keeps hP rfl h fun _ ht => jawExpired_tabsAgree ht p
    | placeTimerExpiry n j =>
      obtain rfl := Host.Outcome.next.inj hx
      split
      next x _ => exact expire_keeps hP rfl h fun _ ht => ht.endPlacement 0 x .timeout
      next => exact h
    | nestLoad w => exact Host.Outcome.next.inj hx ▸ walkRequest_keeps hP rfl h (requestNestLoad_tabsAgree hr hcust h w.payload)
    | nestUnload w => exact Host.Outcome.next.inj hx ▸ walkRequest_keeps hP rfl h (requestNestUnload_tabsAgree hcust h w.payload)
    | nestClear w => exact Host.Outcome.next.inj hx ▸ walkRequest_keeps hP rfl h (requestNestClear_tabsAgree h w.payload)
    | cut _ | cutDone _ | cutTimerExpiry _ | powerOnReset _ | pinReset _ | reset _ => exact (Bool.false_ne_true hcuts).elim
    | _ => exact absurd rfl hn

theorem exec_cutsAgree (hl : s.LaneInv) (hr : s.RecipeInv) (hcust : s.Custody) (h : s.CutsAgree) (hx : exec i s = .next t) :
    t.CutsAgree := by
  by_cases hcuts : Part.apart [.cuts] (footprint i) = true
  · rw [State.CutsAgree, (touches_of_exec hx).cutTabs hcuts]
    exact exec_tabsAgree hr hcust h hx hcuts
  · have hP := cutsAgree_dependsOn
    have hcleared {t : State} (hl : ∀ i, (t.lane i).binding = none) (ha : t.nest .a = NestRec.cleared) (hb : t.nest .b = NestRec.cleared) :
        t.CutsAgree := State.cutsAgree_cleared hl fun n => by cases n; exacts [ha, hb]
    cases i with
    | cut w => exact Host.Outcome.next.inj hx ▸ walkGated_keeps hP rfl h (judgeCut_cutsAgree hl h)
    | cutDone w => exact Host.Outcome.next.inj hx ▸ walkReport_keeps hP rfl h (takeCutDone_cutsAgree h w)
    | cutTimerExpiry i => exact Host.Outcome.next.inj hx ▸ expire_keeps hP rfl h fun _ ht => cutTimedOut_cutsAgree ht i
    | powerOnReset a =>
      exact Host.Outcome.next.inj hx ▸ hcleared (fun i => by fin_cases i <;> rfl) rfl rfl
    | pinReset a =>
      exact Host.Outcome.next.inj hx ▸ hcleared (fun i => by rw [lane_map_lanes (s := s) rfl]; rfl) rfl rfl
    | reset w =>
      refine Host.Outcome.next.inj hx ▸ walkRequest_keeps hP rfl h (hcleared (fun i => ?_) rfl rfl)
      rw [lane_map_lanes (s := s) rfl]
      rfl
    | _ => exact absurd rfl hcuts

end Exec

/-- The properties that hold together of a state that meets the invariants of the lanes, the recipes, custody and the cuts. -/
def State.CutWorld (s : State) : Prop := s.LaneInv ∧ s.RecipeInv ∧ s.Custody ∧ s.CutsAgree

theorem cutWorld_dependsOn : DependsOn [.lanes, .recipes, .panel, .nests, .pickers, .cuts] State.CutWorld := by
  intro s t h ⟨hl, hr, hcust, hcut⟩
  exact ⟨laneInv_dependsOn s t (fun p hp => h p (by simp_all)) hl, recipeInv_dependsOn s t (fun p hp => h p (by simp_all; tauto)) hr,
    custody_dependsOn s t (fun p hp => h p (by simp_all; tauto)) hcust,
    cutsAgree_dependsOn s t (fun p hp => h p (by simp_all; tauto)) hcut⟩

/-- Settles O59: each command keeps custody (`exec_custody`) and the agreement of tabs, lanes and counts (`exec_cutsAgree`). -/
theorem stepsKeepCustodyAndCuts : Obligations.StepsKeepCustodyAndCuts := by
  intro s t h
  refine ⟨fun hs => State.custody_iff.mp (step_keeps custody_dependsOn rfl exec_custody (State.custody_iff.mpr hs) h), ?_⟩
  intro hl hr hcust hcut
  have hworld : s.CutWorld := ⟨hl, hr, State.custody_iff.mpr hcust, State.cutsAgree_iff.mpr hcut⟩
  have hexec {c : Instr} {s t : State} (hs : s.CutWorld) (hx : exec c s = .next t) : t.CutWorld := by
    obtain ⟨hl, hr, hcust, hcut⟩ := hs
    exact ⟨exec_laneInv hl hx, exec_recipeInv hr hx, exec_custody hcust hx, exec_cutsAgree hl hr hcust hcut hx⟩
  obtain ⟨-, -, -, hkept⟩ := step_keeps cutWorld_dependsOn rfl hexec hworld h
  exact State.cutsAgree_iff.mp hkept

end Sys2Proof.Machine

/-! Slot tables (R78, R85, R88): what marking slots does, and runs of slots in fill order. -/

namespace Sys2Proof.Machine

/-! ### Marked slots -/

section Mark
variable (t : SlotTable) (v : SlotState)

theorem SlotTable.getElem?_mark (js : List Nat) (k : Nat) :
    (t.mark js v).slots[k]? = if k ∈ js ∧ k < t.slots.length then some v else t.slots[k]? := by
  unfold SlotTable.mark
  dsimp only
  generalize t.slots = l
  induction js generalizing l with
  | nil => simp
  | cons j js ih =>
    rw [List.foldl_cons, ih, List.length_set, List.getElem?_set]
    by_cases hk : k ∈ js ∧ k < l.length
    · rw [if_pos hk, if_pos ⟨List.mem_cons_of_mem j hk.1, hk.2⟩]
    · rw [if_neg hk]
      by_cases hjk : j = k
      · subst hjk
        by_cases hl : j < l.length
        · simp [hl]
        · simp [hl]
      · have : ¬(k ∈ j :: js ∧ k < l.length) := fun h =>
          (List.mem_cons.mp h.1).elim (fun he => hjk he.symm) fun hm => hk ⟨hm, h.2⟩
        rw [if_neg hjk, if_neg this]

@[simp] theorem SlotTable.length_mark (js : List Nat) : (t.mark js v).slots.length = t.slots.length := by
  unfold SlotTable.mark
  dsimp only
  generalize t.slots = l
  induction js generalizing l with
  | nil => rfl
  | cons j js ih => rw [List.foldl_cons, ih, List.length_set]

@[simp] theorem SlotTable.cursor_mark (js : List Nat) : (t.mark js v).cursor = t.cursor := rfl

end Mark

/-! ### Fill order -/

section Order
variable {dir : FillDir} {n p q : Nat}

theorem slotAt_lt (h : p < n) : slotAt dir n p < n := by
  cases dir
  · exact h
  · simp only [slotAt]
    omega

/-- R78: the physical index and the fill position are each other's reverse. -/
theorem slotAt_slotAt (h : p < n) : slotAt dir n (slotAt dir n p) = p := by
  cases dir
  · rfl
  · simp only [slotAt]
    omega

/-- R85: the run that starts at a fill position, with room, holds that position and those after it. -/
theorem mem_runSlots {c k j : Nat} (h : c + k ≤ n) :
    j ∈ runSlots dir (slotAt dir n c) k ↔ j < n ∧ c ≤ slotAt dir n j ∧ slotAt dir n j < c + k := by
  simp only [runSlots, List.mem_map, List.mem_range]
  cases dir with
  | up =>
    simp only [slotAt]
    constructor
    · rintro ⟨a, ha, rfl⟩
      omega
    · rintro ⟨hj, h1, h2⟩
      exact ⟨j - c, by omega, by omega⟩
  | down =>
    simp only [slotAt]
    constructor
    · rintro ⟨a, ha, rfl⟩
      omega
    · rintro ⟨hj, h1, h2⟩
      exact ⟨n - 1 - c - j, by omega, by omega⟩

theorem head_mem_runSlots {first k : Nat} (h : 1 ≤ k) : first ∈ runSlots dir first k := by
  simp only [runSlots, List.mem_map, List.mem_range]
  exact ⟨0, h, by cases dir <;> simp⟩

/-- R78, read slot by slot: a slot is EMPTY exactly when its position is not before the cursor. -/
theorem SlotTable.ordered_iff {t : SlotTable} : t.Ordered dir ↔
    ∀ (j : Nat) (x : SlotState), t.slots[j]? = some x → (x = .empty ↔ t.cursor ≤ slotAt dir t.slots.length j) := by
  constructor
  · intro h j x hx
    obtain ⟨hj, rfl⟩ := List.getElem?_eq_some_iff.mp hx
    have := h ⟨slotAt dir t.slots.length j, slotAt_lt hj⟩
    rwa [slotAt_slotAt hj, List.getD_eq_getElem _ _ hj] at this
  · intro h p
    have hp := slotAt_lt (dir := dir) p.isLt
    have := h _ _ (List.getElem?_eq_getElem hp)
    rwa [slotAt_slotAt p.isLt, ← List.getD_eq_getElem _ .empty hp] at this

end Order

end Sys2Proof.Machine

/-! One bay (R77, R78): the operations on a bay keep its records in agreement. -/

namespace Sys2Proof.Machine

section OneBay
variable {b : Bay}

/-- R77: what a kind says of a bay's table and counts stands when the kind, the state and the presence stand. -/
theorem Bay.Ok.withCounts (h : b.Ok) {x : Bay} (hk : x.kind = b.kind) (hst : x.state = b.state) (hp : x.presence = b.presence)
    (ht : x.table = b.table) (hreject : b.kind.isReject = true → x.placed ≤ b.kind.limit)
    (hother : b.kind.isReject = false → x.reserved = 0 ∧ x.placed = 0)
    (hres : b.state = .ready ∨ b.state = .full ∨ x.reserved = 0) : x.Ok := by
  obtain ⟨h1, h2, h3, h4, h5, h6, -, -, -⟩ := h
  refine ⟨?_, ?_, ?_, ?_, ?_, ?_, ?_, ?_, ?_⟩ <;> simp only [hk, hst, hp, ht]
  exacts [h1, h2, h3, h4, h5, h6, hother, hreject, hres]

/-- R78: a table that keeps its length, with its cursor in range. -/
theorem Bay.Ok.withTable (h : b.Ok) {x : Bay} {f : SlotTable → SlotTable} (hx : x = { b with table := b.table.map f })
    (hf : ∀ t ∈ b.table, (f t).slots.length = t.slots.length ∧ (f t).cursor ≤ t.slots.length) : x.Ok := by
  subst hx
  obtain ⟨h1, h2, h3, h4, h5, h6, h7, h8, h9⟩ := h
  refine ⟨h1, h2, h3, h4, by simpa using h5, fun y hy => ?_, h7, h8, h9⟩
  obtain ⟨t, ht, rfl⟩ := Option.map_eq_some_iff.mp hy
  obtain ⟨hlen, hcur⟩ := hf t ht
  exact ⟨hlen.trans (h6 t ht).1, hlen ▸ hcur⟩

theorem Bay.markRun_kind (d : Destination) (v : SlotState) : (b.markRun d v).kind = b.kind := by
  unfold Bay.markRun
  split <;> rfl

theorem Bay.Ok.markRun (h : b.Ok) (d : Destination) (v : SlotState) : (b.markRun d v).Ok := by
  unfold Bay.markRun
  split
  next => exact h.withTable rfl fun t ht => ⟨SlotTable.length_mark .., (h.2.2.2.2.2.1 t ht).2⟩
  next => exact h

/-- R95: one slot is marked. -/
theorem Bay.Ok.markSlot (h : b.Ok) (slot : Nat) (v : SlotState) : Bay.Ok { b with table := b.table.map fun t => t.mark [slot] v } :=
  h.withTable rfl fun t ht => ⟨SlotTable.length_mark .., (h.2.2.2.2.2.1 t ht).2⟩

/-- R96: a bay that takes boards becomes FULL. -/
theorem Bay.Ok.full (h : b.Ok) (hst : b.state = .ready ∨ b.state = .full) : Bay.Ok { b with state := .full } := by
  obtain ⟨h1, h2, h3, h4, h5, h6, h7, h8, h9⟩ := h
  have hne : b.state ≠ .inactive := by rcases hst with hst | hst <;> simp [hst]
  refine ⟨h1, ⟨fun he => (nomatch he), fun hk => absurd (h2.mpr hk) hne⟩, fun _ => h3 (hst.imp id .inl), fun he => (nomatch he), ?_, h6, h7, h8,
    .inr (.inl rfl)⟩
  rw [h5]
  simp [hst]

theorem Bay.dropReserved_kind (capacity : Nat) : (b.dropReserved capacity).kind = b.kind := rfl

theorem Bay.Ok.dropReserved (h : b.Ok) (hk : b.kind.isReject = true) (capacity : Nat) : (b.dropReserved capacity).Ok := by
  have hcode : b.kind.code ≠ 1 := by
    cases hkind : b.kind <;> simp [hkind, BayKind.isReject, BayKind.code] at hk ⊢
  obtain ⟨h1, h2, h3, h4, h5, h6, h7, h8, h9⟩ := h
  have hstate : (b.dropReserved capacity).state = b.state ∨
      b.state = .full ∧ (b.dropReserved capacity).state = .ready := by
    unfold Bay.dropReserved
    dsimp only
    split
    next hc => exact .inr ⟨hc.1, rfl⟩
    next => exact .inl rfl
  have htable : b.table = none := Option.not_isSome_iff_eq_none.mp fun hs => hcode (h5.mp hs).1
  have htable' : (b.dropReserved capacity).table = b.table := rfl
  have hreserved : (b.dropReserved capacity).reserved = b.reserved - 1 := rfl
  have hplaced : (b.dropReserved capacity).placed = b.placed := rfl
  have hpresence : (b.dropReserved capacity).presence = b.presence := rfl
  have hkind : (b.dropReserved capacity).kind = b.kind := rfl
  refine ⟨h1, ?_, ?_, ?_, ?_, h6, fun hr => ?_, h8, ?_⟩
  · rw [hkind]
    grind
  · rw [hpresence]
    grind
  · rw [hpresence]
    grind
  · rw [htable', htable, hkind]
    exact ⟨by simp, fun hc => absurd hc.1 hcode⟩
  · rw [hkind, hk] at hr
    cases hr
  · rw [hreserved]
    grind

theorem Bay.releaseRun_kind (d : Destination) : (b.releaseRun d).kind = b.kind := by
  unfold Bay.releaseRun
  split
  · exact Bay.markRun_kind ..
  · rfl
  · rfl

theorem Bay.Ok.releaseRun (h : b.Ok) (d : Destination) : (b.releaseRun d).Ok := by
  unfold Bay.releaseRun
  split
  next => exact h.markRun d _
  next hk => exact h.dropReserved (by rw [hk]; rfl) _
  next => exact h

/-- R92, steps 1 and 2: what a completed placement makes of its bay. -/
def Bay.filled (b : Bay) (d : Destination) (x : SlotRef) : Bay :=
  match b.kind with
  | .reject capacity => { b with reserved := b.reserved - 1, placed := min capacity (b.placed + 1) }
  | _ => b.markRun d (.occupied (some x))

theorem Bay.filled_kind (d : Destination) (x : SlotRef) : (b.filled d x).kind = b.kind := by
  unfold Bay.filled
  split
  · rfl
  · exact Bay.markRun_kind ..

theorem Bay.Ok.filled (h : b.Ok) (d : Destination) (x : SlotRef) : (b.filled d x).Ok := by
  unfold Bay.filled
  split
  next capacity hk =>
    refine h.withCounts rfl rfl rfl rfl (fun _ => ?_) (fun hr => ?_) ?_
    · simp only [hk, BayKind.limit]
      exact Nat.min_le_left _ _
    · simp [hk, BayKind.isReject] at hr
    · obtain ⟨-, -, -, -, -, -, -, -, h9⟩ := h
      exact h9.imp_right (.imp_right fun h0 => by simp [h0])
  next => exact h.markRun d _

/-- R95: a stray board is counted in the REJECT bay. -/
theorem Bay.Ok.strayPlaced (h : b.Ok) {capacity : Nat} (hk : b.kind = .reject capacity) :
    Bay.Ok { b with placed := min capacity (b.placed + 1) } := by
  obtain ⟨-, -, -, -, -, -, -, -, h9⟩ := id h
  refine h.withCounts rfl rfl rfl rfl (fun _ => ?_) (fun hr => ?_) h9
  · simp only [hk, BayKind.limit]
    exact Nat.min_le_left _ _
  · simp [hk, BayKind.isReject] at hr

theorem Bay.reserve_kind (d : Destination) (r : BoardRef) : (b.reserve d r).kind = b.kind := by
  unfold Bay.reserve
  split
  · rfl
  · exact Bay.markRun_kind ..

/-- R88: a bay READY with room takes a reservation. -/
theorem Bay.Ok.reserve (h : b.Ok) (hst : b.state = .ready) (d : Destination) (r : BoardRef)
    (hroom : ∀ t ∈ b.table, t.cursor + d.span ≤ t.slots.length) : (b.reserve d r).Ok := by
  obtain ⟨-, -, -, -, -, -, h7, h8, -⟩ := id h
  unfold Bay.reserve
  split
  next hk =>
    refine h.withCounts rfl rfl rfl rfl h8 (fun hr => ?_) (.inl hst)
    simp [hk, BayKind.isReject] at hr
  next hk =>
    refine (h.markRun d (.reserved r)).withTable rfl fun y hy => ⟨rfl, ?_⟩
    dsimp only
    unfold Bay.markRun at hy
    split at hy
    next =>
      obtain ⟨t, ht, rfl⟩ := Option.map_eq_some_iff.mp hy
      rw [SlotTable.cursor_mark, SlotTable.length_mark]
      exact hroom t ht
    next => exact hroom y hy

/-! ### Stray boards in a slot (R95) -/

/-- R95: the table after a stray board in an EMPTY slot, slot by slot. -/
theorem SlotTable.getElem?_strayAt (t : SlotTable) (dir : FillDir) {slot : Nat} (hs : slot < t.slots.length) (k : Nat) :
    (t.strayAt dir t.slots.length slot).slots[k]? =
      if k = slot then some (.occupied none)
      else if k < t.slots.length ∧ t.cursor ≤ slotAt dir t.slots.length k ∧ slotAt dir t.slots.length k < slotAt dir t.slots.length slot then
        some .skipped
      else t.slots[k]? := by
  have hbetween : k ∈ (List.range (slotAt dir t.slots.length slot - t.cursor)).map (fun j => slotAt dir t.slots.length (t.cursor + j)) ∧
      k < t.slots.length ↔ k < t.slots.length ∧ t.cursor ≤ slotAt dir t.slots.length k ∧
        slotAt dir t.slots.length k < slotAt dir t.slots.length slot := by
    have hpos := slotAt_lt (dir := dir) hs
    simp only [List.mem_map, List.mem_range]
    constructor
    · rintro ⟨⟨j, hj, rfl⟩, hk⟩
      rw [slotAt_slotAt (by omega)]
      omega
    · rintro ⟨hk, h1, h2⟩
      exact ⟨⟨slotAt dir t.slots.length k - t.cursor, by omega, by
        rw [show t.cursor + (slotAt dir t.slots.length k - t.cursor) = slotAt dir t.slots.length k by omega, slotAt_slotAt hk]⟩, hk⟩
  unfold SlotTable.strayAt
  dsimp only
  rw [SlotTable.getElem?_mark, SlotTable.getElem?_mark, SlotTable.length_mark]
  simp only [List.mem_singleton, hbetween]
  by_cases hk : k = slot
  · subst hk
    rw [if_pos ⟨rfl, hs⟩, if_pos rfl]
  · rw [if_neg (fun hc => hk hc.1), if_neg hk]

theorem SlotTable.length_strayAt (t : SlotTable) (dir : FillDir) (slots slot : Nat) : (t.strayAt dir slots slot).slots.length = t.slots.length := by
  unfold SlotTable.strayAt
  dsimp only
  rw [SlotTable.length_mark, SlotTable.length_mark]

theorem Bay.Ok.strayAt (h : b.Ok) {t : SlotTable} (ht : b.table = some t) (dir : FillDir) {slot : Nat} (hs : slot < t.slots.length) :
    Bay.Ok { b with table := some (t.strayAt dir t.slots.length slot) } := by
  refine h.withTable (f := fun t => t.strayAt dir t.slots.length slot) (by rw [ht]; rfl) fun x hx => ?_
  obtain rfl : t = x := Option.some.inj (ht.symm.trans hx)
  exact ⟨SlotTable.length_strayAt .., slotAt_lt hs⟩

/-! ### Magazines come and go (R80 to R84) -/

/-- R82: a bay that was reported without a magazine has none. -/
theorem Bay.Ok.empty_of_notPresent (h : b.Ok) (hp : b.presence ≠ .present) (hk : b.kind ≠ .none) :
    b.state = .absent ∧ b.table = none ∧ b.reserved = 0 := by
  obtain ⟨-, h2, h3, -, h5, -, -, -, h9⟩ := h
  have hst : b.state = .absent := by
    cases hs : b.state with
    | inactive => exact absurd (h2.mp hs) hk
    | absent => rfl
    | ready | full | uncertain => exact absurd (h3 (by simp [hs])) hp
  refine ⟨hst, ?_, by simpa [hst] using h9⟩
  simpa [hst] using h5

theorem Bay.Ok.inserted (h : b.Ok) (hp : b.presence ≠ .present) (hk : b.kind ≠ .none) :
    (Bay.inserted { b with presence := .present }).Ok ∧ (Bay.inserted { b with presence := .present }).kind = b.kind := by
  obtain ⟨hst, ht, hres⟩ := h.empty_of_notPresent hp hk
  obtain ⟨h1, h2, h3, h4, h5, h6, h7, h8, h9⟩ := h
  unfold Bay.inserted
  dsimp only
  split
  next v slots pitch dir hkind =>
    refine ⟨⟨h1, by simp [hkind], fun _ => rfl, by simp, by simp [hkind, BayKind.code], fun t ht => ?_, h7, h8, .inl rfl⟩, rfl⟩
    obtain rfl := Option.some.inj ht
    simp [hkind, BayKind.limit]
  next capacity hkind =>
    refine ⟨⟨h1, by simp [hkind], fun _ => rfl, by simp, by simp [hkind, BayKind.code, ht], by simp [ht], by simp [hkind, BayKind.isReject], ?_,
      .inl rfl⟩, rfl⟩
    simp
  next hkind => exact absurd hkind hk

theorem Bay.Ok.uncertain (h : b.Ok) (hp : b.presence ≠ .present) (hk : b.kind ≠ .none) :
    Bay.Ok { b with presence := .present, state := .uncertain } := by
  obtain ⟨hst, ht, hres⟩ := h.empty_of_notPresent hp hk
  obtain ⟨h1, h2, h3, h4, h5, h6, h7, h8, h9⟩ := h
  exact ⟨h1, by simp [hk], fun _ => rfl, by simp, by simp [ht], by simp [ht], h7, h8, .inr (.inr hres)⟩

theorem Bay.Ok.absent (h : b.Ok) (hk : b.kind ≠ .none) :
    Bay.Ok { b with presence := .notPresent, state := .absent, table := none, reserved := 0 } := by
  obtain ⟨h1, h2, h3, h4, h5, h6, h7, h8, h9⟩ := h
  exact ⟨h1, by simp [hk], by simp, by simp, by simp, by simp, fun hr => ⟨rfl, (h7 hr).2⟩, h8, .inr (.inr rfl)⟩

/-- R81: a presence is recorded that asks for no action. -/
theorem Bay.Ok.withPresence (h : b.Ok) {p : Presence} (hp : b.kind = .none ∨ b.presence = .present ∧ p = .present ∨
    b.presence ≠ .present ∧ p = .notPresent) : Bay.Ok { b with presence := p } := by
  obtain ⟨h1, h2, h3, h4, h5, h6, h7, h8, h9⟩ := id h
  rcases hp with hk | ⟨hpres, rfl⟩ | ⟨hpres, rfl⟩
  · have hst := h2.mpr hk
    exact ⟨h1, h2, by simp [hst], by simp [hst], h5, h6, h7, h8, h9⟩
  · exact ⟨h1, h2, fun _ => rfl, fun ha => absurd hpres (h4 ha), h5, h6, h7, h8, h9⟩
  · by_cases hk : b.kind = .none
    · have hst := h2.mpr hk
      exact ⟨h1, h2, by simp [hst], by simp [hst], h5, h6, h7, h8, h9⟩
    · obtain ⟨hst, -⟩ := h.empty_of_notPresent hpres hk
      exact ⟨h1, h2, by simp [hst], by simp, h5, h6, h7, h8, h9⟩

theorem Bay.ok_configured {kind : BayKind} (hk : kind.Ok) (b : Bay) : (b.configured kind).Ok := by
  have hst : (b.configured kind).state ≠ .ready ∧ (b.configured kind).state ≠ .full := by
    unfold Bay.configured
    dsimp only
    grind
  refine ⟨hk, ?_, ?_, ?_, ⟨fun ht => (nomatch ht), fun hr => ?_⟩, fun t ht => (nomatch ht), fun _ => ⟨rfl, rfl⟩, fun _ => Nat.zero_le _,
    .inr (.inr rfl)⟩
  · unfold Bay.configured
    dsimp only
    grind
  · unfold Bay.configured
    dsimp only
    grind
  · unfold Bay.configured
    dsimp only
    grind
  · exact (hr.2.elim hst.1 hst.2).elim

theorem Bay.ok_initial : Bay.initial.Ok := by
  simp [Bay.Ok, Bay.initial, BayKind.Ok, BayKind.code, BayKind.isReject]

/-- R84: a magazine declared filled to a count within its limit. -/
theorem Bay.Ok.preset (h : b.Ok) (hst : ¬(b.state = .inactive ∨ b.state = .absent)) {c : Nat} (hc : c ≤ b.kind.limit) :
    (b.preset c).Ok ∧ (b.preset c).kind = b.kind ∧ (b.preset c).state = .ready := by
  obtain ⟨h1, h2, h3, h4, h5, h6, h7, h8, h9⟩ := h
  have hpres : b.presence = .present := h3 (by
    cases hs : b.state <;> simp [hs] at hst ⊢)
  unfold Bay.preset
  split
  next v slots pitch dir hkind =>
    refine ⟨⟨h1, by simp [hkind], fun _ => hpres, by simp, by simp [hkind, BayKind.code], fun t ht => ?_, h7, h8, .inl rfl⟩, rfl, rfl⟩
    obtain rfl := Option.some.inj ht
    rw [hkind] at hc
    simpa [hkind, BayKind.limit] using hc
  next capacity hkind =>
    have ht : b.table = none := by simpa [hkind, BayKind.code] using h5
    exact ⟨⟨h1, by simp [hkind], fun _ => hpres, by simp, by simp [hkind, BayKind.code, ht], by simp [ht], by simp [hkind, BayKind.isReject],
      fun _ => hc, .inl rfl⟩, rfl, rfl⟩
  next hkind => exact absurd (.inl (h2.mpr hkind)) hst

end OneBay

end Sys2Proof.Machine

/-! Every command keeps the bays in range, with one REJECT bay at the most (R77, R78), and the fixed fields of the board records (R18). -/

namespace Sys2Proof.Machine

section Bays
variable {s : State} {i : BayId}

theorem bayInv_dependsOn : DependsOn [.bays] State.BayInv := by
  intro s t h hs
  have hbays : t.bays = s.bays := h .bays (List.mem_singleton.mpr rfl)
  simpa only [State.BayInv, State.bay, hbays] using hs

theorem State.BayInv.of_touches {F : List Part} {t : State} (hs : s.BayInv) (h : Touches F s t)
    (hF : Part.apart [.bays] F = true) : t.BayInv := h.keeps bayInv_dependsOn hs hF

theorem bay_modBay (i j : BayId) (f : Bay → Bay) : (modBay i f s).bay j = if i = j then f (s.bay i) else s.bay j := by
  rw [modBay_eq, bay_setBay]

/-- A bay of the same kind in agreement. -/
theorem State.BayInv.modBay (h : s.BayInv) {f : Bay → Bay} (hok : (f (s.bay i)).Ok) (hk : (f (s.bay i)).kind = (s.bay i).kind) :
    (modBay i f s).BayInv := by
  have hkind (j : BayId) : ((Machine.modBay i f s).bay j).kind = (s.bay j).kind := by
    rw [bay_modBay]
    split
    next hij => exact hij ▸ hk
    next => rfl
  refine ⟨fun j => ?_, fun j k hj hk => h.2 j k (hkind j ▸ hj) (hkind k ▸ hk)⟩
  rw [bay_modBay]
  split
  next => exact hok
  next => exact h.1 j

theorem State.BayInv.becomeFull (h : s.BayInv) (tag : Half) (hst : (s.bay i).state = .ready ∨ (s.bay i).state = .full) :
    (becomeFull tag i s).BayInv :=
  State.BayInv.of_touches (h.modBay (f := fun r => { r with state := .full }) ((h.1 i).full hst) rfl) (touches_post _ tag _) rfl

/-! ### The search (R85 to R88) -/

/-- R85: the room a bay has for a board of a height. -/
def Bay.Takes (b : Bay) (variant height : Nat) (d : Destination) : Prop :=
  ∃ slots pitch dir t, b.kind = .normal variant slots pitch dir ∧ b.state = .ready ∧ b.table = some t ∧
    d.first = slotAt dir slots t.cursor ∧ d.span = spanOf height pitch ∧ t.cursor + d.span ≤ slots

theorem fitIn_room {id : BayId} {slots pitch : Nat} {dir : FillDir} {cursor height : Nat} {d : Destination}
    (h : fitIn id slots pitch dir cursor height = .room d) :
    d = { bay := id, first := slotAt dir slots cursor, span := spanOf height pitch } ∧ cursor + spanOf height pitch ≤ slots := by
  unfold fitIn at h
  dsimp only at h
  split at h
  next => cases h
  next =>
    split at h
    next hroom => exact ⟨(Fit.room.inj h).symm, hroom⟩
    next => cases h

/-- R87: a property that a bay on the route keeps by becoming FULL holds after the search, and the run found is in a bay that takes
it. -/
theorem searchVariant_keeps {P : State → Prop} {tag : Half} {variant height : Nat}
    (hfull : ∀ (s : State) (id : BayId), P s → (s.bay id).state = .ready → (∃ v slots pitch dir, (s.bay id).kind = .normal v slots pitch dir) →
      P (Machine.becomeFull tag id s)) (l : List BayId) (h : P s) :
    P (searchVariant tag variant height l s).1 ∧ ∀ d, (searchVariant tag variant height l s).2 = some d →
      ((searchVariant tag variant height l s).1.bay d.bay).Takes variant height d := by
  induction l generalizing s with
  | nil => exact ⟨h, fun d hd => nomatch hd⟩
  | cons id rest ih =>
    rw [searchVariant]
    split
    next v slots pitch dir t hk hst ht =>
      split
      next hv =>
        subst hv
        split
        next d hfit =>
          refine ⟨h, fun d' hd' => ?_⟩
          obtain rfl := Option.some.inj hd'
          obtain ⟨rfl, hroom⟩ := fitIn_room hfit
          exact ⟨slots, pitch, dir, t, hk, hst, ht, rfl, rfl, hroom⟩
        next => exact ih (hfull s id h hst ⟨_, _, _, _, hk⟩)
        next => exact ih h
      next => exact ih h
    next => exact ih h

theorem State.BayInv.searchVariant (h : s.BayInv) (tag : Half) (variant height : Nat) (l : List BayId) :
    (searchVariant tag variant height l s).1.BayInv :=
  (searchVariant_keeps (P := State.BayInv) (fun _ _ ht hst _ => ht.becomeFull tag (.inl hst)) l h).1

/-- R88: the run is reserved in a bay with room for it. -/
theorem State.BayInv.reservePlace (h : s.BayInv) (tag cycle : Half) (r : BoardRef) {d : Destination} (hst : (s.bay d.bay).state = .ready)
    (hroom : ∀ t ∈ (s.bay d.bay).table, t.cursor + d.span ≤ t.slots.length) : (reservePlace tag cycle r d s).BayInv := by
  have hreserved := h.modBay (f := fun b => b.reserve d r) ((h.1 d.bay).reserve hst d r hroom) (Bay.reserve_kind d r)
  have hstate : ((Machine.modBay d.bay (fun b => b.reserve d r) s).bay d.bay).state = .ready := by
    rw [bay_modBay, if_pos rfl]
    unfold Bay.reserve
    split
    next => exact hst
    next =>
      unfold Bay.markRun
      split <;> exact hst
  have hjudged : (if ((Machine.modBay d.bay (fun b => b.reserve d r) s).bay d.bay).atLimit = true then
      Machine.becomeFull tag d.bay (Machine.modBay d.bay (fun b => b.reserve d r) s)
      else Machine.modBay d.bay (fun b => b.reserve d r) s).BayInv := by
    split
    · exact hreserved.becomeFull tag (.inl hstate)
    · exact hreserved
  unfold Machine.reservePlace
  dsimp only
  generalize (if ((Machine.modBay d.bay (fun b => b.reserve d r) s).bay d.bay).atLimit = true then
    Machine.becomeFull tag d.bay (Machine.modBay d.bay (fun b => b.reserve d r) s)
    else Machine.modBay d.bay (fun b => b.reserve d r) s) = u at hjudged
  exact hjudged.of_touches (((touches_modBoard u r (by exact fun _ => rfl)).mono (F := [.nests, .placements]) rfl).comp
    (G := [.placements]) (.of_take rfl rfl) rfl) rfl

/-- R87: the reject route leads to a REJECT bay that is READY. -/
theorem searchReject_some {d : Destination} (h : searchReject s = some d) :
    (s.bay d.bay).state = .ready ∧ (∃ capacity, (s.bay d.bay).kind = .reject capacity) ∧ d.first = 0 ∧ d.span = 1 := by
  unfold searchReject at h
  split at h
  next id hid =>
    split at h
    next hst =>
      obtain rfl := Option.some.inj h
      refine ⟨hst, ?_, rfl, rfl⟩
      have := List.find?_some hid
      split at this
      next capacity hk => exact ⟨capacity, hk⟩
      next => cases this
    next => cases h
  next => cases h

theorem Bay.Ok.reject_table {b : Bay} (h : b.Ok) {capacity : Nat} (hk : b.kind = .reject capacity) : b.table = none := by
  obtain ⟨-, -, -, -, h5, -⟩ := h
  simpa [hk, BayKind.code] using h5

theorem judgePlace_bayInv (h : s.BayInv) (cycle : Half) (it : Item) (p : PickerId) : (judgePlace cycle it p s).state.BayInv := by
  unfold judgePlace
  split
  next => exact h
  next r b _ =>
    split
    next =>
      split
      next d hd =>
        obtain ⟨hst, ⟨capacity, hk⟩, -, -⟩ := searchReject_some hd
        exact h.reservePlace it.tag cycle r hst (by simp [(h.1 d.bay).reject_table hk])
      next => exact h
    next =>
      obtain ⟨hsearch, hfound⟩ := searchVariant_keeps (P := State.BayInv) (tag := it.tag) (variant := b.variant) (height := b.height)
        (fun _ _ ht hst _ => ht.becomeFull it.tag (.inl hst)) allBays h
      dsimp only
      generalize Machine.searchVariant it.tag b.variant b.height allBays s = x at hsearch hfound ⊢
      split
      next d hd =>
        obtain ⟨slots, pitch, dir, t, hk, hst, ht, -, -, hroom⟩ := hfound d hd
        refine hsearch.reservePlace it.tag cycle r hst fun t' ht' => ?_
        obtain rfl : t = t' := Option.some.inj (ht.symm.trans ht')
        have hlen := ((hsearch.1 d.bay).2.2.2.2.2.1 t ht).1
        rw [hlen, hk]
        exact hroom
      next => exact hsearch.of_touches (F := [.free]) (.of_take rfl rfl) rfl

/-! ### Ends of placements (R92, R93, R95) -/

theorem completePlacement_eq (tag : Half) (p : Placement) (cycle : Half) (s : State) :
    completePlacement tag p cycle s =
      settleNest tag p.ref.nest (modBoard p.ref
        (fun b => { b with state := if (s.bay p.dest.bay).kind.isReject then .rejected else .stacked, placedAt := some cycle })
        (modBay p.dest.bay (fun b => b.filled p.dest { nest := p.ref.nest, board := p.ref.board, serial := (s.nest p.ref.nest).serial })
          (closePlacement p.ref s))) := by
  have hkind : (modBay p.dest.bay (fun b => b.filled p.dest { nest := p.ref.nest, board := p.ref.board, serial := (s.nest p.ref.nest).serial })
      (closePlacement p.ref s)).bay p.dest.bay = (s.bay p.dest.bay).filled p.dest
        { nest := p.ref.nest, board := p.ref.board, serial := (s.nest p.ref.nest).serial } := by
    rw [bay_modBay, if_pos rfl]
    rfl
  have hfinish : (match ((modBay p.dest.bay (fun b => b.filled p.dest
      { nest := p.ref.nest, board := p.ref.board, serial := (s.nest p.ref.nest).serial }) (closePlacement p.ref s)).bay p.dest.bay).kind with
        | .reject _ => BoardState.rejected | _ => .stacked) =
      if (s.bay p.dest.bay).kind.isReject then BoardState.rejected else .stacked := by
    rw [hkind, Bay.filled_kind]
    cases (s.bay p.dest.bay).kind <;> rfl
  rw [← hfinish]
  rfl

theorem State.BayInv.completePlacement (h : s.BayInv) (tag : Half) (p : Placement) (cycle : Half) : (completePlacement tag p cycle s).BayInv := by
  rw [completePlacement_eq]
  have hclosed : (closePlacement p.ref s).BayInv := h.of_touches (touches_closePlacement s p.ref) rfl
  exact ((hclosed.modBay (i := p.dest.bay) ((hclosed.1 _).filled _ _) (Bay.filled_kind _ _)).of_touches
    (touches_modBoard _ p.ref (by exact fun _ => rfl)) rfl).of_touches (touches_settleNest _ tag p.ref.nest) rfl

theorem State.BayInv.endPlacement (h : s.BayInv) (tag : Half) (p : Placement) (reason : PlaceReason) : (endPlacement tag p reason s).BayInv := by
  have hclosed : (closePlacement p.ref s).BayInv := h.of_touches (touches_closePlacement s p.ref) rfl
  unfold Machine.endPlacement
  exact (((hclosed.modBay (i := p.dest.bay) ((hclosed.1 _).releaseRun _) (Bay.releaseRun_kind _)).of_touches
    (touches_modBoard _ p.ref BoardRec.fixed_unplaced) rfl).of_touches (touches_settleNest _ tag p.ref.nest) rfl).of_touches
    (touches_post _ tag _) rfl

theorem State.BayInv.completeSensed (h : s.BayInv) (tag : Half) (r : BoardRef) : (completeSensed tag r s).BayInv := by
  unfold Machine.completeSensed
  split
  next =>
    split
    next =>
      split
      next => exact h.completePlacement tag _ _
      next => exact h
    next => exact h
  next => exact h

theorem judgeOpen_bayInv (h : s.BayInv) (cycle : Half) (it : Item) (p : PickerId) : (judgeOpen cycle it p s).state.BayInv := by
  have hjaws : (s.jawsOpening p).BayInv := h
  have hopen : (openPicker it.tag p s).BayInv := by
    cases hr : (s.picker p).board with
    | none =>
      rw [openPicker_unbound it.tag hr]
      exact hjaws
    | some r =>
      rw [openPicker_bound it.tag hr]
      exact State.BayInv.completeSensed (s := modBoard r (fun b => { b.released with picker := none }) (s.jawsOpening p)) hjaws it.tag r
  unfold judgeOpen
  split
  next => exact h
  next =>
    split
    next => exact hopen
    next => exact hopen
    next => exact h

theorem State.BayInv.dropReservation (h : s.BayInv) (r : BoardRef) : (dropReservation r s).BayInv := by
  unfold Machine.dropReservation
  split
  next p _ =>
    have hclosed : (closePlacement r s).BayInv := h.of_touches (touches_closePlacement s r) rfl
    exact hclosed.modBay (i := p.dest.bay) ((hclosed.1 _).releaseRun _) (Bay.releaseRun_kind _)
  next => exact h

theorem takeGripState_bayInv (h : s.BayInv) (w : Wire) (p : PickerId) (cycle : Half) : (takeGripState w p cycle s).BayInv := by
  have hloss {t : State} (ht : t.BayInv) (r : BoardRef) (b : BoardRec) : (gripLoss w.tag p cycle r b t).BayInv := by
    have hempty (st : BoardState) : (emptyPicker p (unbind p (modBoard r (fun b => { b with state := st }) t))).BayInv :=
      ((ht.of_touches (touches_modBoard t r (by exact fun _ => rfl)) rfl).of_touches (touches_unbind _ p) rfl).of_touches
        (touches_emptyPicker _ p) rfl
    have hdrop := (((hempty .lost).dropReservation r).of_touches (touches_post _ w.tag (.gripLost p r .lost cycle)) rfl).of_touches
      (touches_settleNest _ w.tag r.nest) rfl
    unfold gripLoss
    split
    next =>
      refine State.BayInv.of_touches ?_ (touches_post _ w.tag _) rfl
      split
      next => exact (hempty .attached).of_touches (touches_abortBound _ _) rfl
      next => exact hempty .attached
    next => exact hdrop
    next => exact hdrop
    next => exact ht
  unfold takeGripState
  split
  next jaws sensed _ _ =>
    have htaken := h.of_touches (touches_modPicker s p fun k => { k with lastJaws := some jaws, lastSensed := some sensed }) rfl
    dsimp only
    split
    next =>
      split
      next => exact htaken.of_touches (touches_post _ w.tag _) rfl
      next => exact htaken
    next => exact htaken.of_touches (touches_closingReport _ w.tag p cycle jaws sensed) rfl
    next =>
      unfold holdingReport
      split
      next => exact htaken
      next =>
        split
        next =>
          split
          next => exact hloss htaken _ _
          next => exact htaken
        next => exact htaken
    next =>
      split
      next => exact htaken.of_touches (touches_emptyPicker _ p) rfl
      next => exact htaken
    next => exact htaken
  next => exact h.of_touches (touches_post s _ _) rfl

theorem bays_foldl_removePlacement (tag : Half) (l : List Placement) (s : State) : (l.foldl (removePlacement tag) s).bays = s.bays :=
  (touches_foldl (fun s p => touches_removePlacement s tag p) l s).at .bays rfl

theorem setBay_setBay (i : BayId) (x y : Bay) (s : State) : setBay i y (setBay i x s) = setBay i y s := by
  simp only [setBay, Vector.set_set]

/-- Two changes of one bay. -/
theorem modBay_modBay (i : BayId) (f g : Bay → Bay) (s : State) : modBay i g (modBay i f s) = modBay i (fun b => g (f b)) s := by
  simp only [modBay_eq, bay_setBay_same, setBay_setBay]

/-- R83: a magazine is removed, which the presence recorded before has told. -/
theorem removeMagazine_bayInv (h : s.BayInv) (hk : (s.bay i).kind ≠ .none) (tag : Half) :
    (removeMagazine tag i (modBay i (fun b => { b with presence := .notPresent }) s)).BayInv := by
  have hs : (modBay i (fun b => { b with state := .absent, table := none, reserved := 0 })
      (modBay i (fun b => { b with presence := .notPresent }) s)).BayInv := by
    rw [modBay_modBay]
    exact h.modBay ((h.1 i).absent hk) rfl
  refine bayInv_dependsOn _ _ (fun p hp => List.mem_singleton.mp hp ▸ ?_) hs
  unfold removeMagazine
  simp only [State.Same, modBay, setBay, State.bay, bays_foldl_removePlacement]

theorem bayReport_bayInv (h : s.BayInv) (tag : Half) (present : Bool) (id : BayId) : (bayReport tag present id s).BayInv := by
  have hok := h.1 id
  unfold bayReport
  dsimp only
  split
  next hk => exact h.modBay (hok.withPresence (.inl hk)) rfl
  next hk =>
    cases hp : (s.bay id).presence with
    | present =>
      cases present with
      | true => exact h.modBay (hok.withPresence (.inr (.inl ⟨hp, rfl⟩))) rfl
      | false => exact removeMagazine_bayInv h hk tag
    | notPresent =>
      cases present with
      | true =>
        obtain ⟨hins, hkind⟩ := hok.inserted (by simp [hp]) hk
        refine (modBay_modBay id _ _ s).symm ▸ h.modBay ?_ ?_
        · exact hins
        · exact hkind
      | false => exact h.modBay (hok.withPresence (.inr (.inr ⟨by simp [hp], rfl⟩))) rfl
    | unknown =>
      cases present with
      | true =>
        dsimp only
        rw [modBay_modBay]
        exact h.modBay (hok.uncertain (by simp [hp]) hk) rfl
      | false => exact h.modBay (hok.withPresence (.inr (.inr ⟨by simp [hp], rfl⟩))) rfl

theorem takeBayState_bayInv (h : s.BayInv) (w : Wire) (x : Unit) (cycle : Half) : (takeBayState w x cycle s).BayInv := by
  unfold takeBayState
  exact foldl_keeps (P := State.BayInv) (g := fun s id => bayReport w.tag (Operand.present w.payload id) id s)
    (fun _ id ht => bayReport_bayInv ht w.tag _ id) allBays h

/-! ### Stray boards (R95) -/

theorem strayInSlot_bayInv (h : s.BayInv) (tag : Half) {id : BayId} {v slots pitch : Nat} {dir : FillDir} {t : SlotTable} (slot : Nat)
    (hst : (s.bay id).state = .ready ∨ (s.bay id).state = .full) (hk : (s.bay id).kind = .normal v slots pitch dir)
    (ht : (s.bay id).table = some t) : (strayInSlot tag id slots dir t slot s).BayInv := by
  have hlen : t.slots.length = slots := by
    rw [((h.1 id).2.2.2.2.2.1 t ht).1, hk]
    rfl
  have hoccupy {u : State} (hu : u.BayInv) :
      (modBay id (fun b => { b with table := b.table.map fun t => t.mark [slot] (.occupied none) }) u).BayInv :=
    hu.modBay ((hu.1 id).markSlot slot _) rfl
  unfold strayInSlot
  dsimp only
  split
  next => exact h
  next => exact h
  next => exact hoccupy h
  next hempty =>
    have hslot : slot < t.slots.length := (List.getElem?_eq_some_iff.mp hempty).1
    have hmarked := h.modBay (i := id) (f := fun b => { b with table := some (t.strayAt dir slots slot) })
      (hlen ▸ (h.1 id).strayAt ht dir hslot) rfl
    split
    next =>
      refine hmarked.becomeFull tag ?_
      rw [bay_modBay, if_pos rfl]
      exact hst
    next => exact hmarked
  next =>
    split
    next p _ => exact hoccupy (h.endPlacement tag p .stray)
    next => exact hoccupy h

theorem strayInReject_bayInv (h : s.BayInv) (tag : Half) {id : BayId} {capacity : Nat}
    (hst : (s.bay id).state = .ready ∨ (s.bay id).state = .full) (hk : (s.bay id).kind = .reject capacity) :
    (strayInReject tag id capacity s).BayInv := by
  have hplaced := h.modBay (i := id) (f := fun b => { b with placed := min capacity (b.placed + 1) }) ((h.1 id).strayPlaced hk) rfl
  unfold strayInReject
  dsimp only
  split
  next =>
    refine hplaced.becomeFull tag ?_
    rw [bay_modBay, if_pos rfl]
    exact hst
  next => exact hplaced

theorem takePlaceDone_bayInv (h : s.BayInv) (w : Wire) (x : Unit) (cycle : Half) : (takePlaceDone w x cycle s).BayInv := by
  unfold takePlaceDone
  split
  next => exact h.of_touches (touches_post s _ _) rfl
  next sensed _ =>
    split
    next q _ =>
      unfold takeMatched
      split
      next => exact h.endPlacement w.tag q .notSensed
      next =>
        split
        next => exact h.completePlacement w.tag q cycle
        next => exact h
    next =>
      have hposted := h.of_touches
        (touches_post s w.tag (.strayPlace (Operand.placeBay w.payload) (Operand.placeFirst w.payload) sensed cycle)) rfl
      unfold strayPlace
      dsimp only
      split
      next id _ =>
        split
        next =>
          unfold strayInBay
          dsimp only
          split
          next hst =>
            split
            next hk => exact strayInReject_bayInv hposted w.tag hst hk
            next hk ht => exact strayInSlot_bayInv hposted w.tag _ hst hk ht
            next => exact hposted
          next => exact hposted
        next => exact hposted
      next => exact hposted

/-! ### BAY-CONFIG, BAY-PRESET and the resets -/

theorem configKind_ok {p : Payload} {kind : BayKind} {moved : Bool} (h : configKind p = some (kind, moved)) : kind.Ok := by
  have hv : Operand.bayVariant p ≤ 255 := Nat.le_of_lt_succ (BitVec.isLt _)
  have hslots := clampTo_mem (lo := 1) (hi := 120) (by omega) (Operand.baySlots p)
  have hpitch := clampTo_mem (lo := 10) (hi := 200) (by omega) (Operand.bayPitch p)
  unfold configKind at h
  dsimp only at h
  split at h
  next =>
    obtain ⟨rfl, -⟩ := Prod.mk.inj (Option.some.inj h)
    trivial
  next =>
    split at h
    next => cases h
    next hvar =>
      have hvar : 1 ≤ Operand.bayVariant p := Nat.one_le_iff_ne_zero.mpr hvar
      split at h
      next =>
        obtain ⟨rfl, -⟩ := Prod.mk.inj (Option.some.inj h)
        exact ⟨⟨hvar, hv⟩, hslots, hpitch⟩
      next =>
        split at h
        next =>
          obtain ⟨rfl, -⟩ := Prod.mk.inj (Option.some.inj h)
          exact ⟨⟨hvar, hv⟩, hslots, hpitch⟩
        next => cases h
  next =>
    obtain ⟨rfl, -⟩ := Prod.mk.inj (Option.some.inj h)
    exact clampTo_mem (by omega) _
  next => cases h

theorem mem_allBays (i : BayId) : i ∈ allBays := by
  fin_cases i <;> simp [allBays]

theorem requestBayConfig_bayInv (h : s.BayInv) (p : Payload) : (requestBayConfig p s).1.BayInv := by
  unfold requestBayConfig
  split
  next id kind moved _ hkind =>
    split
    next => exact h
    next hother =>
      split
      next => exact h
      next =>
        dsimp only
        have hnew (j : BayId) : (setBay id ((s.bay id).configured kind) s).bay j =
            if id = j then (s.bay id).configured kind else s.bay j := bay_setBay ..
        have hfree (hr : kind.isReject = true) (j : BayId) (hj : j ≠ id) : (s.bay j).kind.isReject = false := by
          have hnone : s.otherReject id = false := by simpa [hr] using hother
          have := List.any_eq_false.mp hnone j (mem_allBays j)
          simpa [hj] using this
        refine ⟨fun j => ?_, fun j k hj hk => ?_⟩
        · rw [hnew]
          split
          next => exact Bay.ok_configured (configKind_ok hkind) _
          next => exact h.1 j
        · rw [hnew] at hj hk
          split at hj
          next hij =>
            split at hk
            next hik => exact hij.symm.trans hik
            next hik => exact absurd hk (by simp [hfree hj k (Ne.symm hik)])
          next hij =>
            split at hk
            next hik => exact absurd hj (by simp [hfree hk j (Ne.symm hij)])
            next => exact h.2 j k hj hk
  next => exact h

theorem requestBayPreset_bayInv (h : s.BayInv) (tag : Half) (p : Payload) : (requestBayPreset tag p s).1.BayInv := by
  unfold requestBayPreset
  split
  next => exact h
  next id _ =>
    dsimp only
    split
    next => exact h
    next hst =>
      split
      next => exact h
      next =>
        obtain ⟨hok, hk, hready⟩ := (h.1 id).preset hst (c := min (Operand.fillCount p) (s.bay id).kind.limit) (Nat.min_le_right _ _)
        have hpreset := h.modBay (f := fun b => b.preset (min (Operand.fillCount p) (s.bay id).kind.limit)) hok hk
        split
        next =>
          refine hpreset.becomeFull tag (.inl ?_)
          rw [bay_modBay, if_pos rfl]
          exact hready
        next => exact hpreset

theorem powerOnValues_bayInv (straps : Station) (pins : Pins) : (powerOnValues straps pins s).BayInv := by
  have hbay (i : BayId) : (powerOnValues straps pins s).bay i = Bay.initial := by
    fin_cases i <;> rfl
  refine ⟨fun i => ?_, fun i j hi => ?_⟩
  · rw [hbay]
    exact Bay.ok_initial
  · rw [hbay] at hi
    cases hi

theorem linkReset_bayInv (h : s.BayInv) : (linkReset s).BayInv := by
  have hbay (i : BayId) : (linkReset s).bay i = (s.bay i).linkReset := by
    simp only [linkReset, State.bay, Fin.getElem_fin, Vector.getElem_map]
  refine ⟨fun i => ?_, fun i j hi hj => ?_⟩
  · rw [hbay]
    exact Bay.ok_configured (h.1 i).1 _
  · rw [hbay] at hi hj
    exact h.2 i j hi hj

theorem exec_bayInv {c : Instr} {t : State} (h : s.BayInv) (hx : exec c s = .next t) : t.BayInv := by
  have hP := bayInv_dependsOn
  by_cases hc : Part.apart [.bays] (footprint c) = true
  · exact (touches_of_exec hx).keeps hP h hc
  · cases c with
    | openJaws w => exact Host.Outcome.next.inj hx ▸ walkGated_keeps hP rfl h (judgeOpen_bayInv h)
    | place w => exact Host.Outcome.next.inj hx ▸ walkGated_keeps hP rfl h (judgePlace_bayInv h)
    | gripState w => exact Host.Outcome.next.inj hx ▸ walkReport_keeps hP rfl h (takeGripState_bayInv h w)
    | bayState w => exact Host.Outcome.next.inj hx ▸ walkReport_keeps hP rfl h (takeBayState_bayInv h w)
    | placeDone w => exact Host.Outcome.next.inj hx ▸ walkReport_keeps hP rfl h (takePlaceDone_bayInv h w)
    | placeTimerExpiry n j =>
      obtain rfl := Host.Outcome.next.inj hx
      split
      next x _ => exact expire_keeps hP rfl h fun _ ht => ht.endPlacement 0 x .timeout
      next => exact h
    | bayConfig w => exact Host.Outcome.next.inj hx ▸ walkRequest_keeps hP rfl h (requestBayConfig_bayInv h w.payload)
    | bayPreset w => exact Host.Outcome.next.inj hx ▸ walkRequest_keeps hP rfl h (requestBayPreset_bayInv h w.tag w.payload)
    | powerOnReset a => exact Host.Outcome.next.inj hx ▸ powerOnValues_bayInv a _
    | pinReset a => exact Host.Outcome.next.inj hx ▸ powerOnValues_bayInv (s := s) a { s.pins with nreset := false }
    | reset w => exact Host.Outcome.next.inj hx ▸ walkRequest_keeps hP rfl h (linkReset_bayInv h)
    | _ => exact absurd rfl hc

end Bays

/-! ### The fixed fields of the boards (R18, R22) -/

section Boards
variable {s t : State}

theorem boardInv_iff : s.BoardInv ↔ ∀ n, ∀ b ∈ (s.nest n).boards, b.TemplateOk :=
  ⟨fun h n => by cases n; exacts [h.1, h.2], fun h => ⟨h .a, h .b⟩⟩

theorem boardInv_dependsOn : DependsOn [.panel] State.BoardInv := by
  intro s t h hs
  refine boardInv_iff.mpr fun n b hb => ?_
  have hpanel : (t.nest n).panel = (s.nest n).panel := h .panel (by simp) n
  have hfixed : (t.nest n).boards.map BoardRec.fixed = (s.nest n).boards.map BoardRec.fixed := congrArg (fun x => x.2.2.1) hpanel
  have hmem : b.fixed ∈ (s.nest n).boards.map BoardRec.fixed := hfixed ▸ List.mem_map_of_mem hb
  obtain ⟨x, hx, heq⟩ := List.mem_map.mp hmem
  have hok := boardInv_iff.mp hs n x hx
  simp only [BoardRec.fixed, Prod.mk.injEq] at heq
  obtain ⟨hv, hh, hhold, -⟩ := heq
  exact ⟨hv ▸ hok.1, hh ▸ hok.2.1, hhold ▸ hok.2.2⟩

/-- R22: the boards of a READY slot's templates. -/
theorem RecipeSlot.Ok.loadBoards_templateOk {r : RecipeSlot} (h : r.Ok) (hs : r.state = .ready) (marked : Nat → Bool) :
    ∀ b ∈ loadBoards r marked, b.TemplateOk := by
  intro b hb
  obtain ⟨k, hk, rfl⟩ := List.mem_map.mp hb
  have hk := List.mem_range.mp hk
  obtain ⟨t, ht⟩ := Option.isSome_iff_exists.mp ((h.templates hs).1 _ (List.getElem_mem hk))
  have hok := h.2.2.1 _ (List.getElem_mem hk) t ht
  simpa [BoardRec.TemplateOk, hk, ht] using hok

theorem State.BoardInv.setNest (h : s.BoardInv) {n : Nest} {x : NestRec} (hx : ∀ b ∈ x.boards, b.TemplateOk) : (setNest n x s).BoardInv := by
  refine boardInv_iff.mpr fun m => ?_
  rw [nest_setNest]
  split
  next => exact hx
  next => exact boardInv_iff.mp h m

theorem requestNestLoad_boardInv (hr : s.RecipeInv) (h : s.BoardInv) (p : Payload) : (requestNestLoad p s).1.BoardInv := by
  unfold requestNestLoad
  split
  next n i _ _ =>
    dsimp only
    split
    next => exact h
    next =>
      split
      next => exact h
      next hready => exact h.setNest (n := n) ((hr.1 i).1.loadBoards_templateOk (not_not.mp hready) _)
  next => exact h

theorem requestNestUnload_boardInv (h : s.BoardInv) (p : Payload) : (requestNestUnload p s).1.BoardInv := by
  unfold requestNestUnload
  split
  next => exact h
  next n _ =>
    dsimp only
    split
    next => exact h
    next =>
      split
      next => exact h
      next => exact h.setNest (n := n) (List.forall_mem_nil _)

theorem powerOnValues_boardInv (straps : Station) (pins : Pins) : (powerOnValues straps pins s).BoardInv :=
  ⟨List.forall_mem_nil _, List.forall_mem_nil _⟩

theorem linkReset_boardInv : (linkReset s).BoardInv := ⟨List.forall_mem_nil _, List.forall_mem_nil _⟩

theorem exec_boardInv {c : Instr} (hr : s.RecipeInv) (h : s.BoardInv) (hx : exec c s = .next t) : t.BoardInv := by
  have hP := boardInv_dependsOn
  by_cases hc : Part.apart [.panel] (footprint c) = true
  · exact (touches_of_exec hx).keeps hP h hc
  · cases c with
    | nestLoad w => exact Host.Outcome.next.inj hx ▸ walkRequest_keeps hP rfl h (requestNestLoad_boardInv hr h w.payload)
    | nestUnload w => exact Host.Outcome.next.inj hx ▸ walkRequest_keeps hP rfl h (requestNestUnload_boardInv h w.payload)
    | powerOnReset a => exact Host.Outcome.next.inj hx ▸ powerOnValues_boardInv a _
    | pinReset a =>
      obtain rfl := Host.Outcome.next.inj hx
      exact Touches.keeps (F := [.lanes, .cuts]) (.of_take rfl rfl) hP
        (powerOnValues_boardInv (s := s) a { s.pins with nreset := false }) rfl
    | reset w => exact Host.Outcome.next.inj hx ▸ walkRequest_keeps hP rfl h linkReset_boardInv
    | _ => exact absurd rfl hc

end Boards

end Sys2Proof.Machine

/-! One bay and the placements open in it (R78, R88, R90, R95, R96). -/

namespace Sys2Proof.Machine

/-- R78, R88: a slot table is in order, and its RESERVED slots are the runs of the placements open in it. -/
structure SlotTable.Fits (t : SlotTable) (dir : FillDir) (ps : List Placement) : Prop where
  ordered : ∀ (j : Nat) (x : SlotState), t.slots[j]? = some x → (x = .empty ↔ t.cursor ≤ slotAt dir t.slots.length j)
  owned : ∀ (j : Nat) (r : BoardRef), t.slots[j]? = some (.reserved r) →
    ∃ p ∈ ps, p.ref = r ∧ j ∈ runSlots dir p.dest.first p.dest.span
  run : ∀ p ∈ ps, 1 ≤ p.dest.span ∧ ∀ j ∈ runSlots dir p.dest.first p.dest.span, t.slots[j]? = some (.reserved p.ref)

section Table
variable {t : SlotTable} {dir : FillDir} {ps : List Placement} {p : Placement}

/-- Placements of one board are the same. -/
theorem eq_of_ref {l : List Placement} (h : (l.map Placement.ref).Nodup) {p q : Placement} (hp : p ∈ l) (hq : q ∈ l) (hr : p.ref = q.ref) :
    p = q := List.inj_on_of_nodup_map h hp hq hr

/-- R92, R93: a run whose placement ends is RESERVED no more. -/
theorem SlotTable.Fits.endRun (h : t.Fits dir ps) (hn : (ps.map Placement.ref).Nodup) (hp : p ∈ ps) {v : SlotState} (hv : v ≠ .empty)
    (hv' : ∀ r, v ≠ .reserved r) :
    (t.mark (runSlots dir p.dest.first p.dest.span) v).Fits dir (ps.filter fun q => q.ref != p.ref) := by
  have hrun := (h.run p hp).2
  refine ⟨fun j x hx => ?_, fun j r hj => ?_, fun q hq => ?_⟩
  · rw [SlotTable.getElem?_mark] at hx
    rw [SlotTable.length_mark, SlotTable.cursor_mark]
    split at hx
    next hj =>
      obtain rfl := Option.some.inj hx
      have := h.ordered j _ (hrun j hj.1)
      simp only [reduceCtorEq, false_iff] at this
      simp [hv, this]
    next => exact h.ordered j x hx
  · rw [SlotTable.getElem?_mark] at hj
    split at hj
    next => exact absurd (Option.some.inj hj) (hv' r)
    next hnot =>
      obtain ⟨q, hq, hr, hmem⟩ := h.owned j r hj
      refine ⟨q, List.mem_filter.mpr ⟨hq, ?_⟩, hr, hmem⟩
      rw [bne_iff_ne]
      intro heq
      obtain rfl := eq_of_ref hn hq hp heq
      exact hnot ⟨hmem, (List.getElem?_eq_some_iff.mp hj).1⟩
  · obtain ⟨hq, hne⟩ := List.mem_filter.mp hq
    rw [bne_iff_ne] at hne
    obtain ⟨hspan, hslots⟩ := h.run q hq
    refine ⟨hspan, fun j hj => ?_⟩
    rw [SlotTable.getElem?_mark, if_neg, hslots j hj]
    rintro ⟨hjp, -⟩
    have := (hslots j hj).symm.trans (hrun j hjp)
    exact hne (SlotState.reserved.inj (Option.some.inj this))

/-- R88: the slots at the cursor are EMPTY, and become a run. -/
theorem SlotTable.Fits.reserve (h : t.Fits dir ps) (hfirst : p.dest.first = slotAt dir t.slots.length t.cursor) (hspan : 1 ≤ p.dest.span)
    (hroom : t.cursor + p.dest.span ≤ t.slots.length) :
    SlotTable.Fits { t.mark (runSlots dir p.dest.first p.dest.span) (.reserved p.ref) with cursor := t.cursor + p.dest.span } dir
      (ps ++ [p]) := by
  have hmem (j : Nat) := mem_runSlots (dir := dir) (j := j) hroom
  rw [← hfirst] at hmem
  have hget (j : Nat) : (t.mark (runSlots dir p.dest.first p.dest.span) (.reserved p.ref)).slots[j]? =
      if j < t.slots.length ∧ t.cursor ≤ slotAt dir t.slots.length j ∧ slotAt dir t.slots.length j < t.cursor + p.dest.span then
        some (.reserved p.ref) else t.slots[j]? := by
    rw [SlotTable.getElem?_mark]
    simp only [hmem]
    by_cases hj : j < t.slots.length
    · simp only [hj, true_and, and_true]
    · simp only [hj, false_and, and_false]
  refine ⟨fun j x hx => ?_, fun j r hj => ?_, fun q hq => ?_⟩
  · dsimp only at hx ⊢
    rw [hget] at hx
    rw [SlotTable.length_mark]
    split at hx
    next hj =>
      obtain rfl := Option.some.inj hx
      simp only [reduceCtorEq, false_iff]
      omega
    next hj =>
      have hlt := (List.getElem?_eq_some_iff.mp hx).1
      rw [h.ordered j x hx]
      omega
  · dsimp only at hj
    rw [hget] at hj
    split at hj
    next hc =>
      exact ⟨p, by simp, SlotState.reserved.inj (Option.some.inj hj), (hmem j).mpr hc⟩
    next =>
      obtain ⟨q, hq, hr, hq'⟩ := h.owned j r hj
      exact ⟨q, List.mem_append_left _ hq, hr, hq'⟩
  · dsimp only
    rcases List.mem_append.mp hq with hq | hq
    · obtain ⟨hs, hslots⟩ := h.run q hq
      refine ⟨hs, fun j hj => ?_⟩
      have hold := hslots j hj
      have := h.ordered j _ hold
      simp only [reduceCtorEq, false_iff] at this
      rw [hget, if_neg (by omega), hold]
    · obtain rfl := List.mem_singleton.mp hq
      refine ⟨hspan, fun j hj => ?_⟩
      rw [hget, if_pos ((hmem j).mp hj)]

/-- R95: a slot that is neither EMPTY nor RESERVED takes a board. -/
theorem SlotTable.Fits.occupy (h : t.Fits dir ps) {slot : Nat} {x : SlotState} (hs : t.slots[slot]? = some x) (hx : x ≠ .empty)
    (hx' : ∀ r, x ≠ .reserved r) : (t.mark [slot] (.occupied none)).Fits dir ps := by
  have hget (j : Nat) : (t.mark [slot] (.occupied none)).slots[j]? = if j = slot then some (.occupied none) else t.slots[j]? := by
    rw [SlotTable.getElem?_mark]
    simp only [List.mem_singleton]
    by_cases hj : j = slot
    · subst hj
      rw [if_pos ⟨rfl, (List.getElem?_eq_some_iff.mp hs).1⟩, if_pos rfl]
    · rw [if_neg (fun hc => hj hc.1), if_neg hj]
  refine ⟨fun j y hy => ?_, fun j r hj => ?_, fun q hq => ?_⟩
  · rw [hget] at hy
    rw [SlotTable.length_mark, SlotTable.cursor_mark]
    split at hy
    next hj =>
      subst hj
      obtain rfl := Option.some.inj hy
      have := h.ordered j x hs
      simp only [hx, false_iff] at this
      simp [this]
    next => exact h.ordered j y hy
  · rw [hget] at hj
    split at hj
    next => cases hj
    next => exact h.owned j r hj
  · obtain ⟨hspan, hslots⟩ := h.run q hq
    refine ⟨hspan, fun j hj => ?_⟩
    rw [hget, if_neg]
    · exact hslots j hj
    · rintro rfl
      exact hx' q.ref (Option.some.inj (hs.symm.trans (hslots j hj)))

/-- R95: a board in an EMPTY slot takes the slots before it out of use. -/
theorem SlotTable.Fits.strayAt (h : t.Fits dir ps) {slot : Nat} (hs : t.slots[slot]? = some .empty) :
    (t.strayAt dir t.slots.length slot).Fits dir ps := by
  have hlt := (List.getElem?_eq_some_iff.mp hs).1
  have hpos := (h.ordered slot .empty hs).mp rfl
  have hcur : (t.strayAt dir t.slots.length slot).cursor = slotAt dir t.slots.length slot + 1 := rfl
  refine ⟨fun j y hy => ?_, fun j r hj => ?_, fun q hq => ?_⟩
  · have hj := (List.getElem?_eq_some_iff.mp hy).1
    rw [SlotTable.length_strayAt] at hj
    have hinj : slotAt dir t.slots.length j = slotAt dir t.slots.length slot → j = slot := fun he => by
      rw [← slotAt_slotAt (dir := dir) hj, he, slotAt_slotAt hlt]
    rw [SlotTable.getElem?_strayAt t dir hlt] at hy
    rw [SlotTable.length_strayAt, hcur]
    split at hy
    next heq =>
      obtain rfl := Option.some.inj hy
      simp [heq]
    next hne =>
      split at hy
      next hb =>
        obtain rfl := Option.some.inj hy
        simp only [reduceCtorEq, false_iff]
        omega
      next hb =>
        rw [h.ordered j y hy]
        have : slotAt dir t.slots.length j ≠ slotAt dir t.slots.length slot := fun he => hne (hinj he)
        omega
  · rw [SlotTable.getElem?_strayAt t dir hlt] at hj
    split at hj
    next => cases hj
    next =>
      split at hj
      next => cases hj
      next => exact h.owned j r hj
  · obtain ⟨hspan, hslots⟩ := h.run q hq
    refine ⟨hspan, fun j hj => ?_⟩
    have hold := hslots j hj
    have hord := h.ordered j _ hold
    simp only [reduceCtorEq, false_iff] at hord
    rw [SlotTable.getElem?_strayAt t dir hlt, if_neg, if_neg (by omega), hold]
    rintro rfl
    simp [hs] at hold

theorem SlotTable.fits_empty (slots : Nat) (dir : FillDir) :
    SlotTable.Fits { slots := List.replicate slots .empty, cursor := 0 } dir [] := by
  refine ⟨fun j x hx => ?_, fun j r hj => ?_, fun p hp => by cases hp⟩
  · rw [List.getElem?_replicate] at hx
    split at hx
    · obtain rfl := Option.some.inj hx
      simp
    · cases hx
  · rw [List.getElem?_replicate] at hj
    split at hj <;> cases hj

/-- R84: the first slots in fill order are taken. -/
theorem SlotTable.fits_preset {slots c : Nat} (hc : c ≤ slots) (dir : FillDir) :
    SlotTable.Fits (SlotTable.mark { slots := List.replicate slots .empty, cursor := c } ((List.range c).map (slotAt dir slots))
      (.occupied none)) dir [] := by
  have hmem (j : Nat) : j ∈ (List.range c).map (slotAt dir slots) ∧ j < slots ↔ j < slots ∧ slotAt dir slots j < c := by
    simp only [List.mem_map, List.mem_range]
    constructor
    · rintro ⟨⟨q, hq, rfl⟩, hj⟩
      rw [slotAt_slotAt (by omega)]
      exact ⟨hj, hq⟩
    · rintro ⟨hj, hq⟩
      exact ⟨⟨_, hq, slotAt_slotAt hj⟩, hj⟩
  have hget (j : Nat) : (SlotTable.mark { slots := List.replicate slots .empty, cursor := c } ((List.range c).map (slotAt dir slots))
      (.occupied none)).slots[j]? = if j < slots ∧ slotAt dir slots j < c then some (.occupied none)
        else if j < slots then some .empty else none := by
    rw [SlotTable.getElem?_mark]
    simp only [List.length_replicate, hmem, List.getElem?_replicate]
  refine ⟨fun j x hx => ?_, fun j r hj => ?_, fun p hp => by cases hp⟩
  · rw [hget] at hx
    simp only [SlotTable.length_mark, SlotTable.cursor_mark, List.length_replicate]
    split at hx
    next hj =>
      obtain rfl := Option.some.inj hx
      simp only [reduceCtorEq, false_iff]
      omega
    next hj =>
      split at hx
      next hlt =>
        obtain rfl := Option.some.inj hx
        simp only [true_iff]
        omega
      next => cases hx
  · rw [hget] at hj
    split at hj
    next => cases hj
    next => split at hj <;> cases hj

end Table

/-! ### Bays -/

/-- R78, R88, R96: the placements open in a bay account for what it has reserved, and FULL is as the spec has it. -/
def Bay.Fits (b : Bay) (ps : List Placement) : Prop :=
  match b.kind, b.table with
  | .normal _ slots _ dir, some t => t.Fits dir ps ∧ (b.state = .ready → t.cursor < slots)
  | .reject capacity, _ => (∀ p ∈ ps, p.dest.first = 0 ∧ p.dest.span = 1) ∧ b.reserved = ps.length ∧
      (b.state = .ready → b.reserved + b.placed < capacity) ∧ (b.state = .full → capacity ≤ b.reserved + b.placed)
  | _, _ => ps = []

section Bays
variable {b : Bay} {ps : List Placement} {p : Placement} {v slots pitch capacity : Nat} {dir : FillDir} {t : SlotTable}

theorem Bay.fits_normal (hk : b.kind = .normal v slots pitch dir) (ht : b.table = some t) :
    b.Fits ps ↔ t.Fits dir ps ∧ (b.state = .ready → t.cursor < slots) := by
  simp only [Bay.Fits, hk, ht]

theorem Bay.fits_reject (hk : b.kind = .reject capacity) :
    b.Fits ps ↔ (∀ p ∈ ps, p.dest.first = 0 ∧ p.dest.span = 1) ∧ b.reserved = ps.length ∧
      (b.state = .ready → b.reserved + b.placed < capacity) ∧ (b.state = .full → capacity ≤ b.reserved + b.placed) := by
  simp only [Bay.Fits, hk]

theorem Bay.fits_bare (hk : b.kind.isReject = false) (ht : b.table = none) : b.Fits ps ↔ ps = [] := by
  unfold Bay.Fits
  split
  next h1 h2 => simp [ht] at h2
  next h1 => simp [h1, BayKind.isReject] at hk
  next => exact Iff.rfl

theorem Bay.fits_kindless (hk : b.kind = .none) : b.Fits ps ↔ ps = [] := by
  simp only [Bay.Fits, hk]

theorem length_filter_ref (hn : (ps.map Placement.ref).Nodup) (hp : p ∈ ps) :
    (ps.filter fun q => q.ref != p.ref).length = ps.length - 1 := by
  have hcount : ps.countP (fun q => q.ref == p.ref) = 1 := by
    have := List.count_eq_one_of_mem hn (List.mem_map_of_mem hp)
    rwa [List.count, List.countP_map] at this
  have := ps.length_eq_countP_add_countP (fun q => q.ref == p.ref)
  rw [← List.countP_eq_length_filter]
  simp only [bne]
  simp only [Bool.not_eq_true, Bool.decide_eq_false] at this
  omega

theorem forall_mem_filter {P : Placement → Prop} {f : Placement → Bool} (h : ∀ q ∈ ps, P q) : ∀ q ∈ ps.filter f, P q :=
  fun q hq => h q (List.mem_filter.mp hq).1

/-- R93: the run of a placement that ends without a board is SKIPPED. -/
theorem Bay.Fits.releaseRun (h : b.Fits ps) (hn : (ps.map Placement.ref).Nodup) (hp : p ∈ ps) :
    (b.releaseRun p.dest).Fits (ps.filter fun q => q.ref != p.ref) := by
  have hlen := length_filter_ref hn hp
  have hpos := List.length_pos_of_mem hp
  obtain ⟨kind, state, presence, table, reserved, placed⟩ := b
  match kind, table with
  | .none, _ => exact absurd hp (by rw [show ps = [] from h]; simp)
  | .normal _ _ _ _, none => exact absurd hp (by rw [show ps = [] from h]; simp)
  | .normal v slots pitch dir, some t =>
    obtain ⟨hfits, hroom⟩ := h
    exact ⟨hfits.endRun hn hp (by simp) (by simp), hroom⟩
  | .reject capacity, _ =>
    obtain ⟨hdest, hres, hready, hfull⟩ := h
    dsimp only at hres hready hfull
    refine ⟨forall_mem_filter hdest, ?_, ?_, ?_⟩
    · change reserved - 1 = _
      rw [hlen, hres]
    · change (if state = .full ∧ reserved - 1 + placed < capacity then BayState.ready else state) = .ready → reserved - 1 + placed < capacity
      split
      next hc => exact fun _ => hc.2
      next =>
        intro hs
        have := hready hs
        omega
    · change (if state = .full ∧ reserved - 1 + placed < capacity then BayState.ready else state) = .full → capacity ≤ reserved - 1 + placed
      split
      next => exact fun hs => nomatch hs
      next hc =>
        intro hs
        by_contra hlt
        exact hc ⟨hs, by omega⟩

/-- R92: the run of a completed placement is OCCUPIED. -/
theorem Bay.Fits.filled (h : b.Fits ps) (hok : b.Ok) (hn : (ps.map Placement.ref).Nodup) (hp : p ∈ ps) (x : SlotRef) :
    (b.filled p.dest x).Fits (ps.filter fun q => q.ref != p.ref) := by
  have hlen := length_filter_ref hn hp
  have hpos := List.length_pos_of_mem hp
  obtain ⟨-, -, -, -, -, -, -, h8, -⟩ := hok
  obtain ⟨kind, state, presence, table, reserved, placed⟩ := b
  match kind, table with
  | .none, _ => exact absurd hp (by rw [show ps = [] from h]; simp)
  | .normal _ _ _ _, none => exact absurd hp (by rw [show ps = [] from h]; simp)
  | .normal v slots pitch dir, some t =>
    obtain ⟨hfits, hroom⟩ := h
    exact ⟨hfits.endRun hn hp (by simp) (by simp), hroom⟩
  | .reject capacity, _ =>
    obtain ⟨hdest, hres, hready, hfull⟩ := h
    have hplaced : placed ≤ capacity := h8 rfl
    dsimp only at hres hready hfull
    refine ⟨forall_mem_filter hdest, ?_, ?_, ?_⟩
    · change reserved - 1 = _
      rw [hlen, hres]
    · change state = .ready → reserved - 1 + min capacity (placed + 1) < capacity
      intro hs
      have := hready hs
      omega
    · change state = .full → capacity ≤ reserved - 1 + min capacity (placed + 1)
      intro hs
      have := hfull hs
      omega

/-- R96: a bay that is at its limit is FULL. -/
theorem Bay.Fits.full (h : b.Fits ps) (hlim : ∀ capacity, b.kind = .reject capacity → capacity ≤ b.reserved + b.placed) :
    Bay.Fits { b with state := .full } ps := by
  obtain ⟨kind, state, presence, table, reserved, placed⟩ := b
  match kind, table with
  | .none, _ => exact h
  | .normal _ _ _ _, none => exact h
  | .normal v slots pitch dir, some t => exact ⟨h.1, fun hs => (nomatch hs)⟩
  | .reject c, _ => exact ⟨h.1, h.2.1, fun hs => (nomatch hs), fun _ => hlim c rfl⟩

/-- R88, R96: a bay with its run reserved, and judged FULL. -/
def Bay.reservedFor (b : Bay) (d : Destination) (r : BoardRef) : Bay :=
  if (b.reserve d r).atLimit then { b.reserve d r with state := .full } else b.reserve d r

/-- R88: a NORMAL bay takes the run reserved for a board. -/
theorem Bay.Fits.reserve_normal (h : b.Fits ps) (hok : b.Ok) {variant height : Nat} (hfit : b.Takes variant height p.dest)
    (hspan : 1 ≤ p.dest.span) : (b.reservedFor p.dest p.ref).Fits (ps ++ [p]) := by
  obtain ⟨slots, pitch, dir, t, hk, hst, ht, hfirst, -, hroom⟩ := hfit
  have hlen : t.slots.length = slots := by
    obtain ⟨-, -, -, -, -, h6, -⟩ := hok
    rw [(h6 t ht).1, hk]
    rfl
  obtain ⟨kind, state, presence, table, reserved, placed⟩ := b
  obtain rfl : kind = _ := hk
  obtain rfl : table = _ := ht
  obtain ⟨hfits, -⟩ := h
  subst hlen
  have hnew := hfits.reserve hfirst hspan hroom
  unfold Bay.reservedFor
  split
  next => exact ⟨hnew, fun hs => (nomatch hs)⟩
  next hlim =>
    refine ⟨hnew, fun _ => ?_⟩
    have hne : t.cursor + p.dest.span ≠ t.slots.length := fun he =>
      hlim (decide_eq_true (congrArg some he))
    change t.cursor + p.dest.span < t.slots.length
    omega

/-- R88: the REJECT bay takes a board. -/
theorem Bay.Fits.reserve_reject (h : b.Fits ps) (hk : b.kind = .reject capacity) (hst : b.state = .ready) (hfirst : p.dest.first = 0)
    (hspan : p.dest.span = 1) : (b.reservedFor p.dest p.ref).Fits (ps ++ [p]) := by
  obtain ⟨kind, state, presence, table, reserved, placed⟩ := b
  obtain rfl : kind = _ := hk
  obtain rfl : state = _ := hst
  obtain ⟨hdest, hres, hready, -⟩ := h
  have hroom := hready rfl
  dsimp only at hres hroom
  have hdest' : ∀ q ∈ ps ++ [p], q.dest.first = 0 ∧ q.dest.span = 1 := by
    intro q hq
    rcases List.mem_append.mp hq with hq | hq
    · exact hdest q hq
    · rw [List.mem_singleton.mp hq]
      exact ⟨hfirst, hspan⟩
  have hlen : reserved + 1 = (ps ++ [p]).length := by simp [hres]
  unfold Bay.reservedFor
  split
  next hlim =>
    have hfull : reserved + 1 + placed = capacity := of_decide_eq_true hlim
    exact ⟨hdest', hlen, fun hs => (nomatch hs), fun _ => hfull.ge⟩
  next hlim =>
    have hne : reserved + 1 + placed ≠ capacity := fun he =>
      hlim (decide_eq_true (he))
    refine ⟨hdest', hlen, fun _ => ?_, fun hs => (nomatch hs)⟩
    change reserved + 1 + placed < capacity
    omega

end Bays

/-! ### Stray boards and magazines -/

section Magazines
variable {b : Bay} {ps : List Placement} {v slots pitch capacity : Nat} {dir : FillDir} {t : SlotTable}

theorem Bay.Fits.occupy (h : b.Fits ps) (hk : b.kind = .normal v slots pitch dir) (ht : b.table = some t) {slot : Nat} {x : SlotState}
    (hs : t.slots[slot]? = some x) (hx : x ≠ .empty) (hx' : ∀ r, x ≠ .reserved r) :
    Bay.Fits { b with table := b.table.map fun t => t.mark [slot] (.occupied none) } ps := by
  obtain ⟨kind, state, presence, table, reserved, placed⟩ := b
  obtain rfl : kind = _ := hk
  obtain rfl : table = _ := ht
  exact ⟨h.1.occupy hs hx hx', h.2⟩

/-- R95, R96: a stray board takes the slots up to its own, and the bay is judged FULL. -/
theorem Bay.Fits.strayAt (h : b.Fits ps) (hok : b.Ok) (hk : b.kind = .normal v slots pitch dir) (ht : b.table = some t) {slot : Nat}
    (hs : t.slots[slot]? = some .empty) :
    (Bay.atLimit { b with table := some (t.strayAt dir slots slot) } = true →
      Bay.Fits { b with table := some (t.strayAt dir slots slot), state := .full } ps) ∧
    (¬(Bay.atLimit { b with table := some (t.strayAt dir slots slot) } = true ∧ b.state ≠ .full) →
      Bay.Fits { b with table := some (t.strayAt dir slots slot) } ps) := by
  obtain ⟨-, -, -, -, -, h6, -⟩ := hok
  have hlen : t.slots.length = slots := by
    rw [(h6 t ht).1, hk]
    rfl
  obtain ⟨kind, state, presence, table, reserved, placed⟩ := b
  obtain rfl : kind = _ := hk
  obtain rfl : table = _ := ht
  subst hlen
  have hnew := h.1.strayAt hs
  refine ⟨fun _ => ⟨hnew, fun hst => (nomatch hst)⟩, fun hlim => ⟨hnew, fun hst => ?_⟩⟩
  obtain rfl : state = .ready := hst
  have hne : slotAt dir t.slots.length slot + 1 ≠ t.slots.length := by
    simpa [Bay.atLimit, SlotTable.strayAt] using hlim
  have := slotAt_lt (dir := dir) (List.getElem?_eq_some_iff.mp hs).1
  change slotAt dir t.slots.length slot + 1 < t.slots.length
  omega

/-- R95, R96: a stray board in the REJECT bay, which is judged FULL. -/
theorem Bay.Fits.strayReject (h : b.Fits ps) (hok : b.Ok) (hk : b.kind = .reject capacity) :
    (capacity ≤ b.reserved + min capacity (b.placed + 1) → Bay.Fits { b with placed := min capacity (b.placed + 1), state := .full } ps) ∧
    (¬(capacity ≤ b.reserved + min capacity (b.placed + 1) ∧ b.state ≠ .full) →
      Bay.Fits { b with placed := min capacity (b.placed + 1) } ps) := by
  obtain ⟨-, -, -, -, -, -, -, h8, -⟩ := hok
  obtain ⟨kind, state, presence, table, reserved, placed⟩ := b
  obtain rfl : kind = _ := hk
  obtain ⟨hdest, hres, hready, hfull⟩ := h
  have hplaced : placed ≤ capacity := h8 rfl
  dsimp only at hres hready hfull
  refine ⟨fun hlim => ⟨hdest, hres, fun hs => (nomatch hs), fun _ => hlim⟩, fun hlim => ⟨hdest, hres, ?_, ?_⟩⟩
  · rintro rfl
    simpa using hlim
  · rintro rfl
    have := hfull rfl
    change capacity ≤ reserved + min capacity (placed + 1)
    omega

/-- R82: a magazine is inserted where none was. -/
theorem Bay.Fits.inserted (h : b.Fits ps) (hok : b.Ok) (hp : b.presence ≠ .present) (hk : b.kind ≠ .none) :
    (Bay.inserted { b with presence := .present }).Fits ps := by
  obtain ⟨-, ht, hres⟩ := hok.empty_of_notPresent hp hk
  obtain ⟨hkind, -⟩ := hok
  obtain ⟨kind, state, presence, table, reserved, placed⟩ := b
  obtain rfl : table = _ := ht
  obtain rfl : reserved = _ := hres
  match kind with
  | .none => exact absurd rfl hk
  | .normal v slots pitch dir =>
    obtain rfl : ps = [] := h
    exact ⟨SlotTable.fits_empty slots dir, fun _ => hkind.2.1.1⟩
  | .reject capacity =>
    obtain ⟨hdest, hlen, -, -⟩ := h
    exact ⟨hdest, hlen, fun _ => hkind.1, fun hs => (nomatch hs)⟩

/-- A bay without a table, not READY and not FULL, keeps what is open in it. -/
theorem Bay.Fits.idle (h : b.Fits ps) (ht : b.table = none) {x : Bay} (hk : x.kind = b.kind) (htx : x.table = none)
    (hres : x.reserved = b.reserved) (hst : x.state ≠ .ready ∧ x.state ≠ .full) : x.Fits ps := by
  obtain ⟨kind, state, presence, table, reserved, placed⟩ := b
  obtain ⟨kind', state', presence', table', reserved', placed'⟩ := x
  obtain rfl : kind' = kind := hk
  obtain rfl : table = none := ht
  obtain rfl : table' = none := htx
  obtain rfl : reserved' = reserved := hres
  match kind' with
  | .none => exact h
  | .normal .. => exact h
  | .reject capacity => exact ⟨h.1, h.2.1, fun hs => absurd hs hst.1, fun hs => absurd hs hst.2⟩

theorem Bay.Fits.withPresence (h : b.Fits ps) (x : Presence) : Bay.Fits { b with presence := x } ps := h

/-- R79, R80, R83, R99: a bay emptied of its placements. -/
theorem Bay.fits_nil {x : Bay} (ht : x.table = none) (hres : x.reserved = 0) (hst : x.state ≠ .ready ∧ x.state ≠ .full) : x.Fits [] := by
  obtain ⟨kind, state, presence, table, reserved, placed⟩ := x
  obtain rfl : table = none := ht
  obtain rfl : reserved = 0 := hres
  match kind with
  | .none => rfl
  | .normal .. => rfl
  | .reject capacity => exact ⟨by simp, rfl, fun hs => absurd hs hst.1, fun hs => absurd hs hst.2⟩

/-- R84, R96: a magazine declared filled, and judged FULL. -/
theorem Bay.fits_preset (hst : ¬(b.state = .inactive ∨ b.state = .absent)) (hok : b.Ok) (hres : b.reserved = 0) {c : Nat}
    (hc : c ≤ b.kind.limit) :
    (c = b.kind.limit → Bay.Fits { b.preset c with state := .full } []) ∧ (c ≠ b.kind.limit → (b.preset c).Fits []) := by
  obtain ⟨-, h2, -⟩ := hok
  obtain ⟨kind, state, presence, table, reserved, placed⟩ := b
  obtain rfl : reserved = 0 := hres
  match kind with
  | .none => exact absurd (.inl (h2.mpr rfl)) hst
  | .normal v slots pitch dir =>
    have hfits := SlotTable.fits_preset (c := c) hc dir
    refine ⟨fun _ => ⟨hfits, fun hs => (nomatch hs)⟩, fun hne => ⟨hfits, fun _ => ?_⟩⟩
    exact Nat.lt_of_le_of_ne hc hne
  | .reject capacity =>
    have hne (h : c ≠ capacity) : 0 + c < capacity := by
      have : c ≤ capacity := hc
      omega
    refine ⟨fun he => ⟨by simp, rfl, fun hs => (nomatch hs), fun _ => ?_⟩, fun h => ⟨by simp, rfl, fun _ => hne h, fun hs => (nomatch hs)⟩⟩
    change capacity ≤ 0 + c
    have : c = capacity := he
    omega

/-- R79, R84: a bay with no RESERVED slot and no count reserved has no placement open. -/
theorem Bay.Fits.eq_nil (h : b.Fits ps) (hu : b.inUse = false) : ps = [] := by
  simp only [Bay.inUse, Bool.or_eq_false_iff, decide_eq_false_iff_not, Nat.not_lt, Nat.le_zero] at hu
  obtain ⟨hres, hslots⟩ := hu
  obtain ⟨kind, state, presence, table, reserved, placed⟩ := b
  match kind, table with
  | .none, _ => exact h
  | .normal _ _ _ _, none => exact h
  | .normal v slots pitch dir, some t =>
    refine List.eq_nil_iff_forall_not_mem.mpr fun p hp => ?_
    obtain ⟨hspan, hrun⟩ := h.1.run p hp
    have hmem := hrun _ (head_mem_runSlots hspan)
    have := List.any_eq_false.mp hslots _ (List.mem_of_getElem? hmem)
    simp at this
  | .reject capacity, _ => exact List.length_eq_zero_iff.mp (h.2.1.symm.trans hres)

end Magazines

end Sys2Proof.Machine

/-! Boards on their way, and the placements open for them (R88, R90). -/

namespace Sys2Proof.Machine

/-- R88, R90: where a board that is on its way is to go. -/
def BoardRec.way (b : BoardRec) : Option Destination := if b.state = .inTransit ∨ b.state = .placing then b.dest else none

/-- R70, R88: a board PLACING has a destination, and one not yet on its way has none. -/
abbrev BoardRec.WayOk (b : BoardRec) : Prop :=
  (b.state = .placing → b.dest.isSome = true) ∧ (b.state = .attached ∨ b.state = .held ∨ b.state = .freed → b.dest = none)

/-- R88, R90: where the board of a reference is to go. -/
def State.wayOf (s : State) (r : BoardRef) : Option Destination := (s.boardAt r).bind BoardRec.way

/-- R88, R90: the open placements are those of the boards that are on their way to a destination. -/
structure State.Ways (s : State) : Prop where
  nodup : (s.placements.map Placement.ref).Nodup
  open_way : ∀ p ∈ s.placements, s.wayOf p.ref = some p.dest
  way_open : ∀ r d, s.wayOf r = some d → ∃ p ∈ s.placements, p.ref = r ∧ p.dest = d
  boards : ∀ r b, s.boardAt r = some b → b.WayOk

section Ways
variable {s t : State} {r : BoardRef} {b : BoardRec} {p : Placement} {f : BoardRec → BoardRec}

theorem BoardRec.way_eq_some {d : Destination} : b.way = some d ↔ (b.state = .inTransit ∨ b.state = .placing) ∧ b.dest = some d := by
  unfold BoardRec.way
  split
  next h => simp [h]
  next h => simp [h]

theorem BoardRec.way_eq_none_of_state (h : b.state ≠ .inTransit) (h' : b.state ≠ .placing) : b.way = none :=
  if_neg (by simp [h, h'])

theorem State.wayOf_eq_some {d : Destination} :
    s.wayOf r = some d ↔ ∃ b, s.boardAt r = some b ∧ (b.state = .inTransit ∨ b.state = .placing) ∧ b.dest = some d := by
  simp only [State.wayOf, Option.bind_eq_some_iff, BoardRec.way_eq_some]

theorem State.wayOf_modBoard (r r' : BoardRef) (f : BoardRec → BoardRec) :
    (modBoard r f s).wayOf r' = if r = r' then (s.boardAt r').bind fun b => (f b).way else s.wayOf r' := by
  simp only [State.wayOf, State.boardAt_modBoard]
  split
  · cases s.boardAt r' <;> rfl
  · rfl

theorem State.Ways.congr (h : s.Ways) (hp : t.placements = s.placements) (hb : ∀ r, t.boardAt r = s.boardAt r) : t.Ways := by
  have hw (r : BoardRef) : t.wayOf r = s.wayOf r := by simp only [State.wayOf, hb]
  obtain ⟨h1, h2, h3, h4⟩ := h
  exact ⟨hp ▸ h1, fun p hm => (hw _).trans (h2 p (hp ▸ hm)), fun r d hd => hp ▸ h3 r d ((hw r).symm.trans hd),
    fun r b hr => h4 r b ((hb r).symm.trans hr)⟩

theorem ways_dependsOn : DependsOn [.nests, .placements] State.Ways := by
  intro s t h hs
  have hnests : t.nests = s.nests := h .nests (by simp)
  exact hs.congr (h .placements (by simp)) fun r => by simp only [State.boardAt, State.nest, hnests]

/-- A board whose way stands. -/
theorem State.Ways.modBoard (h : s.Ways) (hf : ∀ b, s.boardAt r = some b → (f b).way = b.way ∧ (f b).WayOk) : (modBoard r f s).Ways := by
  have hw (r' : BoardRef) : (Machine.modBoard r f s).wayOf r' = s.wayOf r' := by
    rw [State.wayOf_modBoard]
    split
    next heq =>
      subst heq
      rw [State.wayOf]
      cases hb : s.boardAt r with
      | none => rfl
      | some b => exact (hf b hb).1
    next => rfl
  refine ⟨h.nodup, fun p hp => (hw _).trans (h.open_way p hp), fun r' d hd => h.way_open r' d ((hw r').symm.trans hd), fun r' b hb => ?_⟩
  rw [State.boardAt_modBoard] at hb
  split at hb
  next heq =>
    subst heq
    obtain ⟨x, hx, rfl⟩ := Option.map_eq_some_iff.mp hb
    exact (hf x hx).2
  next => exact h.boards r' b hb

/-- What the ways do not read of a board changes. -/
theorem State.Ways.modBoard_frame (h : s.Ways) (hf : ∀ b, (f b).state = b.state ∧ (f b).dest = b.dest) : (Machine.modBoard r f s).Ways := by
  refine h.modBoard fun b hb => ?_
  obtain ⟨hst, hd⟩ := hf b
  simpa only [BoardRec.way, BoardRec.WayOk, hst, hd, true_and] using h.boards r b hb

/-- A board that has not left the frame, and does not leave it now. -/
theorem State.Ways.modBoard_resting (h : s.Ways) (hf : ∀ b, s.boardAt r = some b →
    (b.state = .attached ∨ b.state = .held ∨ b.state = .freed) ∧ (f b).dest = b.dest ∧ (f b).state ≠ .placing) :
    (Machine.modBoard r f s).Ways := by
  refine h.modBoard fun b hb => ?_
  obtain ⟨hst, hdest, hnew⟩ := hf b hb
  have hnone := (h.boards r b hb).2 hst
  rw [hnone] at hdest
  refine ⟨?_, fun hp => absurd hp hnew, fun _ => hdest⟩
  simp [BoardRec.way, hdest, hnone]

/-- R90: the placement of a board is closed, and the board is on its way no more. -/
theorem State.Ways.close (h : s.Ways) (hf : ∀ b, s.boardAt r = some b → (f b).way = none ∧ (f b).WayOk) :
    (Machine.modBoard r f (closePlacement r s)).Ways := by
  have hboard (r' : BoardRef) : (closePlacement r s).boardAt r' = s.boardAt r' := rfl
  have hw (r' : BoardRef) : (Machine.modBoard r f (closePlacement r s)).wayOf r' = if r = r' then none else s.wayOf r' := by
    rw [State.wayOf_modBoard]
    split
    next heq =>
      subst heq
      rw [hboard]
      cases hb : s.boardAt r with
      | none => rfl
      | some b => exact (hf b hb).1
    next => rfl
  have hmem (p : Placement) : p ∈ (Machine.modBoard r f (closePlacement r s)).placements ↔ p ∈ s.placements ∧ p.ref ≠ r :=
    mem_closePlacement s r p
  refine ⟨h.nodup.sublist (List.filter_sublist.map _), fun p hp => ?_, fun r' d hd => ?_, fun r' b hb => ?_⟩
  · obtain ⟨hp, hne⟩ := (hmem p).mp hp
    rw [hw, if_neg hne.symm]
    exact h.open_way p hp
  · rw [hw] at hd
    split at hd
    next => cases hd
    next hne =>
      obtain ⟨p, hp, rfl, hdest⟩ := h.way_open r' d hd
      exact ⟨p, (hmem p).mpr ⟨hp, Ne.symm hne⟩, rfl, hdest⟩
  · rw [State.boardAt_modBoard, hboard] at hb
    split at hb
    next heq =>
      subst heq
      obtain ⟨x, hx, rfl⟩ := Option.map_eq_some_iff.mp hb
      exact (hf x hx).2
    next => exact h.boards r' b hb

/-- R88, step 3: a board IN-TRANSIT is given a destination, and a placement is opened for it. -/
theorem State.Ways.openPlacement (h : s.Ways) (hb : s.boardAt p.ref = some b) (hst : b.state = .inTransit) (hd : b.dest = none) :
    State.Ways { Machine.modBoard p.ref (fun b => { b with dest := some p.dest }) s with placements := s.placements ++ [p] } := by
  have hboard (r : BoardRef) : State.boardAt { Machine.modBoard p.ref (fun b => { b with dest := some p.dest }) s with
      placements := s.placements ++ [p] } r = if p.ref = r then (s.boardAt r).map (fun b => { b with dest := some p.dest }) else s.boardAt r :=
    State.boardAt_modBoard p.ref r _
  have hw (r : BoardRef) : State.wayOf { Machine.modBoard p.ref (fun b => { b with dest := some p.dest }) s with
      placements := s.placements ++ [p] } r = if p.ref = r then some p.dest else s.wayOf r := by
    rw [State.wayOf, hboard]
    split
    next heq =>
      subst heq
      rw [hb]
      exact BoardRec.way_eq_some.mpr ⟨.inl hst, rfl⟩
    next => rfl
  have hnone : s.wayOf p.ref = none := by simp [State.wayOf, hb, BoardRec.way, hd]
  have hfresh (q : Placement) (hq : q ∈ s.placements) : q.ref ≠ p.ref := by
    intro he
    have := h.open_way q hq
    rw [he, hnone] at this
    cases this
  refine ⟨?_, fun q hq => ?_, fun r d hd => ?_, fun r x hx => ?_⟩
  · rw [List.map_append, List.nodup_append]
    refine ⟨h.nodup, by simp, fun a ha c hc => ?_⟩
    obtain ⟨q, hq, rfl⟩ := List.mem_map.mp ha
    rw [List.map_singleton, List.mem_singleton] at hc
    exact hc ▸ hfresh q hq
  · rw [hw]
    rcases List.mem_append.mp hq with hq | hq
    · rw [if_neg (hfresh q hq).symm]
      exact h.open_way q hq
    · obtain rfl := List.mem_singleton.mp hq
      exact if_pos rfl
  · rw [hw] at hd
    split at hd
    next heq => exact ⟨p, by simp, heq, Option.some.inj hd⟩
    next =>
      obtain ⟨q, hq, h1, h2⟩ := h.way_open r d hd
      exact ⟨q, List.mem_append_left _ hq, h1, h2⟩
  · rw [hboard] at hx
    split at hx
    next heq =>
      subst heq
      rw [hb] at hx
      obtain rfl := Option.some.inj hx
      simp [BoardRec.WayOk, hst]
    next => exact h.boards r x hx

/-! ### Nests -/

theorem State.boardAt_setNest_same_boards {n : Nest} {x : NestRec} (hx : x.boards = (s.nest n).boards) (r : BoardRef) :
    (setNest n x s).boardAt r = s.boardAt r := by
  simp only [State.boardAt, nest_setNest]
  split
  next heq => rw [← heq, hx]
  next => rfl

/-- A panel of which no board is on its way gives way to another. -/
theorem State.Ways.setNest (h : s.Ways) {n : Nest} {x : NestRec} (hold : ∀ b ∈ (s.nest n).boards, b.way = none)
    (hnew : ∀ b ∈ x.boards, b.way = none ∧ b.WayOk) : (setNest n x s).Ways := by
  have hnone (l : List BoardRec) (hl : ∀ b ∈ l, b.way = none) (j : Nat) : l[j]?.bind BoardRec.way = none := by
    cases hb : l[j]? with
    | none => rfl
    | some b => exact hl b (List.mem_of_getElem? hb)
  have hw (r : BoardRef) : (Machine.setNest n x s).wayOf r = s.wayOf r := by
    simp only [State.wayOf, State.boardAt, nest_setNest]
    split
    next heq => rw [← heq, hnone _ hold, hnone _ fun b hb => (hnew b hb).1]
    next => rfl
  refine ⟨h.nodup, fun p hp => (hw _).trans (h.open_way p hp), fun r d hd => h.way_open r d ((hw r).symm.trans hd), fun r b hb => ?_⟩
  simp only [State.boardAt, nest_setNest] at hb
  split at hb
  next => exact (hnew b (List.mem_of_getElem? hb)).2
  next => exact h.boards r b hb

theorem State.Ways.settleNest (h : s.Ways) (tag : Half) (n : Nest) : (settleNest tag n s).Ways :=
  h.congr ((touches_settleNest s tag n).at .placements rfl) (State.boardAt_settleNest tag n)

theorem State.Ways.post (h : s.Ways) (tag : Half) (n : Notice) : (post tag n s).Ways := h.congr rfl fun _ => rfl

theorem State.Ways.modTab (h : s.Ways) (n : Nest) (j : Nat) (f : TabRec → TabRec) : (modTab n j f s).Ways :=
  h.congr rfl (State.boardAt_modTab n j f)

/-- R92: a mark leaves a placement its board and its destination. -/
theorem Placement.marked_keeps (p : Placement) (r : BoardRef) (cycle : Half) :
    (if p.ref = r then { p with sensed := some cycle } else p).ref = p.ref ∧
      (if p.ref = r then { p with sensed := some cycle } else p).dest = p.dest := by
  split <;> exact ⟨rfl, rfl⟩

/-- R92: a mark on the placement of a board. -/
theorem State.Ways.markSensed (h : s.Ways) (r : BoardRef) (cycle : Half) : (markSensed r cycle s).Ways := by
  have hmark (p : Placement) := p.marked_keeps r cycle
  refine ⟨?_, fun p hp => ?_, fun r d hd => ?_, h.boards⟩
  · have hrefs : (Machine.markSensed r cycle s).placements.map Placement.ref = s.placements.map Placement.ref := by
      simp only [Machine.markSensed, List.map_map]
      exact List.map_congr_left fun p _ => (hmark p).1
    rw [hrefs]
    exact h.nodup
  · obtain ⟨q, hq, rfl⟩ := List.mem_map.mp hp
    rw [(hmark q).1, (hmark q).2]
    exact h.open_way q hq
  · obtain ⟨q, hq, hr, hdest⟩ := h.way_open r d hd
    exact ⟨_, List.mem_map_of_mem hq, (hmark q).1.trans hr, (hmark q).2.trans hdest⟩

end Ways

/-! ### What each bay has open -/

/-- R98: the placements open in a bay. -/
def State.inBay (s : State) (i : BayId) : List Placement := s.placements.filter fun p => p.dest.bay == i

/-- R78, R88, R96: every bay accounts for the placements open in it. -/
def State.Filled (s : State) : Prop := ∀ i, (s.bay i).Fits (s.inBay i)

section Filled
variable {s t : State} {p : Placement} {i : BayId}

theorem State.mem_inBay : p ∈ s.inBay i ↔ p ∈ s.placements ∧ p.dest.bay = i := by simp [State.inBay]

theorem State.Ways.nodup_inBay (h : s.Ways) (i : BayId) : ((s.inBay i).map Placement.ref).Nodup :=
  h.nodup.sublist (List.filter_sublist.map _)

theorem State.inBay_closePlacement (r : BoardRef) (i : BayId) :
    (closePlacement r s).inBay i = (s.inBay i).filter fun q => q.ref != r := by
  simp only [State.inBay, closePlacement, List.filter_filter, Bool.and_comm]

theorem filled_dependsOn : DependsOn [.bays, .placements] State.Filled := by
  intro s t h hs i
  have hbays : t.bays = s.bays := h .bays (by simp)
  have hplacements : t.placements = s.placements := h .placements (by simp)
  have hi := hs i
  simp only [State.bay, State.inBay, hbays, hplacements] at hi ⊢
  exact hi

theorem State.Filled.of_touches {F : List Part} (hs : s.Filled) (h : Touches F s t)
    (hF : Part.apart [.bays, .placements] F = true) : t.Filled := h.keeps filled_dependsOn hs hF

/-- A bay that goes on accounting for what is open in it. -/
theorem State.Filled.modBay (h : s.Filled) {f : Bay → Bay} (hf : (f (s.bay i)).Fits (s.inBay i)) : (modBay i f s).Filled := by
  intro j
  rw [bay_modBay]
  split
  next heq => exact heq ▸ hf
  next => exact h j

/-- R90, R92, R93: a placement is closed, and its bay accounts for those left. -/
theorem State.Filled.close (h : s.Filled) (hw : s.Ways) (hp : p ∈ s.placements) {g : Bay → Bay}
    (hg : (g (s.bay p.dest.bay)).Fits ((s.inBay p.dest.bay).filter fun q => q.ref != p.ref)) :
    (Machine.modBay p.dest.bay g (closePlacement p.ref s)).Filled := by
  intro j
  rw [bay_modBay]
  change Bay.Fits _ ((closePlacement p.ref s).inBay j)
  rw [State.inBay_closePlacement]
  split
  next heq => exact heq ▸ hg
  next hne =>
    rw [List.filter_eq_self.mpr]
    · exact h j
    · intro q hq
      obtain ⟨hq, hbay⟩ := State.mem_inBay.mp hq
      rw [bne_iff_ne]
      intro heq
      obtain rfl := eq_of_ref hw.nodup hq hp heq
      exact hne hbay

/-- R88: a placement is opened, and its bay accounts for it. -/
theorem State.Filled.openPlacement (h : s.Filled) {g : Bay → Bay} (hg : (g (s.bay p.dest.bay)).Fits (s.inBay p.dest.bay ++ [p])) {t : State}
    (hb : t.bays = (Machine.modBay p.dest.bay g s).bays) (hp : t.placements = s.placements ++ [p]) : t.Filled := by
  intro j
  have hbay : t.bay j = (Machine.modBay p.dest.bay g s).bay j := by rw [State.bay, hb, State.bay]
  have hin : t.inBay j = s.inBay j ++ if p.dest.bay = j then [p] else [] := by
    rw [State.inBay, hp, List.filter_append]
    by_cases hb : p.dest.bay = j
    · simp [State.inBay, hb]
    · simp [State.inBay, hb]
  rw [hbay, hin, bay_modBay]
  split
  next heq => exact heq ▸ hg
  next =>
    rw [List.append_nil]
    exact h j

end Filled

/-! ### The invariant -/

/-- R78, R88, R90, R96: the open placements, the boards they are for and the slots they have. -/
structure State.Placed (s : State) : Prop where
  ways : s.Ways
  filled : s.Filled

section Invariant
variable {s : State}

theorem placed_dependsOn : DependsOn [.nests, .bays, .placements] State.Placed := by
  intro s t h ⟨hw, hf⟩
  exact ⟨ways_dependsOn s t (fun p hp => h p (by simp_all; tauto)) hw, filled_dependsOn s t (fun p hp => h p (by simp_all)) hf⟩

theorem State.placementOk_iff {p : Placement} : s.PlacementOk p ↔ s.wayOf p.ref = some p.dest := by
  rw [State.wayOf_eq_some, State.PlacementOk, Option.map_eq_some_iff, Option.map_eq_some_iff]
  constructor
  · rintro (⟨b, hb, h⟩ | ⟨b, hb, h⟩)
    · obtain ⟨hst, hd⟩ := Prod.mk.inj h
      exact ⟨b, hb, .inl hst, hd⟩
    · obtain ⟨hst, hd⟩ := Prod.mk.inj h
      exact ⟨b, hb, .inr hst, hd⟩
  · rintro ⟨b, hb, hst | hst, hd⟩
    · exact .inl ⟨b, hb, by rw [hst, hd]⟩
    · exact .inr ⟨b, hb, by rw [hst, hd]⟩

theorem State.ways_iff : s.Ways ↔ (s.placements.map Placement.ref).Nodup ∧ (∀ p ∈ s.placements, s.PlacementOk p) ∧
    ∀ r b, s.boardAt r = some b → s.DestOk r b := by
  simp only [State.placementOk_iff]
  constructor
  · intro ⟨h1, h2, h3, h4⟩
    refine ⟨h1, h2, fun r b hb => ⟨(h4 r b hb).1, fun hst d hd => ?_, (h4 r b hb).2⟩⟩
    exact h3 r d (State.wayOf_eq_some.mpr ⟨b, hb, hst, hd⟩)
  · intro ⟨h1, h2, h3⟩
    refine ⟨h1, h2, fun r d hd => ?_, fun r b hb => ⟨(h3 r b hb).1, (h3 r b hb).2.2⟩⟩
    obtain ⟨b, hb, hst, hd⟩ := State.wayOf_eq_some.mp hd
    exact (h3 r b hb).2.1 hst d hd

/-- What the invariant says of one bay. -/
theorem State.fits_iff (i : BayId) : (s.bay i).Fits (s.inBay i) ↔
    (∀ p ∈ s.placements, p.dest.bay = i → s.RunOk p) ∧ s.SlotsOwned i ∧ (s.bay i).FullOk ∧
      ((s.bay i).kind.isReject = true → (s.bay i).reserved = s.openIn i) := by
  have hlen : s.openIn i = (s.inBay i).length := List.countP_eq_length_filter
  have hmem (P : Placement → Prop) : (∀ p ∈ s.inBay i, P p) ↔ ∀ p ∈ s.placements, p.dest.bay = i → P p := by
    simp only [State.mem_inBay, and_imp]
  have hnil : s.inBay i = [] ↔ ∀ p ∈ s.placements, p.dest.bay = i → False := by
    rw [List.eq_nil_iff_forall_not_mem]
    exact hmem fun _ => False
  have hrun {P : Placement → Prop} (hP : ∀ p, p.dest.bay = i → (s.RunOk p ↔ P p)) :
      (∀ p ∈ s.placements, p.dest.bay = i → s.RunOk p) ↔ ∀ p ∈ s.inBay i, P p := by
    rw [hmem]
    exact forall₂_congr fun p _ => forall_congr' fun hb => hP p hb
  rw [hlen]
  cases hk : (s.bay i).kind with
  | none =>
    rw [Bay.fits_kindless hk, hrun (P := fun _ => False) fun p hp => by simp only [State.RunOk, hp, hk]]
    simp only [State.SlotsOwned, Bay.FullOk, hk, BayKind.isReject, Bool.false_eq_true, false_implies, and_true]
    exact List.eq_nil_iff_forall_not_mem
  | reject capacity =>
    rw [Bay.fits_reject hk, hrun (P := fun p => p.dest.first = 0 ∧ p.dest.span = 1) fun p hp => by simp only [State.RunOk, hp, hk]]
    simp only [State.SlotsOwned, Bay.FullOk, hk, BayKind.isReject, true_and, true_implies]
    tauto
  | normal v slots pitch dir =>
    cases ht : (s.bay i).table with
    | none =>
      rw [Bay.fits_bare (by rw [hk]; rfl) ht, hrun (P := fun _ => False) fun p hp => by simp only [State.RunOk, hp, hk, ht]]
      simp only [State.SlotsOwned, Bay.FullOk, hk, ht, BayKind.isReject, Bool.false_eq_true, false_implies, and_true]
      rw [List.eq_nil_iff_forall_not_mem]
      simp
    | some t =>
      rw [Bay.fits_normal hk ht, hrun (P := fun p => 1 ≤ p.dest.span ∧ ∀ j ∈ runSlots dir p.dest.first p.dest.span,
        t.slots[j]? = some (.reserved p.ref)) fun p hp => by simp only [State.RunOk, hp, hk, ht]]
      simp only [State.SlotsOwned, Bay.FullOk, hk, ht, BayKind.isReject, Bool.false_eq_true, false_implies, and_true]
      have howned : (∀ j : Fin t.slots.length, match t.slots[j] with
          | .reserved r => ∃ p ∈ s.placements, p.ref = r ∧ p.dest.bay = i ∧ j.val ∈ runSlots dir p.dest.first p.dest.span
          | _ => True) ↔ ∀ (j : Nat) (r : BoardRef), t.slots[j]? = some (.reserved r) →
            ∃ p ∈ s.inBay i, p.ref = r ∧ j ∈ runSlots dir p.dest.first p.dest.span := by
        constructor
        · intro h j r hj
          obtain ⟨hlt, hget⟩ := List.getElem?_eq_some_iff.mp hj
          have := h ⟨j, hlt⟩
          simp only [Fin.getElem_fin, hget] at this
          obtain ⟨p, hp, hr, hb, hrun⟩ := this
          exact ⟨p, State.mem_inBay.mpr ⟨hp, hb⟩, hr, hrun⟩
        · intro h j
          split
          next r hr =>
            obtain ⟨p, hp, href, hrun⟩ := h j r (by rw [List.getElem?_eq_getElem j.isLt]; exact congrArg some hr)
            obtain ⟨hp, hb⟩ := State.mem_inBay.mp hp
            exact ⟨p, hp, href, hb, hrun⟩
          next => trivial
      constructor
      · rintro ⟨⟨h1, h2, h3⟩, h4⟩
        exact ⟨h3, ⟨SlotTable.ordered_iff.mpr h1, howned.mpr h2⟩, fun hst t' ht' => Option.some.inj ht' ▸ h4 hst⟩
      · rintro ⟨h3, ⟨h1, h2⟩, h4⟩
        exact ⟨⟨SlotTable.ordered_iff.mp h1, howned.mp h2, h3⟩, fun hst => h4 hst t rfl⟩

theorem State.placed_iff : s.Placed ↔ s.PlaceInv := by
  have hboards := State.bothNests_boards_iff (s := s) (P := s.DestOk)
  constructor
  · intro ⟨hw, hf⟩
    obtain ⟨h1, h2, h3⟩ := State.ways_iff.mp hw
    refine ⟨h1, fun p hp => ⟨h2 p hp, ((State.fits_iff p.dest.bay).mp (hf p.dest.bay)).1 p hp rfl⟩, fun i => ?_, hboards.mpr h3⟩
    exact ((State.fits_iff i).mp (hf i)).2
  · intro ⟨h1, h2, h3, h4⟩
    refine ⟨State.ways_iff.mpr ⟨h1, fun p hp => (h2 p hp).1, hboards.mp h4⟩, fun i => (State.fits_iff i).mpr ⟨fun p hp _ => (h2 p hp).2, h3 i⟩⟩

end Invariant

end Sys2Proof.Machine

/-! Gated items and cut reports keep the open placements, the boards they are for and the slots they have (R88, R90). -/

namespace Sys2Proof.Machine

section Ends
variable {s : State} {p : Placement} {f : BoardRec → BoardRec} (tag : Half)

/-- R90, R92, R93: a placement ends, and its board is on its way no more. -/
theorem State.Placed.close (h : s.Placed) (hp : p ∈ s.placements)
    (hf : ∀ b, s.boardAt p.ref = some b → (f b).way = none ∧ (f b).WayOk) {g : Bay → Bay}
    (hg : (g (s.bay p.dest.bay)).Fits ((s.inBay p.dest.bay).filter fun q => q.ref != p.ref)) :
    (Machine.modBoard p.ref f (modBay p.dest.bay g (closePlacement p.ref s))).Placed :=
  ⟨(h.ways.close hf).congr rfl fun _ => rfl, h.filled.close h.ways hp hg⟩

theorem State.Placed.settleNest (h : s.Placed) (n : Nest) : (settleNest tag n s).Placed :=
  ⟨h.ways.settleNest tag n, h.filled.of_touches (touches_settleNest s tag n) rfl⟩

theorem State.Placed.post (h : s.Placed) (n : Notice) : (post tag n s).Placed :=
  ⟨h.ways.post tag n, h.filled⟩

theorem State.Ways.mem_inBay (hp : p ∈ s.placements) : p ∈ s.inBay p.dest.bay := State.mem_inBay.mpr ⟨hp, rfl⟩

/-- R92: a completed placement leaves its run OCCUPIED. -/
theorem State.Placed.completePlacement (h : s.Placed) (hbay : s.BayInv) (hp : p ∈ s.placements) (cycle : Half) :
    (completePlacement tag p cycle s).Placed := by
  have hfilled (x : SlotRef) := (h.filled p.dest.bay).filled (hbay.1 _) (h.ways.nodup_inBay _) (State.Ways.mem_inBay hp) x
  rw [completePlacement_eq]
  refine (h.close hp (fun b _ => ?_) (g := fun b => b.filled p.dest _) (hfilled _)).settleNest tag _
  cases (s.bay p.dest.bay).kind.isReject <;> simp [BoardRec.way, BoardRec.WayOk]

theorem BoardRec.way_unplaced {b : BoardRec} (h : b.WayOk) : b.unplaced.way = none ∧ b.unplaced.WayOk := by
  unfold BoardRec.unplaced
  split
  next hst => simp [BoardRec.way, BoardRec.WayOk, hst]
  next => simp [BoardRec.way, BoardRec.WayOk]
  next hi hp => exact ⟨BoardRec.way_eq_none_of_state hi hp, h⟩

theorem BoardRec.way_stripped {b : BoardRec} (h : b.WayOk) : b.stripped.way = none ∧ b.stripped.WayOk := by
  unfold BoardRec.stripped
  split
  next hst => simp [BoardRec.way, BoardRec.WayOk, hst]
  next => simp [BoardRec.way, BoardRec.WayOk]
  next hi hp => exact ⟨BoardRec.way_eq_none_of_state hi hp, h⟩

/-- R93: a placement that ends without a board leaves its run SKIPPED. -/
theorem State.Placed.endPlacement (h : s.Placed) (hp : p ∈ s.placements) (reason : PlaceReason) : (endPlacement tag p reason s).Placed := by
  have hfits := (h.filled p.dest.bay).releaseRun (h.ways.nodup_inBay _) (State.Ways.mem_inBay hp)
  unfold Machine.endPlacement
  exact ((h.close hp (fun b hb => BoardRec.way_unplaced (h.ways.boards _ b hb)) hfits).settleNest tag _).post tag _

/-- R92: an OPEN of a board sensed early. -/
theorem State.Placed.completeSensed (h : s.Placed) (hbay : s.BayInv) (r : BoardRef) : (completeSensed tag r s).Placed := by
  unfold Machine.completeSensed
  split
  next p hp =>
    split
    next =>
      split
      next => exact h.completePlacement tag hbay (placementOf_some hp).1 _
      next => exact h
    next => exact h
  next => exact h

/-- R67: a board is LOST, and what was reserved for it is given up. -/
theorem State.Placed.lose (h : s.Placed) {r : BoardRef} (hf : ∀ b, (f b).state = .lost) :
    (dropReservation r (Machine.modBoard r f s)).Placed := by
  have hlost (b : BoardRec) : (f b).way = none ∧ (f b).WayOk := by simp [BoardRec.way, BoardRec.WayOk, hf b]
  have hsame : (Machine.modBoard r f s).placementOf r = s.placementOf r := rfl
  unfold Machine.dropReservation
  rw [hsame]
  cases hp : s.placementOf r with
  | none =>
    refine ⟨h.ways.modBoard fun b hb => ⟨?_, (hlost b).2⟩, h.filled⟩
    rw [(hlost b).1]
    cases hway : b.way with
    | none => rfl
    | some d =>
      obtain ⟨q, hq, hr, -⟩ := h.ways.way_open r d (by rw [State.wayOf, hb]; exact hway)
      have := List.find?_eq_none.mp hp q hq
      simp [hr] at this
  | some p =>
    obtain ⟨hmem, rfl⟩ := placementOf_some hp
    have hfits := (h.filled p.dest.bay).releaseRun (h.ways.nodup_inBay _) (State.Ways.mem_inBay hmem)
    exact h.close hmem (fun b _ => hlost b) (g := fun b => b.releaseRun p.dest) hfits

end Ends

/-! ### Gated items -/

section Gated
variable {s : State}

theorem judgeCut_ways (h : s.Ways) (cycle : Half) (it : Item) (i : LaneId) : (judgeCut cycle it i s).state.Ways := by
  unfold judgeCut
  dsimp only
  split
  next => exact h
  next t _ =>
    dsimp only [Verdict.state]
    unfold admitCut
    exact State.Ways.congr ((h.modTab t.nest (Operand.index it.payload) _).modBoard_frame (by exact fun _ => ⟨rfl, rfl⟩)) rfl fun _ => rfl

theorem judgeGrip_ways (h : s.Ways) (cycle : Half) (it : Item) (p : PickerId) : (judgeGrip cycle it p s).state.Ways := by
  unfold judgeGrip
  split
  next => exact h
  next r _ => exact (h.modBoard_frame (r := r) (f := fun b => { b with picker := some p }) fun _ => ⟨rfl, rfl⟩).congr rfl fun _ => rfl

theorem judgeLift_ways (h : s.Ways) (cycle : Half) (it : Item) (p : PickerId) : (judgeLift cycle it p s).state.Ways := by
  unfold judgeLift
  split
  next => exact h
  next r hr =>
    obtain ⟨-, -, -, b, hb, hst⟩ := checkLift_ok hr
    refine h.modBoard_resting fun x hx => ?_
    obtain rfl := Option.some.inj (hb.symm.trans hx)
    exact ⟨.inr (.inr hst), rfl, by simp⟩

/-- R70: an OPEN that is carried out makes a board IN-TRANSIT with a destination PLACING. -/
theorem State.Placed.openPicker (h : s.Placed) (hbay : s.BayInv) (hcust : s.Custody) {p : PickerId}
    (hk : (s.picker p).state = .closing ∨ (s.picker p).state = .holding) (hc : checkOpen s p = none) (tag : Half) :
    (openPicker tag p s).Placed := by
  have hjaws : (s.jawsOpening p).Placed := ⟨h.ways.congr rfl fun _ => rfl, h.filled⟩
  cases hr : (s.picker p).board with
  | none =>
    rw [openPicker_unbound tag hr]
    exact hjaws
  | some r =>
    rw [openPicker_bound tag hr]
    refine State.Placed.completeSensed tag ⟨hjaws.ways.modBoard fun b hb => ?_, hjaws.filled⟩ hbay r
    have hb' : s.boardAt r = some b := hb
    have hok := h.ways.boards r b hb'
    have hstays {x : BoardRec} (hst : b.state = .attached ∨ b.state = .held) (hx : x.state = .attached) (hd : x.dest = b.dest) :
        x.way = b.way ∧ x.WayOk := by
      have hnone := hok.2 (hst.elim .inl fun hst => .inr (.inl hst))
      simp [BoardRec.way, BoardRec.WayOk, hx, hd, hnone]
    rcases hk with hk | hk
    · obtain ⟨x, hx, -, hst⟩ := hcust.attached_of_closing hr hk
      obtain rfl := Option.some.inj (hx.symm.trans hb')
      rw [BoardRec.released_attached hst]
      exact hstays (.inl hst) rfl rfl
    · obtain ⟨x, hx, -, hst | hst | hst⟩ := hcust.held_of_holding hr hk
      · obtain rfl := Option.some.inj (hx.symm.trans hb')
        rw [BoardRec.released_held hst]
        exact hstays (.inr hst) rfl rfl
      · rw [checkOpen_freed hk hr hx hst] at hc
        cases hc
      · obtain rfl := Option.some.inj (hx.symm.trans hb')
        rw [checkOpen_inTransit hk hr hx hst] at hc
        have hdest : x.dest.isSome = true := by
          cases hd : x.dest with
          | none => simp [hd] at hc
          | some d => rfl
        rw [BoardRec.released_inTransit hst]
        simp [BoardRec.way, BoardRec.WayOk, hst, hdest]

theorem judgeOpen_placed (h : s.Placed) (hbay : s.BayInv) (hcust : s.Custody) (cycle : Half) (it : Item) (p : PickerId) :
    (judgeOpen cycle it p s).state.Placed := by
  unfold judgeOpen
  split
  next => exact h
  next hc =>
    split
    next hk => exact h.openPicker hbay hcust (.inl hk) hc it.tag
    next hk => exact h.openPicker hbay hcust (.inr hk) hc it.tag
    next => exact h

/-! ### PLACE (R86 to R89) -/

theorem checkPlace_ok {p : PickerId} {r : BoardRef} {b : BoardRec} (h : checkPlace s p = .ok (r, b)) :
    s.line.state = .running ∧ (s.picker p).state = .holding ∧ (s.picker p).board = some r ∧ s.boardAt r = some b ∧ b.state = .inTransit ∧
      b.dest = none := by
  unfold checkPlace at h
  split at h
  next => cases h
  next hrun =>
    split at h
    next => cases h
    next => cases h
    next => cases h
    next => cases h
    next hk =>
      split at h
      next => cases h
      next r' hr =>
        split at h
        next => cases h
        next x hx =>
          split at h
          next hst =>
            obtain ⟨rfl, rfl⟩ := Prod.mk.inj (Except.ok.inj h)
            exact ⟨not_not.mp hrun, hk, hr, hx, hst⟩
          next => cases h

/-- R88: reserving a run changes the bay, then the board and the placements. -/
theorem reservePlace_parts (tag cycle : Half) (r : BoardRef) (d : Destination) : ∃ (u : State) (p : Placement),
    reservePlace tag cycle r d s = { modBoard r (fun b => { b with dest := some d }) u with placements := u.placements ++ [p] } ∧
      p.ref = r ∧ p.dest = d ∧ u.nests = s.nests ∧ u.placements = s.placements ∧
      u.bays = (modBay d.bay (fun b => b.reservedFor d r) s).bays := by
  have hbay : (modBay d.bay (fun b => b.reserve d r) s).bay d.bay = (s.bay d.bay).reserve d r := by rw [bay_modBay, if_pos rfl]
  refine ⟨_, _, rfl, rfl, rfl, ?_⟩
  rw [hbay]
  split
  next hlim =>
    refine ⟨rfl, rfl, ?_⟩
    change (setBay d.bay _ (modBay d.bay (fun b => b.reserve d r) s)).bays = _
    rw [hbay, modBay_eq, modBay_eq, setBay_setBay, Bay.reservedFor, if_pos hlim]
  next hlim =>
    refine ⟨rfl, rfl, ?_⟩
    rw [modBay_eq, modBay_eq, Bay.reservedFor, if_neg hlim]

/-- R88: a run is reserved for a board IN-TRANSIT in a bay that accounts for it. -/
theorem State.Placed.reservePlace (h : s.Placed) (tag cycle : Half) {r : BoardRef} {b : BoardRec} {d : Destination}
    (hb : s.boardAt r = some b) (hst : b.state = .inTransit) (hd : b.dest = none)
    (hfits : ∀ p : Placement, p.dest = d → p.ref = r → ((s.bay d.bay).reservedFor d r).Fits (s.inBay d.bay ++ [p])) :
    (reservePlace tag cycle r d s).Placed := by
  obtain ⟨u, p, heq, rfl, rfl, hnests, hplacements, hbays⟩ := reservePlace_parts (s := s) tag cycle r d
  have hboard (r : BoardRef) : u.boardAt r = s.boardAt r := by simp only [State.boardAt, State.nest, hnests]
  rw [heq]
  refine ⟨(h.ways.congr hplacements hboard).openPlacement ((hboard _).trans hb) hst hd, ?_⟩
  exact h.filled.openPlacement (p := p) (g := fun b => b.reservedFor p.dest p.ref) (hfits p rfl rfl) hbays
    (congrArg (· ++ [p]) hplacements)

theorem one_le_spanOf {height pitch : Nat} (hh : 1 ≤ height) (hp : 1 ≤ pitch) : 1 ≤ spanOf height pitch :=
  (Nat.one_le_div_iff hp).mpr (by omega)

/-- R96: a NORMAL bay that becomes FULL keeps what is open in it. -/
theorem State.Placed.becomeFull_normal (h : s.Placed) (tag : Half) {i : BayId}
    (hk : ∃ v slots pitch dir, (s.bay i).kind = .normal v slots pitch dir) : (becomeFull tag i s).Placed := by
  obtain ⟨v, slots, pitch, dir, hk⟩ := hk
  have hfull := (h.filled i).full fun c hc => by simp [hk] at hc
  exact ⟨h.ways.congr rfl fun _ => rfl, h.filled.modBay (f := fun b => { b with state := .full }) hfull⟩

theorem judgePlace_placed (h : s.Placed) (hbay : s.BayInv) (hboard : s.BoardInv) (cycle : Half) (it : Item) (p : PickerId) :
    (judgePlace cycle it p s).state.Placed := by
  unfold judgePlace
  split
  next => exact h
  next r b hok =>
    obtain ⟨-, -, -, hb, hst, hd⟩ := checkPlace_ok hok
    split
    next =>
      split
      next d hfound =>
        obtain ⟨hready, ⟨capacity, hk⟩, hfirst, hspan⟩ := searchReject_some hfound
        refine h.reservePlace it.tag cycle hb hst hd fun q hq hr => ?_
        subst hq hr
        exact (h.filled _).reserve_reject hk hready hfirst hspan
      next => exact h
    next =>
      obtain ⟨⟨hplaced, hbay', hb'⟩, hfound⟩ := searchVariant_keeps (P := fun u => u.Placed ∧ u.BayInv ∧ u.boardAt r = some b)
        (tag := it.tag) (variant := b.variant) (height := b.height)
        (fun _ _ ⟨h1, h2, h3⟩ hready hk => ⟨h1.becomeFull_normal it.tag hk, h2.becomeFull it.tag (.inl hready), h3⟩) allBays ⟨h, hbay, hb⟩
      have hheight : 1 ≤ b.height := by
        obtain ⟨-, ⟨hlow, -⟩, -⟩ := boardInv_iff.mp hboard r.nest b (List.mem_of_getElem? hb)
        omega
      dsimp only
      generalize Machine.searchVariant it.tag b.variant b.height allBays s = x at hplaced hbay' hb' hfound ⊢
      split
      next d hfd =>
        refine hplaced.reservePlace it.tag cycle hb' hst hd fun q hq hr => ?_
        subst hq hr
        have htakes := hfound _ hfd
        refine (hplaced.filled _).reserve_normal (hbay'.1 _) htakes ?_
        obtain ⟨slots, pitch, dir, t, hk, -, -, -, hspan, -⟩ := htakes
        have hpitch : 1 ≤ pitch := by
          have := (hbay'.1 q.dest.bay).1
          rw [hk] at this
          obtain ⟨-, -, hlow, -⟩ := this
          omega
        rw [hspan]
        exact one_le_spanOf hheight hpitch
      next => exact ⟨hplaced.ways.congr rfl fun _ => rfl, hplaced.filled⟩

end Gated

/-! ### Cut reports (R46 to R54) -/

section Cuts
variable {s : State}

theorem State.Ways.markSuspect (h : s.Ways) (r : BoardRef) (yes : Bool) : (markSuspect r yes s).Ways := by
  unfold Machine.markSuspect
  split
  · exact h.modBoard_frame fun _ => ⟨rfl, rfl⟩
  · exact h

theorem State.Ways.faultTab (h : s.Ways) (n : Nest) (tab : Nat) (c : Bool) : (faultTab n tab c s).Ways :=
  (h.modTab n tab _).modBoard_frame fun _ => ⟨rfl, rfl⟩

theorem State.Ways.unbind (h : s.Ways) (p : PickerId) : (unbind p s).Ways := by
  have hpicker {t : State} (ht : t.Ways) (k : Picker) : (setPicker p k t).Ways := ht.congr rfl fun _ => rfl
  cases hr : (s.picker p).board with
  | none => exact unbind_unbound hr ▸ hpicker h _
  | some r => exact unbind_bound hr ▸ (hpicker h _).modBoard_frame fun _ => ⟨rfl, rfl⟩

theorem State.Ways.freeBoard (h : s.Ways) {r : BoardRef} {b : BoardRec} (hb : s.boardAt r = some b) (tag : Half) (tab : Nat)
    (i : LaneId) (cycle : Half) : (freeBoard tag r tab i cycle b s).Ways := by
  unfold Machine.freeBoard
  split
  next hst =>
    refine h.modBoard_resting fun x hx => ?_
    obtain rfl := Option.some.inj (hb.symm.trans hx)
    exact ⟨.inr (.inl hst), rfl, by simp⟩
  next hst =>
    have hdrop : (dropClosing b s).Ways := by
      unfold dropClosing
      split
      next q _ =>
        split
        next => exact h.unbind q
        next => exact h
      next => exact h
    have hstate (x : BoardRec) (hx : (dropClosing b s).boardAt r = some x) : x.state = .attached := by
      unfold dropClosing at hx
      split at hx
      next q _ =>
        split at hx
        next =>
          cases hr : (s.picker q).board with
          | none =>
            rw [unbind_unbound hr] at hx
            obtain rfl := Option.some.inj (hb.symm.trans hx)
            exact hst
          | some r' =>
            rw [unbind_bound hr, State.boardAt_modBoard] at hx
            have hb' : (setPicker q { s.picker q with board := none } s).boardAt r = some b := hb
            rw [hb'] at hx
            split at hx
            · obtain rfl := Option.some.inj hx
              exact hst
            · obtain rfl := Option.some.inj hx
              exact hst
        next =>
          obtain rfl := Option.some.inj (hb.symm.trans hx)
          exact hst
      next =>
        obtain rfl := Option.some.inj (hb.symm.trans hx)
        exact hst
    refine State.Ways.settleNest (State.Ways.post (hdrop.modBoard_resting fun x hx => ?_) tag _) tag _
    exact ⟨.inl (hstate x hx), rfl, by simp⟩
  next => exact h

theorem takeCutDone_ways (h : s.Ways) (w : Wire) (i : LaneId) (cycle : Half) : (takeCutDone w i cycle s).Ways := by
  have lanesOnly {F : List Part} {s t : State} (h : s.Ways) (ht : Touches F s t) (hF : Part.covers F [.lanes, .cuts, .ret] = true) : t.Ways :=
    (ht.mono hF).keeps ways_dependsOn h rfl
  have hwear : (wearStep w.tag i w.payload s).Ways := lanesOnly h (touches_rewear s w.tag .report i _) rfl
  unfold takeCutDone
  dsimp only
  split
  next b _ =>
    unfold cutComplete
    dsimp only
    refine lanesOnly ?_ (touches_endCut _ i true) rfl
    have hcut := (hwear.modTab b.nest b.tab fun t => { t with state := .cut, lane := none, cutAt := some cycle }).markSuspect
      ((wearStep w.tag i w.payload s).boardOfTab b.nest b.tab) b.govAbort
    split
    next x hx =>
      split
      next => exact hcut.freeBoard hx w.tag b.tab i cycle
      next => exact hcut
    next => exact hcut
  next b _ => exact lanesOnly ((hwear.faultTab _ _ _).markSuspect _ _) (touches_endCut _ i true) rfl
  next b _ =>
    exact lanesOnly (lanesOnly ((hwear.faultTab _ _ _).markSuspect _ _) (touches_raiseCause _ w.tag i .bitBroken) rfl)
      (touches_endCut _ i true) rfl
  next => exact hwear.post w.tag _

theorem cutTimedOut_ways (h : s.Ways) (i : LaneId) : (cutTimedOut i s).Ways := by
  have lanesOnly {F : List Part} {s t : State} (h : s.Ways) (ht : Touches F s t) (hF : Part.covers F [.lanes, .cuts, .ret] = true) : t.Ways :=
    (ht.mono hF).keeps ways_dependsOn h rfl
  unfold cutTimedOut
  split
  next => exact lanesOnly h (touches_modLane s i _ (by rfl)) rfl
  next b _ =>
    exact lanesOnly (lanesOnly (lanesOnly ((h.faultTab _ _ _).markSuspect _ _) (touches_raiseCause _ 0 i .cutTimeout) rfl)
      (touches_giveAbort _ i) rfl) (touches_endCut _ i false) rfl

end Cuts

end Sys2Proof.Machine

/-! Reports, requests and resets keep the open placements, the boards they are for and the slots they have (R88, R90). -/

namespace Sys2Proof.Machine

section Reports
variable {s : State} {p : PickerId}

/-! ### Grip reports (R64 to R68) -/

theorem State.Ways.setPicker (h : s.Ways) (k : Picker) : (setPicker p k s).Ways := h.congr rfl fun _ => rfl

theorem State.Ways.emptyPicker_unbind (h : s.Ways) (p : PickerId) : (emptyPicker p (Machine.unbind p s)).Ways :=
  (h.unbind p).setPicker _

theorem closingReport_ways (h : s.Ways) (hcust : s.Custody) (hk : (s.picker p).state = .closing) (tag cycle : Half) (jaws : Jaws)
    (sensed : Bool) : (closingReport tag p cycle jaws sensed s).Ways := by
  unfold closingReport
  dsimp only
  split
  next => exact h
  next r hr =>
    split
    next =>
      obtain ⟨b, hb, -, hst⟩ := hcust.attached_of_closing hr hk
      refine State.Ways.modBoard_resting (h.setPicker _) fun x hx => ?_
      obtain rfl := Option.some.inj (hb.symm.trans hx)
      exact ⟨.inl hst, rfl, by simp⟩
    next => exact (h.emptyPicker_unbind p).post tag _
  next =>
    split
    next => exact (h.setPicker _).post tag _
    next => exact h.setPicker _

theorem gripLoss_placed (h : s.Placed) {r : BoardRef} {b : BoardRec} (hr : (s.picker p).board = some r) (hb : s.boardAt r = some b)
    (tag cycle : Half) : (gripLoss tag p cycle r b s).Placed := by
  have hpicker (k : Picker) : (setPicker p k s).Placed := ⟨h.ways.setPicker k, h.filled⟩
  unfold gripLoss
  rw [emptyPicker_unbind_modBoard hr, emptyPicker_unbind_modBoard hr]
  have hlost := State.Placed.lose (hpicker { s.picker p with state := .empty, board := none, sentFor := none, jawTimer := none })
    (r := r) (f := fun b => { b with state := .lost, picker := none }) fun _ => rfl
  split
  next hst =>
    have hback : (modBoard r (fun b => { b with state := .attached, picker := none })
        (setPicker p { s.picker p with state := .empty, board := none, sentFor := none, jawTimer := none } s)).Placed := by
      refine ⟨State.Ways.modBoard_resting (h.ways.setPicker _) fun x hx => ?_, h.filled⟩
      obtain rfl := Option.some.inj (hb.symm.trans hx)
      exact ⟨.inr (.inl hst), rfl, by simp⟩
    refine State.Placed.post tag ?_ _
    split
    next => exact (touches_abortBound _ _).keeps placed_dependsOn hback rfl
    next => exact hback
  next => exact (hlost.post tag _).settleNest tag _
  next => exact (hlost.post tag _).settleNest tag _
  next => exact h

theorem takeGripState_placed (h : s.Placed) (hcust : s.Custody) (w : Wire) (p : PickerId) (cycle : Half) :
    (takeGripState w p cycle s).Placed := by
  unfold takeGripState
  split
  next jaws sensed _ _ =>
    have htaken : (modPicker p (fun k => { k with lastJaws := some jaws, lastSensed := some sensed }) s).Placed :=
      ⟨h.ways.setPicker _, h.filled⟩
    have hcust' : (modPicker p (fun k => { k with lastJaws := some jaws, lastSensed := some sensed }) s).Custody :=
      hcust.modPicker_frame rfl rfl rfl rfl
    have hpicker : (modPicker p (fun k => { k with lastJaws := some jaws, lastSensed := some sensed }) s).picker p =
        { s.picker p with lastJaws := some jaws, lastSensed := some sensed } := by
      rw [modPicker_eq, picker_setPicker_same]
    dsimp only
    generalize modPicker p (fun k => { k with lastJaws := some jaws, lastSensed := some sensed }) s = u at htaken hcust' hpicker
    split
    next =>
      split
      next => exact htaken.post w.tag _
      next => exact htaken
    next hk =>
      have hclosing : (u.picker p).state = .closing := by rw [hpicker]; exact hk
      exact ⟨closingReport_ways htaken.ways hcust' hclosing w.tag cycle jaws sensed,
        htaken.filled.of_touches (touches_closingReport u w.tag p cycle jaws sensed) rfl⟩
    next =>
      unfold holdingReport
      split
      next => exact htaken
      next =>
        split
        next r hr =>
          split
          next b hb => exact gripLoss_placed htaken hr hb w.tag cycle
          next => exact htaken
        next => exact htaken
    next =>
      split
      next => exact ⟨htaken.ways.setPicker _, htaken.filled⟩
      next => exact htaken
    next => exact htaken
  next => exact h.post _ _

theorem jawExpired_ways (h : s.Ways) (p : PickerId) : (jawExpired p s).Ways := by
  unfold jawExpired
  dsimp only
  split
  next =>
    split
    next => exact (h.emptyPicker_unbind p).post 0 _
    next => exact h.emptyPicker_unbind p
  next => exact (h.setPicker _).post 0 _
  next => exact h.setPicker _

/-! ### Table reports (R26, R27, R30, R31) -/

theorem State.Ways.setNest_same_boards (h : s.Ways) {n : Nest} {x : NestRec} (hx : x.boards = (s.nest n).boards) :
    (Machine.setNest n x s).Ways := h.congr rfl (State.boardAt_setNest_same_boards hx)

theorem keepOut_ways (h : s.Ways) (tag : Half) (n : Nest) : (keepOut tag n s).Ways := by
  unfold keepOut
  dsimp only
  split
  next => exact h
  next =>
    split
    next => exact h.setNest_same_boards rfl
    next =>
      split
      next => exact h.setNest_same_boards rfl
      next =>
        split
        next =>
          have hflag := h.setNest_same_boards (n := n) (x := { s.nest n with vacuumFlag := true, lowRun := none }) rfl
          exact State.Ways.post ((touches_abortBound _ _).keeps ways_dependsOn hflag rfl) tag _
        next => exact h

theorem takeTableState_ways (h : s.Ways) (w : Wire) (x : Unit) (cycle : Half) : (takeTableState w x cycle s).Ways := by
  unfold takeTableState
  split
  next => exact h.post _ _
  next pos _ =>
    have ha := h.setNest_same_boards (n := .a) (x := { s.nest .a with lastVacuum := some (min 100 (Operand.vacuumA w.payload)) }) rfl
    have hb := ha.setNest_same_boards (n := .b) (x := { State.nest _ .b with lastVacuum := some (min 100 (Operand.vacuumB w.payload)) }) rfl
    exact (touches_movePosition _ w.tag cycle pos).keeps ways_dependsOn (keepOut_ways (keepOut_ways hb w.tag .a) w.tag .b) rfl

/-! ### BAY-STATE (R81 to R83) -/

theorem State.Ways.removePlacement (h : s.Ways) (tag : Half) (x : Placement) : (removePlacement tag s x).Ways :=
  ((h.close fun b hb => BoardRec.way_stripped (h.boards _ b hb)).post tag _).settleNest tag _

theorem placements_removePlacement (tag : Half) (x : Placement) :
    (removePlacement tag s x).placements = s.placements.filter fun q => q.ref != x.ref := by
  unfold removePlacement
  exact (touches_settleNest _ tag x.ref.nest).at .placements rfl

/-- R83: the placements of a removed magazine are closed one by one. -/
theorem placements_foldl_removePlacement (tag : Half) (l : List Placement) (s : State) :
    (l.foldl (removePlacement tag) s).placements = s.placements.filter fun q => l.all fun x => q.ref != x.ref := by
  induction l generalizing s with
  | nil => simp
  | cons x rest ih =>
    rw [List.foldl_cons, ih, placements_removePlacement, List.filter_filter]
    exact List.filter_congr fun q _ => by rw [List.all_cons, Bool.and_comm]

/-- R83: a bay loses its magazine, and with it what was open in it. -/
theorem State.Placed.removeMagazine (h : s.Placed) (tag : Half) (id : BayId) : (removeMagazine tag id s).Placed := by
  have hways : ((s.inBay id).foldl (removePlacement tag) s).Ways :=
    foldl_keeps (P := State.Ways) (fun _ x ht => ht.removePlacement tag x) _ h.ways
  have hbay (j : BayId) : ((s.inBay id).foldl (removePlacement tag) s).bay j = s.bay j := by
    rw [State.bay, bays_foldl_removePlacement, State.bay]
  have hall (q : Placement) (hq : q ∈ s.placements) :
      ((s.inBay id).all fun x => q.ref != x.ref) = true ↔ q.dest.bay ≠ id := by
    simp only [List.all_eq_true, State.mem_inBay, bne_iff_ne]
    constructor
    · exact fun hne heq => hne q ⟨hq, heq⟩ rfl
    · intro hne x ⟨hx, hbay⟩ heq
      exact hne (eq_of_ref h.ways.nodup hq hx heq ▸ hbay)
  have hin (j : BayId) : ((s.inBay id).foldl (removePlacement tag) s).inBay j = if id = j then [] else s.inBay j := by
    rw [State.inBay, placements_foldl_removePlacement, List.filter_filter]
    split
    next heq =>
      subst heq
      refine List.filter_eq_nil_iff.mpr fun q hq => ?_
      rw [Bool.and_eq_true, hall q hq, beq_iff_eq]
      exact fun hboth => hboth.2 hboth.1
    next hne =>
      refine List.filter_congr fun q hq => ?_
      rw [Bool.and_eq_left_iff_imp]
      intro hb
      rw [hall q hq, beq_iff_eq.mp hb]
      exact Ne.symm hne
  refine ⟨hways.congr rfl fun _ => rfl, fun j => ?_⟩
  have hbay' : (Machine.removeMagazine tag id s).bay j =
      if id = j then { s.bay id with state := .absent, table := none, reserved := 0 } else s.bay j := by
    have hmod : (Machine.removeMagazine tag id s).bay j = (modBay id (fun b => { b with state := .absent, table := none, reserved := 0 })
        ((s.inBay id).foldl (removePlacement tag) s)).bay j := rfl
    rw [hmod, bay_modBay, hbay, hbay]
  have hin' : (Machine.removeMagazine tag id s).inBay j = if id = j then [] else s.inBay j := hin j
  rw [hbay', hin']
  split
  next => exact Bay.fits_nil rfl rfl ⟨by simp, by simp⟩
  next => exact h.filled j

theorem State.Placed.modBay (h : s.Placed) {id : BayId} {f : Bay → Bay} (hf : (f (s.bay id)).Fits (s.inBay id)) :
    (Machine.modBay id f s).Placed := ⟨h.ways.congr rfl fun _ => rfl, h.filled.modBay hf⟩

theorem bayReport_placed (h : s.Placed) (hbay : s.BayInv) (tag : Half) (present : Bool) (id : BayId) :
    (bayReport tag present id s).Placed := by
  have hfits := h.filled id
  have htaken : (Machine.modBay id (fun b => { b with presence := if present then .present else .notPresent }) s).Placed :=
    h.modBay (hfits.withPresence _)
  unfold bayReport
  dsimp only
  split
  next => exact htaken
  next hk =>
    split
    next hp =>
      rw [modBay_modBay]
      exact h.modBay (hfits.inserted (hbay.1 id) (by simp [hp]) hk)
    next => exact htaken.removeMagazine tag id
    next hp =>
      rw [modBay_modBay]
      obtain ⟨-, ht, -⟩ := (hbay.1 id).empty_of_notPresent (by simp [hp]) hk
      exact h.modBay (hfits.idle ht rfl ht rfl ⟨by simp, by simp⟩)
    next => exact htaken

theorem takeBayState_placed (h : s.Placed) (hbay : s.BayInv) (w : Wire) (x : Unit) (cycle : Half) : (takeBayState w x cycle s).Placed := by
  have hall := foldl_keeps (P := fun u : State => u.Placed ∧ u.BayInv) (g := fun s id => bayReport w.tag (Operand.present w.payload id) id s)
    (fun _ id ⟨h1, h2⟩ => ⟨bayReport_placed h1 h2 w.tag _ id, bayReport_bayInv h2 w.tag _ id⟩) allBays ⟨h, hbay⟩
  exact hall.1

/-! ### PLACE-DONE (R91 to R95) -/

theorem State.Placed.becomeFull (h : s.Placed) (tag : Half) {id : BayId} (hf : Bay.Fits { s.bay id with state := .full } (s.inBay id)) :
    (becomeFull tag id s).Placed :=
  State.Placed.post tag (h.modBay (f := fun b => { b with state := .full }) hf) _

/-- R96: a bay that is changed and becomes FULL is changed once. -/
theorem becomeFull_modBay (tag : Half) (id : BayId) (g : Bay → Bay) (s : State) : becomeFull tag id (modBay id g s) =
    post tag (.bayFull id ((modBay id g s).bay id).limits.1 ((modBay id g s).bay id).limits.2)
      (modBay id (fun b => { g b with state := .full }) s) := by
  unfold becomeFull
  rw [modBay_modBay]

/-- What is open in a bay is told by the boards and their destinations. -/
theorem Bay.Fits.map {b : Bay} {ps : List Placement} (h : b.Fits ps) {f : Placement → Placement}
    (hf : ∀ q, (f q).ref = q.ref ∧ (f q).dest = q.dest) : b.Fits (ps.map f) := by
  have hall {P : Placement → Prop} (hP : ∀ q, P q → P (f q)) (hps : ∀ q ∈ ps, P q) : ∀ q ∈ ps.map f, P q := by
    intro q hq
    obtain ⟨x, hx, rfl⟩ := List.mem_map.mp hq
    exact hP x (hps x hx)
  obtain ⟨kind, state, presence, table, reserved, placed⟩ := b
  match kind, table with
  | .none, _ => exact List.map_eq_nil_iff.mpr h
  | .normal _ _ _ _, none => exact List.map_eq_nil_iff.mpr h
  | .normal v slots pitch dir, some t =>
    obtain ⟨⟨h1, h2, h3⟩, h4⟩ := h
    refine ⟨⟨h1, fun j r hj => ?_, hall (fun q hq => ?_) h3⟩, h4⟩
    · obtain ⟨q, hq, hr, hrun⟩ := h2 j r hj
      exact ⟨f q, List.mem_map_of_mem hq, (hf q).1.trans hr, (hf q).2.symm ▸ hrun⟩
    · rwa [(hf q).1, (hf q).2]
  | .reject capacity, _ =>
    obtain ⟨h1, h2, h3⟩ := h
    refine ⟨hall (fun q hq => ?_) h1, h2.trans (List.length_map f).symm, h3⟩
    rwa [(hf q).2]

/-- R92: an early report of a board IN-TRANSIT. -/
theorem State.Placed.markSensed (h : s.Placed) (r : BoardRef) (cycle : Half) : (markSensed r cycle s).Placed := by
  have hmark (q : Placement) := q.marked_keeps r cycle
  refine ⟨h.ways.markSensed r cycle, fun i => ?_⟩
  have hin : (Machine.markSensed r cycle s).inBay i =
      (s.inBay i).map fun q => if q.ref = r then { q with sensed := some cycle } else q := by
    simp only [State.inBay, Machine.markSensed, List.filter_map]
    congr 1
    exact List.filter_congr fun q _ => by rw [Function.comp, (hmark q).2]
  rw [hin]
  exact (h.filled i).map hmark

/-- R95: the run of a stray board's slot ends, and the slot is OCCUPIED. -/
theorem State.Placed.strayReserved (h : s.Placed) (tag : Half) {id : BayId} {v slots pitch : Nat} {dir : FillDir} {t : SlotTable}
    (hk : (s.bay id).kind = .normal v slots pitch dir) (ht : (s.bay id).table = some t) {slot : Nat} {r : BoardRef}
    (hslot : t.slots[slot]? = some (.reserved r)) : ∃ x, s.placementOf r = some x ∧
      (Machine.modBay id (fun b => { b with table := b.table.map fun t => t.mark [slot] (.occupied none) })
        (Machine.endPlacement tag x .stray s)).Placed := by
  obtain ⟨hfits, -⟩ := (Bay.fits_normal hk ht).mp (h.filled id)
  obtain ⟨x, hx, rfl, hrun⟩ := hfits.owned slot r hslot
  obtain ⟨hmem, rfl⟩ := State.mem_inBay.mp hx
  have hfind : s.placementOf x.ref = some x := by
    cases hfind : s.placementOf x.ref with
    | none =>
      have := List.find?_eq_none.mp hfind x hmem
      simp at this
    | some y =>
      obtain ⟨hy, href⟩ := placementOf_some hfind
      rw [eq_of_ref h.ways.nodup hy hmem href]
  have hended := h.endPlacement tag hmem .stray
  have hbay : (Machine.endPlacement tag x .stray s).bay x.dest.bay = (s.bay x.dest.bay).releaseRun x.dest := by
    have hbays : (Machine.endPlacement tag x .stray s).bays = (Machine.modBay x.dest.bay (fun b => b.releaseRun x.dest) (closePlacement x.ref s)).bays := by
      unfold Machine.endPlacement
      exact (touches_settleNest _ tag x.ref.nest).at .bays rfl
    rw [State.bay, hbays]
    exact (bay_modBay _ _ _).trans (if_pos rfl)
  have hreleased : (s.bay x.dest.bay).releaseRun x.dest =
      { s.bay x.dest.bay with table := some (t.mark (runSlots dir x.dest.first x.dest.span) .skipped) } := by
    simp only [Bay.releaseRun, Bay.markRun, hk, ht, Option.map_some]
  have hskipped : (t.mark (runSlots dir x.dest.first x.dest.span) .skipped).slots[slot]? = some .skipped := by
    rw [SlotTable.getElem?_mark, if_pos ⟨hrun, (List.getElem?_eq_some_iff.mp hslot).1⟩]
  refine ⟨x, hfind, hended.modBay ?_⟩
  refine (hended.filled x.dest.bay).occupy (v := v) (slots := slots) (pitch := pitch) (dir := dir) ?_ ?_ hskipped (by simp) (by simp)
  · rw [hbay, hreleased]
    exact hk
  · rw [hbay, hreleased]

theorem strayInSlot_placed (h : s.Placed) (hbay : s.BayInv) (tag : Half) {id : BayId} {v slots pitch : Nat} {dir : FillDir} {t : SlotTable}
    (hk : (s.bay id).kind = .normal v slots pitch dir) (ht : (s.bay id).table = some t) (slot : Nat) :
    (strayInSlot tag id slots dir t slot s).Placed := by
  have hfits := h.filled id
  unfold strayInSlot
  dsimp only
  split
  next => exact h
  next => exact h
  next hslot => exact h.modBay (hfits.occupy hk ht hslot (by simp) (by simp))
  next hslot =>
    obtain ⟨hfull, hopen⟩ := hfits.strayAt (hbay.1 id) hk ht hslot
    rw [bay_modBay, if_pos rfl]
    split
    next hlim =>
      rw [becomeFull_modBay]
      exact State.Placed.post tag (h.modBay (hfull hlim.1)) _
    next hlim => exact h.modBay (f := fun b => { b with table := some (t.strayAt dir slots slot) }) (hopen hlim)
  next r hslot =>
    obtain ⟨x, hx, hplaced⟩ := h.strayReserved tag hk ht hslot
    rw [hx]
    exact hplaced

theorem strayInReject_placed (h : s.Placed) (hbay : s.BayInv) (tag : Half) {id : BayId} {capacity : Nat}
    (hk : (s.bay id).kind = .reject capacity) : (strayInReject tag id capacity s).Placed := by
  obtain ⟨hfull, hopen⟩ := (h.filled id).strayReject (hbay.1 id) hk
  unfold strayInReject
  dsimp only
  rw [bay_modBay, if_pos rfl]
  split
  next hlim =>
    rw [becomeFull_modBay]
    exact State.Placed.post tag (h.modBay (hfull hlim.1)) _
  next hlim => exact h.modBay (f := fun b => { b with placed := min capacity (b.placed + 1) }) (hopen hlim)

theorem matchPlacement_mem {id : BayId} {first : Nat} {x : Placement} (h : matchPlacement s id first = some x) : x ∈ s.placements := by
  unfold matchPlacement at h
  split at h
  next => exact List.mem_of_find?_eq_some h
  next =>
    split at h
    next =>
      rcases Option.or_eq_some_iff.mp h with h | ⟨-, h⟩
      · exact List.mem_of_find?_eq_some h
      · exact List.mem_of_find?_eq_some h
    next => cases h
  next => cases h

theorem takePlaceDone_placed (h : s.Placed) (hbay : s.BayInv) (w : Wire) (x : Unit) (cycle : Half) : (takePlaceDone w x cycle s).Placed := by
  unfold takePlaceDone
  split
  next => exact h.post _ _
  next sensed _ =>
    split
    next q hq =>
      obtain ⟨id, -, hmatch⟩ := Option.bind_eq_some_iff.mp hq
      have hmem := matchPlacement_mem hmatch
      unfold takeMatched
      split
      next => exact h.endPlacement w.tag hmem .notSensed
      next =>
        split
        next => exact h.completePlacement w.tag hbay hmem cycle
        next =>
          exact h.markSensed q.ref cycle
    next =>
      have hposted := h.post w.tag (.strayPlace (Operand.placeBay w.payload) (Operand.placeFirst w.payload) sensed cycle)
      unfold strayPlace
      dsimp only
      split
      next id _ =>
        split
        next =>
          unfold strayInBay
          dsimp only
          split
          next =>
            split
            next hk => exact strayInReject_placed hposted hbay w.tag hk
            next hk ht => exact strayInSlot_placed hposted hbay w.tag hk ht _
            next => exact hposted
          next => exact hposted
        next => exact hposted
      next => exact hposted

end Reports

end Sys2Proof.Machine

/-! Requests and resets keep the open placements, the boards they are for and the slots they have (R88, R90); O60. -/

namespace Sys2Proof.Machine

section Requests
variable {s : State}

theorem State.Custody.boards_of_empty (h : s.Custody) {n : Nest} (he : (s.nest n).state = .empty) : (s.nest n).boards = [] :=
  ((h.nests n).1 he).1

theorem requestNestLoad_ways (h : s.Ways) (hcust : s.Custody) (p : Payload) : (requestNestLoad p s).1.Ways := by
  unfold requestNestLoad
  split
  next n i _ _ =>
    dsimp only
    split
    next => exact h
    next hempty =>
      split
      next => exact h
      next =>
        refine State.Ways.congr (h.setNest (n := n) ?_ ?_) rfl fun _ => rfl
        · rw [hcust.boards_of_empty (not_not.mp hempty)]
          exact List.forall_mem_nil _
        · intro b hb
          obtain ⟨k, -, rfl⟩ := List.mem_map.mp hb
          simp [BoardRec.way, BoardRec.WayOk]
  next => exact h

/-- R24: a nest that may be unloaded has no board on its way. -/
theorem State.Custody.noWay_of_unload (h : s.Custody) {n : Nest} (hst : (s.nest n).state ≠ .empty)
    (hmay : ¬((s.nest n).state = .loaded ∧ (s.nest n).mayUnload = false)) : ∀ b ∈ (s.nest n).boards, b.way = none := by
  intro b hb
  cases hs : (s.nest n).state with
  | empty => exact absurd hs hst
  | loaded =>
    have hok : (s.nest n).mayUnload = true := by simpa [hs] using hmay
    simp only [NestRec.mayUnload, Bool.and_eq_true, Bool.not_eq_true', List.any_eq_false] at hok
    have := hok.1 b hb
    simp only [Bool.or_eq_true, not_or, Bool.not_eq_true, decide_eq_false_iff_not] at this
    exact BoardRec.way_eq_none_of_state this.1.1.2 this.1.2
  | cleared =>
    have hterm := List.all_eq_true.mp ((h.nests n).2 hs) b hb
    exact BoardRec.way_eq_none_of_state (fun he => by simp [he, BoardState.terminal] at hterm)
      fun he => by simp [he, BoardState.terminal] at hterm

theorem requestNestUnload_ways (h : s.Ways) (hcust : s.Custody) (p : Payload) : (requestNestUnload p s).1.Ways := by
  unfold requestNestUnload
  split
  next => exact h
  next n _ =>
    dsimp only
    split
    next => exact h
    next hst =>
      split
      next => exact h
      next hmay =>
        have hrecipe : (modRecipe (s.nest n).slot (fun x => { x with useCount := x.useCount - 1 }) s).Ways := h.congr rfl fun _ => rfl
        exact hrecipe.setNest (hcust.noWay_of_unload hst hmay) (List.forall_mem_nil _)

theorem requestNestClear_ways (h : s.Ways) (p : Payload) : (requestNestClear p s).1.Ways := by
  unfold requestNestClear
  split
  next => exact h
  next =>
    split
    next => exact h
    next =>
      split
      next => exact h.setNest_same_boards rfl
      next => exact h

theorem requestBayConfig_placed (h : s.Placed) (p : Payload) : (requestBayConfig p s).1.Placed := by
  unfold requestBayConfig
  split
  next id kind moved _ _ =>
    split
    next => exact h
    next =>
      split
      next => exact h
      next huse =>
        have hnil := (h.filled id).eq_nil (Bool.eq_false_of_not_eq_true huse)
        refine h.modBay (f := fun b => b.configured kind) ?_
        rw [hnil]
        refine Bay.fits_nil rfl rfl ?_
        simp only [Bay.configured]
        split
        next => simp
        next => split <;> simp
  next => exact h

theorem requestBayPreset_placed (h : s.Placed) (hbay : s.BayInv) (tag : Half) (p : Payload) : (requestBayPreset tag p s).1.Placed := by
  unfold requestBayPreset
  split
  next => exact h
  next id _ =>
    dsimp only
    split
    next => exact h
    next hst =>
      split
      next => exact h
      next huse =>
        have huse' := Bool.eq_false_of_not_eq_true huse
        have hnil := (h.filled id).eq_nil huse'
        have hres : (s.bay id).reserved = 0 := by
          simp only [Bay.inUse, Bool.or_eq_false_iff, decide_eq_false_iff_not, Nat.not_lt, Nat.le_zero] at huse'
          exact huse'.1
        obtain ⟨hfull, hopen⟩ := Bay.fits_preset hst (hbay.1 id) hres (Nat.min_le_right (Operand.fillCount p) (s.bay id).kind.limit)
        rw [← hnil] at hfull hopen
        split
        next hc =>
          rw [becomeFull_modBay]
          exact State.Placed.post tag (h.modBay (hfull hc)) _
        next hc => exact h.modBay (f := fun b => b.preset _) (hopen hc)

/-- Nothing is open, both nests are empty and no bay has anything reserved. -/
theorem State.placed_cleared (hp : s.placements = []) (hn : ∀ n, s.nest n = NestRec.cleared) (hb : ∀ i, (s.bay i).Fits []) : s.Placed := by
  have hboard (r : BoardRef) : s.boardAt r = none := by
    rw [State.boardAt, hn]
    rfl
  refine ⟨⟨by simp [hp], by simp [hp], fun r d hd => ?_, fun r b hr => ?_⟩, fun i => ?_⟩
  · simp [State.wayOf, hboard] at hd
  · simp [hboard] at hr
  · rw [State.inBay, hp]
    exact hb i

theorem powerOnValues_placed (straps : Station) (pins : Pins) : (powerOnValues straps pins s).Placed := by
  refine State.placed_cleared rfl (fun n => by cases n <;> rfl) fun i => ?_
  have hbay : (powerOnValues straps pins s).bay i = Bay.initial := by fin_cases i <;> rfl
  rw [hbay]
  rfl

theorem linkReset_placed : (linkReset s).Placed := by
  refine State.placed_cleared rfl (fun n => by cases n <;> rfl) fun i => ?_
  have hbay : (linkReset s).bay i = (s.bay i).linkReset := by
    simp only [linkReset, State.bay, Fin.getElem_fin, Vector.getElem_map]
  rw [hbay]
  refine Bay.fits_nil rfl rfl ?_
  simp only [Bay.linkReset, Bay.configured]
  split
  next => simp
  next => split <;> simp

end Requests

section Exec
variable {s t : State} {c : Instr}

theorem exec_placed (hcust : s.Custody) (hboard : s.BoardInv) (hbay : s.BayInv) (h : s.Placed) (hx : exec c s = .next t) : t.Placed := by
  have hP := placed_dependsOn
  have hW := ways_dependsOn
  have hfilled (hF : Part.apart [.bays, .placements] (footprint c) = true) : t.Filled := h.filled.of_touches (touches_of_exec hx) hF
  by_cases hc : Part.apart [.nests, .bays, .placements] (footprint c) = true
  · exact (touches_of_exec hx).keeps hP h hc
  · cases c with
    | cut w => exact ⟨Host.Outcome.next.inj hx ▸ walkGated_keeps hW rfl h.ways (judgeCut_ways h.ways), hfilled rfl⟩
    | grip w => exact ⟨Host.Outcome.next.inj hx ▸ walkGated_keeps hW rfl h.ways (judgeGrip_ways h.ways), hfilled rfl⟩
    | openJaws w => exact Host.Outcome.next.inj hx ▸ walkGated_keeps hP rfl h (judgeOpen_placed h hbay hcust)
    | lift w => exact ⟨Host.Outcome.next.inj hx ▸ walkGated_keeps hW rfl h.ways (judgeLift_ways h.ways), hfilled rfl⟩
    | place w => exact Host.Outcome.next.inj hx ▸ walkGated_keeps hP rfl h (judgePlace_placed h hbay hboard)
    | cutDone w => exact ⟨Host.Outcome.next.inj hx ▸ walkReport_keeps hW rfl h.ways (takeCutDone_ways h.ways w), hfilled rfl⟩
    | gripState w => exact Host.Outcome.next.inj hx ▸ walkReport_keeps hP rfl h (takeGripState_placed h hcust w)
    | tableState w => exact ⟨Host.Outcome.next.inj hx ▸ walkReport_keeps hW rfl h.ways (takeTableState_ways h.ways w), hfilled rfl⟩
    | bayState w => exact Host.Outcome.next.inj hx ▸ walkReport_keeps hP rfl h (takeBayState_placed h hbay w)
    | placeDone w => exact Host.Outcome.next.inj hx ▸ walkReport_keeps hP rfl h (takePlaceDone_placed h hbay w)
    | cutTimerExpiry i => exact ⟨Host.Outcome.next.inj hx ▸ expire_keeps hW rfl h.ways fun _ ht => cutTimedOut_ways ht i, hfilled rfl⟩
    | jawTimerExpiry p => exact ⟨Host.Outcome.next.inj hx ▸ expire_keeps hW rfl h.ways fun _ ht => jawExpired_ways ht p, hfilled rfl⟩
    | placeTimerExpiry n j =>
      obtain rfl := Host.Outcome.next.inj hx
      split
      next x hfind =>
        have hnow {m : Nat} : State.Placed { s with now := m } := ⟨h.ways.congr rfl fun _ => rfl, h.filled⟩
        unfold expire
        split
        next => exact h
        next ends _ =>
          split
          next => exact h
          next => exact (hnow (m := max s.now ends)).endPlacement 0 (placementOf_some hfind).1 .timeout
      next => exact h
    | nestLoad w => exact ⟨Host.Outcome.next.inj hx ▸ walkRequest_keeps hW rfl h.ways (requestNestLoad_ways h.ways hcust w.payload), hfilled rfl⟩
    | nestUnload w =>
      exact ⟨Host.Outcome.next.inj hx ▸ walkRequest_keeps hW rfl h.ways (requestNestUnload_ways h.ways hcust w.payload), hfilled rfl⟩
    | nestClear w => exact ⟨Host.Outcome.next.inj hx ▸ walkRequest_keeps hW rfl h.ways (requestNestClear_ways h.ways w.payload), hfilled rfl⟩
    | bayConfig w => exact Host.Outcome.next.inj hx ▸ walkRequest_keeps hP rfl h (requestBayConfig_placed h w.payload)
    | bayPreset w => exact Host.Outcome.next.inj hx ▸ walkRequest_keeps hP rfl h (requestBayPreset_placed h hbay w.tag w.payload)
    | powerOnReset a => exact Host.Outcome.next.inj hx ▸ powerOnValues_placed a _
    | pinReset a =>
      obtain rfl := Host.Outcome.next.inj hx
      exact Touches.keeps (F := [.lanes, .cuts]) (.of_take rfl rfl) hP (powerOnValues_placed (s := s) a { s.pins with nreset := false }) rfl
    | reset w => exact Host.Outcome.next.inj hx ▸ walkRequest_keeps hP rfl h linkReset_placed
    | _ => exact absurd rfl hc

end Exec

/-- The invariants that a step reads to keep the open placements. -/
def State.PlaceWorld (s : State) : Prop := s.Custody ∧ s.BoardInv ∧ s.BayInv ∧ s.Placed

theorem placeWorld_dependsOn : DependsOn [.nests, .pickers, .panel, .bays, .placements] State.PlaceWorld := by
  intro s t h ⟨hcust, hboard, hbay, hplaced⟩
  exact ⟨custody_dependsOn s t (fun p hp => h p (by simp_all; tauto)) hcust, boardInv_dependsOn s t (fun p hp => h p (by simp_all)) hboard,
    bayInv_dependsOn s t (fun p hp => h p (by simp_all)) hbay, placed_dependsOn s t (fun p hp => h p (by simp_all; tauto)) hplaced⟩

/-- The recipes and the fixed fields of the boards taken from them. -/
def State.BoardWorld (s : State) : Prop := s.RecipeInv ∧ s.BoardInv

theorem boardWorld_dependsOn : DependsOn [.recipes, .nests, .panel] State.BoardWorld := by
  intro s t h ⟨hr, hb⟩
  exact ⟨recipeInv_dependsOn s t (fun p hp => h p (by simp_all; tauto)) hr, boardInv_dependsOn s t (fun p hp => h p (by simp_all)) hb⟩

/-- Settles O60: each command keeps the bays (`exec_bayInv`), the boards' fixed fields (`exec_boardInv`) and the open
placements (`exec_placed`). -/
theorem stepsKeepBaysAndPlacements : Obligations.StepsKeepBaysAndPlacements := by
  intro s t h
  refine ⟨fun hs => step_keeps bayInv_dependsOn rfl exec_bayInv hs h, fun hr hb => ?_, fun hcust hboard hbay hplace => ?_⟩
  · have hexec {c : Instr} {s t : State} (hs : s.BoardWorld) (hx : exec c s = .next t) : t.BoardWorld :=
      ⟨exec_recipeInv hs.1 hx, exec_boardInv hs.1 hs.2 hx⟩
    exact (step_keeps boardWorld_dependsOn rfl hexec ⟨hr, hb⟩ h).2
  · have hworld : s.PlaceWorld := ⟨State.custody_iff.mpr hcust, hboard, hbay, State.placed_iff.mpr hplace⟩
    have hexec {c : Instr} {s t : State} (hs : s.PlaceWorld) (hx : exec c s = .next t) : t.Placed := by
      obtain ⟨hcust, hboard, hbay, hplaced⟩ := hs
      exact exec_placed hcust hboard hbay hplaced hx
    exact State.placed_iff.mp (step_gives placeWorld_dependsOn rfl (fun hs => hs.2.2.2) hexec hworld h)

end Sys2Proof.Machine

/-! Timers at rest (R163), the state after reset (R16, R35, R59, R76, R99, R114, R132, R149), and the bytes of a rewritten item (R166). -/

namespace Sys2Proof.Machine

/-! ### Timers that do not run -/

section Timers
variable {s : State}

/-- A stopped timer does not expire (log 2), and none does during a reset (R163). -/
theorem expire_rests {timer : Option Nat} (h : timer = none ∨ s.inReset = true) (act : State → State) : expire timer act s = s := by
  rcases h with rfl | h
  · rfl
  · exact expire_inReset h timer act

theorem placementOf_eq_none {r : BoardRef} (h : ∀ p ∈ s.placements, p.ref ≠ r) : s.placementOf r = none :=
  List.find?_eq_none.mpr fun p hp => by simpa using h p hp

theorem exec_placeTimerExpiry_rests {n : Nest} {b : Nat}
    (h : (∀ p ∈ s.placements, p.ref ≠ { nest := n, board := b }) ∨ s.inReset = true) : exec (.placeTimerExpiry n b) s = .next s := by
  refine congrArg Host.Outcome.next ?_
  cases hp : s.placementOf { nest := n, board := b } with
  | none => rfl
  | some p =>
    refine expire_rests (h.imp_left fun hnone => ?_) _
    rw [placementOf_eq_none hnone] at hp
    cases hp

theorem exec_filterTimerExpiry_rests (h : s.line.filterTimer = none ∨ s.inReset = true) : exec .filterTimerExpiry s = .next s := by
  refine congrArg Host.Outcome.next ?_
  cases ht : s.line.filterTimer with
  | none => rfl
  | some t => exact expire_rests (h.imp_left fun hnone => by simp [ht] at hnone) _

end Timers

/-- Settles O3: every expiry goes through `expire`, which does nothing on a stopped timer or in a reset. -/
theorem stoppedTimersDoNotExpire : Obligations.StoppedTimersDoNotExpire := by
  intro s
  have rests {timer : Option Nat} {act : State → State} (h : timer = none ∨ s.inReset = true) :
      (Host.Outcome.next (expire timer act s) : Host.Outcome State Fault Refusal) = .next s :=
    congrArg Host.Outcome.next (expire_rests h act)
  exact ⟨fun i => ⟨rests, rests, rests, rests, rests⟩, fun p => rests, fun n b => exec_placeTimerExpiry_rests, rests,
    exec_filterTimerExpiry_rests⟩

/-! ### The state after reset -/

/-- The reset state is what a power-on reset leaves of it, with straps of 0. -/
theorem powerOnValues_reset : powerOnValues 0 State.reset.pins State.reset = State.reset := rfl

theorem reset_linkInv : State.reset.LinkInv :=
  linkInv_iff.mpr ⟨⟨PortRec.ok_initial, PortRec.ok_initial⟩, ReturnPath.ok_cleared,
    powerOnValues_reset ▸ powerOnValues_lineRolesOk 0 State.reset.pins, by decide⟩

theorem lane_reset (i : LaneId) : State.reset.lane i = Lane.initial := by fin_cases i <;> rfl

theorem reset_cutInv : State.reset.CutInv :=
  State.cutsAgree_iff.mp (State.cutsAgree_cleared (fun i => by rw [lane_reset]; rfl) fun n => by cases n <;> rfl)

/-- Settles O56: the invariants from what each says of a power-on reset, the values by reading them off. -/
theorem resetMeetsTheInvariants : Obligations.ResetMeetsTheInvariants := by
  refine ⟨⟨reset_linkInv, ?lanes, ?recipes, State.custody_iff.mp ?custody, reset_cutInv, ?boards, ?bays, State.placed_iff.mp ?placed⟩,
    ⟨rfl, rfl, rfl, rfl, rfl, rfl, rfl, rfl, rfl⟩, fun p => by cases p <;> rfl, fun r => ?roles, fun i => by fin_cases i <;> rfl,
    rfl, rfl, fun n => by cases n <;> exact ⟨rfl, rfl, rfl, rfl, rfl, rfl⟩, fun i => ?lane, fun q => by fin_cases q <;> rfl,
    fun b => by fin_cases b <;> rfl, rfl, ⟨rfl, rfl, rfl, rfl, rfl, rfl, rfl, rfl, rfl⟩⟩
  case lanes => exact powerOnValues_reset ▸ powerOnValues_laneInv 0 State.reset.pins
  case recipes => exact powerOnValues_reset ▸ powerOnValues_recipeInv 0 State.reset.pins
  case custody => exact powerOnValues_reset ▸ powerOnValues_custody 0 State.reset.pins
  case boards => exact powerOnValues_reset ▸ powerOnValues_boardInv 0 State.reset.pins
  case bays => exact powerOnValues_reset ▸ powerOnValues_bayInv 0 State.reset.pins
  case placed => exact powerOnValues_reset ▸ powerOnValues_placed 0 State.reset.pins
  case roles =>
    change (Vector.replicate 8 none)[r.index] = _
    simp
  case lane =>
    rw [lane_reset]
    exact ⟨⟨rfl, rfl, rfl, rfl, rfl, rfl, rfl, rfl, rfl, rfl, rfl, rfl, rfl, rfl, rfl, rfl, rfl⟩, rfl, rfl⟩

/-! ### The bytes of items -/

/-- R139, R166: the sixteen bytes of a voided item. -/
theorem itemBytes_voidItem (kind : Byte) (w : Wire) (code : RefusalCode) :
    itemBytes (voidItem (itemOf kind w) code) =
      [w.addr, 0x1F] ++ leBytes 2 w.tag.toNat ++ [kind, code.code] ++ leBytes 2 w.tag.toNat ++ List.replicate 8 0 := by
  have hpayload : payloadOf ([kind, code.code] ++ halfBytes w.tag) =
      BitVec.ofNat 96 (ofLeBytes ([kind, code.code] ++ leBytes 2 w.tag.toNat ++ List.replicate 8 0)) := by
    simp [payloadOf, halfBytes, leBytes, ofLeBytes]
  have hbytes := leBytes_toNat_ofNat 12 (n := 96) rfl (bs := [kind, code.code] ++ leBytes 2 w.tag.toNat ++ List.replicate 8 0)
    (by simp [length_leBytes])
  have hvoid : itemBytes (voidItem (itemOf kind w) code) =
      [w.addr, 0x1F] ++ leBytes 2 w.tag.toNat ++ leBytes 12 (payloadOf ([kind, code.code] ++ halfBytes w.tag)).toNat := rfl
  rw [hvoid, hpayload, hbytes]
  simp only [List.append_assoc]

/-- The bits of a rewritten field are those of the number, and the other bits are the payload's. -/
theorem getLsbD_withField (p : Payload) {n k v j : Nat} (hj : j < 96) :
    (withField p n k v).getLsbD j =
      if 8 * (n - 4) ≤ j ∧ j < 8 * (n - 4) + 8 * k then v.testBit (j - 8 * (n - 4)) else p.getLsbD j := by
  have hsum : p.toNat % 2 ^ (8 * (n - 4)) + (v % 2 ^ (8 * k)) * 2 ^ (8 * (n - 4)) +
      (p.toNat / 2 ^ (8 * (n - 4) + 8 * k)) * 2 ^ (8 * (n - 4) + 8 * k) =
      2 ^ (8 * (n - 4)) * (2 ^ (8 * k) * (p.toNat / 2 ^ (8 * (n - 4) + 8 * k)) + v % 2 ^ (8 * k)) + p.toNat % 2 ^ (8 * (n - 4)) := by
    rw [Nat.pow_add]
    ring
  unfold withField
  rw [BitVec.getLsbD_ofNat, hsum, Nat.testBit_two_pow_mul_add _ (Nat.mod_lt _ (Nat.two_pow_pos _)),
    Nat.testBit_two_pow_mul_add _ (Nat.mod_lt _ (Nat.two_pow_pos _)), Nat.testBit_mod_two_pow, Nat.testBit_mod_two_pow,
    Nat.testBit_div_two_pow, decide_eq_true hj, Bool.true_and]
  by_cases hlow : j < 8 * (n - 4)
  · simp [hlow, Nat.not_le.mpr hlow, BitVec.testBit_toNat]
  · by_cases hmid : j < 8 * (n - 4) + 8 * k
    · have hin : j - 8 * (n - 4) < 8 * k := by omega
      simp [hlow, Nat.not_lt.mp hlow, hmid, hin]
    · have hout : ¬j - 8 * (n - 4) < 8 * k := by omega
      have hidx : j - 8 * (n - 4) - 8 * k + (8 * (n - 4) + 8 * k) = j := by omega
      simp only [hlow, hmid, hout, if_false, and_false, hidx, BitVec.testBit_toNat]

/-- R166: a rewritten field holds its number least significant byte first, and no other byte changes. -/
theorem payloadByte_withField (p : Payload) {n k v m : Nat} (hn : 4 ≤ n) (hm : 4 ≤ m) (hm' : m ≤ 15) :
    payloadByte (withField p n k v) m = if n ≤ m ∧ m < n + k then BitVec.ofNat 8 (v / 256 ^ (m - n)) else payloadByte p m := by
  refine BitVec.eq_of_getLsbD_eq fun i hi => ?_
  have hbit : (payloadByte (withField p n k v) m).getLsbD i = (withField p n k v).getLsbD (8 * (m - 4) + i) := by
    simp [payloadByte, hi]
  rw [hbit, getLsbD_withField p (by omega)]
  by_cases hin : n ≤ m ∧ m < n + k
  · have hpow : (256 : Nat) ^ (m - n) = 2 ^ (8 * (m - n)) := by rw [Nat.pow_mul]
    have hidx : 8 * (m - 4) + i - 8 * (n - 4) = i + 8 * (m - n) := by omega
    rw [if_pos (by omega), if_pos hin, BitVec.getLsbD_ofNat, hpow, Nat.testBit_div_two_pow, hidx, decide_eq_true hi, Bool.true_and]
  · rw [if_neg (by omega), if_neg hin]
    simp [payloadByte, hi]

/-- Settles O7, by the bytes of a voided item and of a rewritten field. -/
theorem rewrittenItemsHoldTheirBytes : Obligations.RewrittenItemsHoldTheirBytes :=
  ⟨itemBytes_voidItem, fun p _ _ _ _ hn _ hm hm' => payloadByte_withField p hn hm hm'⟩

end Sys2Proof.Machine

/-! The line supervisor (chapter 9): the safety input, the alert output, and the requests on the line, the roles and the settings. -/

namespace Sys2Proof.Machine

section Asked
variable {s s' : State} {f : DownFrame} {rest : List DownFrame} {w : Wire} {more : List Item} {r : Result} {fields : List Byte}

/-- R158: what a request's command comes to when its act gives a reply. -/
theorem State.Asked.next {kind : Byte} {act : State → State × Reply} (h : s.Asked f rest kind w more) (hr : act s = (s', r, fields)) :
    (Host.Outcome.next (walkRequest kind w act s) : Host.Outcome State Fault Refusal) =
      .next (s'.answeredOn f rest kind w more r fields) := congrArg Host.Outcome.next (walkRequest_reply h hr)

/-- R159: a value brought into its range is told by CLAMPED. -/
theorem doneOr_bne (a b : Nat) : doneOr (a != b) = if a = b then .done else .clamped := by
  by_cases h : a = b
  · simp [doneOr, h]
  · simp [doneOr, h, bne_iff_ne.mpr h]

end Asked

/-! ### The safety input (R152) -/

section Sense
variable {s : State} {high : Bool}

theorem Filtered.agrees_iff (f : Filtered) : f.agrees high = true ↔ f = if high then .closed else .opened := by
  cases f <;> cases high <;> simp [Filtered.agrees]

/-- R152: a level that agrees with the filtered one stops the filter. -/
theorem senseChange_agrees (hr : s.inReset = false) (hne : s.pins.stopSense ≠ high)
    (h : s.line.filtered = if high then .closed else .opened) :
    senseChange high s = { s with pins := { s.pins with stopSense := high }, line := { s.line with filterTimer := none } } := by
  rw [senseChange, if_neg hne]
  dsimp only
  rw [if_neg (by simp [hr]), if_pos ((Filtered.agrees_iff _).mpr h)]

/-- R152: any other level starts the filter anew. -/
theorem senseChange_differs (hr : s.inReset = false) (hne : s.pins.stopSense ≠ high)
    (h : s.line.filtered ≠ if high then .closed else .opened) :
    senseChange high s = { s with
      pins := { s.pins with stopSense := high },
      line := { s.line with filterTimer := some { high := high, ends := s.now + s.timing.stopFilter } } } := by
  rw [senseChange, if_neg hne]
  dsimp only
  rw [if_neg (by simp [hr]), if_neg (mt (Filtered.agrees_iff _).mp h)]

/-- R163: in a reset only the pin takes the level. -/
theorem senseChange_inReset (hr : s.inReset = true) : senseChange high s = { s with pins := { s.pins with stopSense := high } } := by
  by_cases hsame : s.pins.stopSense = high
  · rw [senseChange, if_pos hsame, ← hsame]
  · rw [senseChange, if_neg hsame]
    exact if_pos hr

theorem exec_filterTimerExpiry {t : FilterTimer} (ht : s.line.filterTimer = some t) (hr : s.inReset = false) :
    exec .filterTimerExpiry s = .next (filterExpired t.high (s.runTo t.ends)) := by
  change Host.Outcome.next (match s.line.filterTimer with
    | some t => expire (some t.ends) (filterExpired t.high) s
    | none => s) = _
  rw [ht]
  exact congrArg Host.Outcome.next (expire_running hr _)

end Sense

/-- Settles O15: a change by what it agrees with, the expiry by the judgement of the line (`judgeLine_eq`). -/
theorem safetyInputIsFiltered : Obligations.SafetyInputIsFiltered := by
  refine ⟨fun s high hr hne => ⟨fun h => ?_, fun h => ?_⟩, fun s t ht hr => ?_⟩
  · exact congrArg Host.Outcome.next (senseChange_agrees hr hne h)
  · exact congrArg Host.Outcome.next (senseChange_differs hr hne h)
  · rw [exec_filterTimerExpiry ht hr]
    exact congrArg Host.Outcome.next (judgeLine_eq _)

/-! ### The alert (R153 to R155) -/

section Alert
variable {s : State}

theorem testBit_setBits (l : List Bool) (n : Nat) :
    (l.foldr (fun (b : Bool) (acc : Nat) => (if b then 1 else 0) + 2 * acc) 0).testBit n = l.getD n false := by
  induction l generalizing n with
  | nil => simp
  | cons b l ih =>
    have hsum : (if b then 1 else 0) + 2 * l.foldr (fun (b : Bool) (acc : Nat) => (if b then 1 else 0) + 2 * acc) 0 =
        Nat.bit b (l.foldr (fun (b : Bool) (acc : Nat) => (if b then 1 else 0) + 2 * acc) 0) := by
      cases b
      · simp [Nat.bit]
      · simp [Nat.bit]
        ring
    rw [List.foldr_cons, hsum]
    cases n with
    | zero => simp
    | succ n => simpa [Nat.testBit_bit_succ] using ih n

theorem getLsbD_setByte {l : List Bool} {n : Nat} (hn : n < 8) : (setByte l).getLsbD n = l.getD n false := by
  rw [setByte, BitVec.getLsbD_ofNat, testBit_setBits, decide_eq_true hn, Bool.true_and]

theorem Causes.isEmpty_eq_false_iff (c : Causes) : (!c.isEmpty) = true ↔ ∃ k, c.has k = true := by
  constructor
  · intro h
    simp only [Causes.isEmpty, Bool.not_eq_true', Bool.and_eq_false_iff, Bool.not_eq_false'] at h
    rcases h with (((h | h) | h) | h) | h
    exacts [⟨.overload, h⟩, ⟨.driveFault, h⟩, ⟨.cutTimeout, h⟩, ⟨.bitBroken, h⟩, ⟨.spindown, h⟩]
  · rintro ⟨k, h⟩
    cases k <;> simp_all [Causes.isEmpty, Causes.has]

theorem any_lanes_iff {P : Lane → Bool} : (s.lanes.toList.any P) = true ↔ ∃ i : LaneId, P (s.lane i) = true := by
  rw [List.any_eq_true]
  constructor
  · rintro ⟨l, hl, hP⟩
    obtain ⟨i, hi, rfl⟩ := Vector.mem_iff_getElem.mp (Vector.mem_toList_iff.mp hl)
    exact ⟨⟨i, hi⟩, hP⟩
  · rintro ⟨i, hP⟩
    exact ⟨_, Vector.mem_toList_iff.mpr (Vector.getElem_mem i.isLt), hP⟩

theorem any_bays_iff {P : Bay → Bool} : (s.bays.toList.any P) = true ↔ ∃ i : BayId, P (s.bay i) = true := by
  rw [List.any_eq_true]
  constructor
  · rintro ⟨b, hb, hP⟩
    obtain ⟨i, hi, rfl⟩ := Vector.mem_iff_getElem.mp (Vector.mem_toList_iff.mp hb)
    exact ⟨⟨i, hi⟩, hP⟩
  · rintro ⟨i, hP⟩
    exact ⟨_, Vector.mem_toList_iff.mpr (Vector.getElem_mem i.isLt), hP⟩

theorem State.alertBit {n : Nat} (hn : n < 8) : s.alertByte.getLsbD n = s.alertConditions.getD n false := getLsbD_setByte hn

/-- R154: the output is driven by a condition whose mask entry is on. -/
theorem State.alertOut_iff : s.alertOut = true ↔
    s.inReset = false ∧ ∃ n, n < 8 ∧ s.line.mask.getLsbD n = true ∧ s.alertByte.getLsbD n = true := by
  have hand : s.alertByte &&& s.line.mask ≠ 0 ↔ ∃ n, n < 8 ∧ s.line.mask.getLsbD n = true ∧ s.alertByte.getLsbD n = true := by
    constructor
    · intro hne
      by_contra hall
      refine hne (BitVec.eq_of_getLsbD_eq fun i hi => ?_)
      simp only [BitVec.getLsbD_and, BitVec.ofNat_eq_ofNat, BitVec.getLsbD_zero, Bool.and_eq_false_iff]
      by_contra hboth
      simp only [not_or, Bool.not_eq_false] at hboth
      exact hall ⟨i, hi, hboth.2, hboth.1⟩
    · rintro ⟨n, -, hm, ha⟩ hzero
      have hbit := congrArg (BitVec.getLsbD · n) hzero
      simp [hm, ha] at hbit
  simp only [State.alertOut, Bool.and_eq_true, Bool.not_eq_true', decide_eq_true_eq, hand]

end Alert

/-- Settles O16: the conditions are the bits of the alert byte, in the order of R167. -/
theorem alertFollowsItsConditions : Obligations.AlertFollowsItsConditions := by
  refine ⟨⟨rfl, ?_⟩, fun w s f rest more h => h.next rfl⟩
  intro s c
  have bit {n : Nat} (hn : n < 8) : c n = s.alertConditions.getD n false := s.alertBit hn
  refine ⟨?causes, ?vacuum, ?wear, ?held, ?full, ?ports, by rw [bit (by decide)]; rfl, by rw [bit (by decide)]; rfl,
    State.alertOut_iff⟩
  case causes =>
    rw [bit (by decide)]
    exact any_lanes_iff.trans (exists_congr fun i => Causes.isEmpty_eq_false_iff _)
  case vacuum =>
    rw [bit (by decide)]
    refine (Bool.or_eq_true _ _).to_iff.trans ⟨fun h => h.elim (⟨.a, ·⟩) (⟨.b, ·⟩), ?_⟩
    rintro ⟨n, h⟩
    cases n
    · exact .inl h
    · exact .inr h
  case wear =>
    rw [bit (by decide)]
    refine any_lanes_iff.trans (exists_congr fun i => ?_)
    simp only [Life.alerts, Bool.and_eq_true, Bool.or_eq_true, decide_eq_true_eq]
  case held =>
    rw [bit (by decide)]
    exact decide_eq_true_iff
  case full =>
    rw [bit (by decide)]
    exact any_bays_iff.trans (exists_congr fun i => decide_eq_true_iff)
  case ports =>
    rw [bit (by decide)]
    exact (Bool.or_eq_true _ _).to_iff

/-! ### STATUS-READ (R160) -/

section Status
variable {s : State} {p : Payload}

theorem requestStatusRead_shows {fs : List Byte} (h : statusFields s (payloadByte p 4) = some fs) :
    requestStatusRead p s = ({ s with ret := { s.ret with answerLost := false } }, .done, fs ++ [boolByte s.ret.answerLost]) := by
  simp only [requestStatusRead, Operand.statusPart, h]

theorem statusFields_none {part : Byte} (h : 2 < part.toNat) : statusFields s part = none := by
  unfold statusFields
  split
  next h' => omega
  next h' => omega
  next h' => omega
  next => rfl

theorem requestStatusRead_refused (h : 2 < (payloadByte p 4).toNat) : requestStatusRead p s = refuse .badArgument s := by
  simp only [requestStatusRead, Operand.statusPart, statusFields_none h]

end Status

/-- Settles O18: each part's fields as `statusFields` gives them. -/
theorem statusReadShowsTheLine : Obligations.StatusReadShowsTheLine := by
  intro w s f rest more h bit port part s' done
  refine ⟨fun hp => h.next (requestStatusRead_shows ?_), fun hp => h.next (requestStatusRead_shows ?_),
    fun hp => h.next (requestStatusRead_shows ?_), fun hp => h.next (requestStatusRead_refused hp)⟩
  all_goals
    unfold statusFields
    rw [show (payloadByte w.payload 4).toNat = _ from hp]
    rfl

/-! ### ROLE-SET (R161) -/

section Roles
variable {s : State} {p : Payload}

/-- R161: a byte below 8 names the role of that entry. -/
theorem roleOfByte_of_lt {b : Byte} (h : b.toNat < 8) : ∃ r, roleOfByte b = some r ∧ r.index.val = b.toNat := by
  have hb : b.toNat = 0 ∨ b.toNat = 1 ∨ b.toNat = 2 ∨ b.toNat = 3 ∨ b.toNat = 4 ∨ b.toNat = 5 ∨ b.toNat = 6 ∨ b.toNat = 7 := by omega
  unfold roleOfByte
  rcases hb with hb | hb | hb | hb | hb | hb | hb | hb
  all_goals
    rw [hb]
    exact ⟨_, rfl, rfl⟩

theorem roleOfByte_of_le {b : Byte} (h : 8 ≤ b.toNat) : roleOfByte b = none := by
  unfold roleOfByte
  split
  case h_9 => rfl
  all_goals omega

/-- R161: the address of a ROLE-SET is FFh, or one of 1 to 62 other than the own address. -/
theorem roleSetAddress_named {b : Byte} (h : b = 0xFF ∨ 1 ≤ b.toNat ∧ b.toNat ≤ 62 ∧ b ≠ s.line.ownAddr.setWidth 8) :
    roleSetAddress s b = some (if b = 0xFF then none else some (b.setWidth 6)) := by
  unfold roleSetAddress
  by_cases hff : b = 0xFF
  · rw [if_pos hff, if_pos hff]
  · obtain ⟨h1, h2, h3⟩ := h.resolve_left hff
    have hzero : b ≠ 0 := by
      rintro rfl
      simp at h1
    have hout : ¬(b = 0 ∨ 63 ≤ b.toNat ∨ b = addrByte s.line.ownAddr) := by
      rintro (h | h | h)
      exacts [hzero h, by omega, h3 h]
    rw [if_neg hff, if_neg hff, if_neg hout]
    rfl

theorem roleSetAddress_unnamed {b : Byte} (h : ¬(b = 0xFF ∨ 1 ≤ b.toNat ∧ b.toNat ≤ 62 ∧ b ≠ s.line.ownAddr.setWidth 8)) :
    roleSetAddress s b = none := by
  obtain ⟨hff, hrest⟩ := not_or.mp h
  unfold roleSetAddress
  rw [if_neg hff, if_pos]
  by_contra hbad
  simp only [not_or, not_le] at hbad
  obtain ⟨h0, h63, hown⟩ := hbad
  have hpos : b.toNat ≠ 0 := fun hz => h0 (BitVec.eq_of_toNat_eq hz)
  exact hrest ⟨by omega, by omega, hown⟩

theorem heldByOther_iff {r : Role} {a : Option Station} :
    s.heldByOther r a = true ↔ ∃ j : Fin 8, j ≠ r.index ∧ a ≠ none ∧ s.roles[j] = a := by
  have hrole (j : Fin 8) : ∃ q : Role, q.index = j := by
    fin_cases j
    exacts [⟨.lane 0, rfl⟩, ⟨.lane 1, rfl⟩, ⟨.lane 2, rfl⟩, ⟨.lane 3, rfl⟩, ⟨.picker 0, rfl⟩, ⟨.picker 1, rfl⟩, ⟨.elevator, rfl⟩, ⟨.table, rfl⟩]
  simp only [State.heldByOther, Bool.and_eq_true, List.any_eq_true, decide_eq_true_eq, Option.isSome_iff_ne_none]
  constructor
  · rintro ⟨ha, q, -, hq, hheld⟩
    exact ⟨q.index, fun he => hq (Role.index_injective he), ha, hheld⟩
  · rintro ⟨j, hj, ha, hheld⟩
    obtain ⟨q, rfl⟩ := hrole j
    exact ⟨ha, q, mem_allRoles q, fun he => hj (congrArg Role.index he), hheld⟩

/-- R161: the roles and the addresses of a ROLE-SET that names an entry. -/
theorem requestRoleSet_named {r : Role} {a : Option Station} (hlock : s.line.recipeLock = false) (hr : roleOfByte (payloadByte p 4) = some r)
    (ha : roleSetAddress s (payloadByte p 5) = some a) : requestRoleSet p s =
      if s.heldByOther r a then refuse .inUse s
      else ({ s with roles := s.roles.set r.index.val a r.index.isLt }, .done,
        roleFields { s with roles := s.roles.set r.index.val a r.index.isLt }) := by
  simp only [requestRoleSet, hlock, Bool.false_eq_true, if_false, Operand.role, Operand.roleAddress, hr, ha]

theorem requestRoleSet_unnamed (hlock : s.line.recipeLock = false)
    (h : roleOfByte (payloadByte p 4) = none ∨ roleSetAddress s (payloadByte p 5) = none) :
    requestRoleSet p s = refuse .badArgument s := by
  simp only [requestRoleSet, hlock, Bool.false_eq_true, if_false, Operand.role, Operand.roleAddress]
  split
  next h1 h2 => rcases h with h | h <;> simp_all
  next => rfl

end Roles

/-- Settles O19: the checks of `requestRoleSet` in their order, with the entry its byte names. -/
theorem roleSetWritesOneEntry : Obligations.RoleSetWritesOneEntry := by
  intro w s f rest more h k b entry named taken
  have hnamed (hn : named) : ∃ r, roleOfByte (payloadByte w.payload 4) = some r ∧ r.index.val = k ∧
      roleSetAddress s (payloadByte w.payload 5) = some entry := by
    obtain ⟨r, hr, hk⟩ := roleOfByte_of_lt hn.1
    exact ⟨r, hr, hk, roleSetAddress_named hn.2⟩
  have htaken {r : Role} (hk : r.index.val = k) : s.heldByOther r entry = true ↔ taken := by
    rw [heldByOther_iff]
    simp only [ne_eq, Fin.ext_iff, hk]
    rfl
  refine ⟨fun hlock => ?locked, fun hlock hn => ?bad, fun hlock hn ht => ?inUse, fun hlock hn ht hlt => ?set⟩
  case locked => exact h.next (by rw [requestRoleSet, if_pos hlock]; rfl)
  case bad =>
    refine h.next (requestRoleSet_unnamed hlock ?_)
    by_cases hk : k < 8
    · exact .inr (roleSetAddress_unnamed fun hb => hn ⟨hk, hb⟩)
    · exact .inl (roleOfByte_of_le (Nat.not_lt.mp hk))
  case inUse =>
    obtain ⟨r, hr, hk, ha⟩ := hnamed hn
    exact h.next (by rw [requestRoleSet_named hlock hr ha, if_pos ((htaken hk).mpr ht)]; rfl)
  case set =>
    obtain ⟨r, hr, hk, ha⟩ := hnamed hn
    have hset : s.roles.set r.index.val entry r.index.isLt = s.roles.set k entry hlt := by congr
    refine h.next (?_ : requestRoleSet w.payload s = _)
    rw [requestRoleSet_named hlock hr ha, if_neg (mt (htaken hk).mp ht), hset]
    rfl

/-! ### TIMING-SET (R162) -/

section Settings
variable {s : State} {p : Payload}

/-- R162: the setting of a byte, its range, and the table it is written to. -/
theorem settingOfByte_of_lt {b : Byte} (h : b.toNat < 8) : ∃ k, settingOfByte b = some k ∧
    k.range = ((timingTable b.toNat).1, (timingTable b.toNat).2.1) ∧
    ∀ (t : Timing) (v m : Nat), m < 8 → (t.put v k).nth m = if m = b.toNat then v else t.nth m := by
  have hb : b.toNat = 0 ∨ b.toNat = 1 ∨ b.toNat = 2 ∨ b.toNat = 3 ∨ b.toNat = 4 ∨ b.toNat = 5 ∨ b.toNat = 6 ∨ b.toNat = 7 := by omega
  unfold settingOfByte
  rcases hb with hb | hb | hb | hb | hb | hb | hb | hb
  all_goals
    rw [hb]
    refine ⟨_, rfl, rfl, fun t v m hm => ?_⟩
    have hm' : m = 0 ∨ m = 1 ∨ m = 2 ∨ m = 3 ∨ m = 4 ∨ m = 5 ∨ m = 6 ∨ m = 7 := by omega
    rcases hm' with rfl | rfl | rfl | rfl | rfl | rfl | rfl | rfl <;> rfl

theorem settingOfByte_of_le {b : Byte} (h : 8 ≤ b.toNat) : settingOfByte b = none := by
  unfold settingOfByte
  split
  case h_9 => rfl
  all_goals omega

end Settings

/-- Settles O20: the setting its byte names is written clamped, and no other. -/
theorem timingSetWritesOneSetting : Obligations.TimingSetWritesOneSetting := by
  refine ⟨fun n hn => ?default, ?_⟩
  case default =>
    have hn' : n = 0 ∨ n = 1 ∨ n = 2 ∨ n = 3 ∨ n = 4 ∨ n = 5 ∨ n = 6 ∨ n = 7 := by omega
    rcases hn' with rfl | rfl | rfl | rfl | rfl | rfl | rfl | rfl <;> rfl
  intro w s f rest more h n v v'
  refine ⟨fun hn => ?bad, fun hn => ?set⟩
  case bad => exact h.next (by rw [requestTimingSet, Operand.settingName, settingOfByte_of_le hn]; rfl)
  case set =>
    obtain ⟨k, hk, hrange, hput⟩ := settingOfByte_of_lt hn
    have hv : clampTo k.range.1 k.range.2 (Operand.settingValue w.payload) = v' := by
      rw [hrange]
      rfl
    refine ⟨s.timing.put v' k, fun m hm => hput s.timing v' m hm, h.next (?_ : requestTimingSet w.payload s = _)⟩
    rw [requestTimingSet, Operand.settingName, hk]
    dsimp only
    rw [hv, doneOr_bne]
    rfl

/-! ### Resets (R163 to R165) -/

/-- Settles O21: the commands of the resets, and what a part in reset does with frames and timers. -/
theorem resetsStopAndEndInTheirTables : Obligations.ResetsStopAndEndInTheirTables := by
  refine ⟨⟨fun s => ⟨rfl, rfl⟩, fun s hpins => ?inReset⟩, fun s straps => ⟨rfl, rfl⟩⟩
  case inReset =>
    have hr : s.inReset = true := by
      rcases hpins with h | h <;> simp [State.inReset, h]
    refine ⟨by simp [State.alertOut, hr], fun p bytes => ?_, ?_, exec_filterTimerExpiry_rests (.inr hr), fun high => ?_⟩
    · exact congrArg Host.Outcome.next (if_pos hr)
    · exact congrArg Host.Outcome.next (expire_rests (.inr hr) _)
    · exact congrArg Host.Outcome.next (senseChange_inReset hr)

/-- Settles O22: `linkReset` written out. -/
theorem linkResetKeepsTheConfiguration : Obligations.LinkResetKeepsTheConfiguration := by
  intro w s f rest more h keep life bay
  exact h.next rfl

end Sys2Proof.Machine

/-! The operands requests carry (R168), read back from the codes and the numbers the statements name; the requests on bit life (chapter 6). -/

namespace Sys2Proof.Machine

/-! ### Operands -/

section Operands
variable {b : Byte}

theorem laneOfByte_of_le (h : 4 ≤ b.toNat) : laneOfByte b = none := dif_neg (Nat.not_lt.mpr h)

theorem laneOfByte_eq {i : LaneId} (h : b.toNat = i.val) : laneOfByte b = some i := by
  unfold laneOfByte
  rw [dif_pos (h ▸ i.isLt)]
  exact congrArg some (Fin.ext h)

theorem pickerOfByte_of_le (h : 2 ≤ b.toNat) : pickerOfByte b = none := dif_neg (Nat.not_lt.mpr h)

theorem pickerOfByte_eq {q : PickerId} (h : b.toNat = q.val) : pickerOfByte b = some q := by
  unfold pickerOfByte
  rw [dif_pos (h ▸ q.isLt)]
  exact congrArg some (Fin.ext h)

theorem bayOfByte_of_le (h : 8 ≤ b.toNat) : bayOfByte b = none := dif_neg (Nat.not_lt.mpr h)

theorem bayOfByte_eq {i : BayId} (h : b.toNat = i.val) : bayOfByte b = some i := by
  unfold bayOfByte
  rw [dif_pos (h ▸ i.isLt)]
  exact congrArg some (Fin.ext h)

theorem slotOfNat_of_le {n : Nat} (h : 8 ≤ n) : slotOfNat n = none := dif_neg (Nat.not_lt.mpr h)

theorem slotOfNat_eq {n : Nat} {i : SlotId} (h : n = i.val) : slotOfNat n = some i := by
  unfold slotOfNat
  rw [dif_pos (h ▸ i.isLt)]
  exact congrArg some (Fin.ext h)

theorem nestOfByte_code (n : Nest) : nestOfByte (nestCode n) = some n := by cases n <;> rfl

theorem recoveryOfByte_code (m : RecoveryMode) : recoveryOfByte m.code = some m := by cases m <;> rfl

theorem govModeOfByte_code (m : GovMode) : govModeOfByte m.code = some m := by cases m <;> rfl

theorem behaviourOfByte_code (x : Behaviour) : behaviourOfByte x.code = some x := by cases x <;> rfl

theorem boolOfByte_code (x : Bool) : boolOfByte (if x then 1 else 0) = some x := by cases x <;> rfl

/-- A byte that is no smaller than a number is none of the smaller bytes. -/
theorem ne_of_le_toNat {c : Byte} {n : Nat} (h : n ≤ b.toNat) (hc : c.toNat < n) : b ≠ c := by
  rintro rfl
  omega

theorem nestOfByte_of_le (h : 2 ≤ b.toNat) : nestOfByte b = none := by
  rw [nestOfByte, if_neg (ne_of_le_toNat h (by decide)), if_neg (ne_of_le_toNat h (by decide))]

theorem recoveryOfByte_of_le (h : 2 ≤ b.toNat) : recoveryOfByte b = none := by
  rw [recoveryOfByte, if_neg (ne_of_le_toNat h (by decide)), if_neg (ne_of_le_toNat h (by decide))]

theorem govModeOfByte_of_le (h : 2 ≤ b.toNat) : govModeOfByte b = none := by
  rw [govModeOfByte, if_neg (ne_of_le_toNat h (by decide)), if_neg (ne_of_le_toNat h (by decide))]

theorem behaviourOfByte_of_le (h : 4 ≤ b.toNat) : behaviourOfByte b = none := by
  rw [behaviourOfByte, if_neg (ne_of_le_toNat h (by decide)), if_neg (ne_of_le_toNat h (by decide)),
    if_neg (ne_of_le_toNat h (by decide)), if_neg (ne_of_le_toNat h (by decide))]

end Operands

/-! ### Numbers and optional fields -/

theorem clampTo_eq_within {lo hi : Nat} (h : lo ≤ hi) (n : Nat) : clampTo lo hi n = within lo hi n := by
  unfold clampTo within
  split
  · omega
  · split <;> omega

theorem wearNat_le (p : Payload) (n : Nat) : wearNat p n ≤ 16777215 := by
  have : wearNat p n < 2 ^ 24 := BitVec.isLt _
  omega

/-- R108: a level of 0 is brought up to 1, and no level is above the greatest. -/
theorem clampTo_wearNat (p : Payload) (n : Nat) : clampTo 1 Config.wearMax (wearNat p n) = if wearNat p n = 0 then 1 else wearNat p n := by
  have := wearNat_le p n
  unfold clampTo Config.wearMax
  split <;> omega

theorem doneOr_bne_or (a b c d : Nat) : doneOr (a != b || c != d) = if a = b ∧ c = d then .done else .clamped := by
  by_cases h1 : a = b <;> by_cases h2 : c = d <;> simp [doneOr, h1, h2]

theorem doneOr_bne_or_or (a b c d e f : Nat) :
    doneOr (a != b || c != d || e != f) = if a = b ∧ c = d ∧ e = f then .done else .clamped := by
  by_cases h1 : a = b <;> by_cases h2 : c = d <;> by_cases h3 : e = f <;> simp [doneOr, h1, h2, h3]

/-- R167: a field that may be absent, written with its presence. -/
theorem optBytes_eq (k : Nat) (v : Option Nat) : optBytes k v = (if v.isSome then 1 else 0) :: leBytes k (v.getD 0) := by
  cases v <;> rfl

/-- R111: the four bytes of a WEAR-PRESET value, least significant first. -/
theorem presetValue_eq (p : Payload) :
    Operand.presetValue p = byteNat p 5 + 256 * byteNat p 6 + 65536 * byteNat p 7 + 16777216 * byteNat p 8 := by
  simp only [Operand.presetValue, byteNat, payloadByte, BitVec.extractLsb'_toNat, Nat.shiftRight_eq_div_pow]
  omega

/-! ### LIFE-SET, WEAR-PRESET and BIT-CHANGE (R108 to R111) -/

section Life
variable {s : State} {p : Payload} {tag : Half} {i : LaneId}

/-- R102, R103: the life record of a lane after a change, with both flags judged. -/
theorem life_rewear (cause : LimitCause) (f : Life → Life) :
    ((rewear tag cause i f s).lane i).life = { f (s.lane i).life with
      warned := decide ((f (s.lane i).life).warn ≤ (f (s.lane i).life).wear),
      reached := decide ((f (s.lane i).life).limit ≤ (f (s.lane i).life).wear) } := by
  obtain ⟨r, h⟩ := rewear_frame s tag cause i f
  rw [h]
  exact (congrArg Lane.life (lane_setLane_same s i _)).trans (Lane.withLife_life _ _)

theorem requestLifeSet_unnamed (h : 4 ≤ byteNat p 4 ∨ 4 ≤ byteNat p 5) : requestLifeSet tag p s = refuse .badArgument s := by
  unfold requestLifeSet Operand.lane Operand.behaviour
  rcases h with h | h
  · rw [laneOfByte_of_le h]
  · rw [behaviourOfByte_of_le h]
    split
    · contradiction
    · rfl

theorem Life.lockForbids_iff (l : Life) (warn limit : Nat) (b : Behaviour) :
    l.lockForbids warn limit b = true ↔ b ≠ l.behaviour ∨ l.limit < limit ∨ l.warn < warn := by
  simp [Life.lockForbids, or_assoc]

/-- R108: LIFE-SET on a lane and a behaviour it names. -/
theorem requestLifeSet_named {b : Behaviour} (hi : byteNat p 4 = i.val) (hb : payloadByte p 5 = b.code) {limit warn : Nat}
    (hlimit : clampTo 1 Config.wearMax (wearNat p 9) = limit) (hwarn : min (clampTo 1 Config.wearMax (wearNat p 6)) limit = warn) :
    requestLifeSet tag p s = if s.line.limitLock = true ∧ (s.lane i).life.lockForbids warn limit b = true then refuse .locked s
      else (rewear tag .limitWrite i (fun l => { l with warn := warn, limit := limit, behaviour := b }) s,
        doneOr (limit != wearNat p 9 || warn != wearNat p 6),
        lifeSetFields i ((rewear tag .limitWrite i (fun l => { l with warn := warn, limit := limit, behaviour := b }) s).lane i).life) := by
  subst hlimit hwarn
  simp only [requestLifeSet, Operand.lane, Operand.behaviour, laneOfByte_eq hi, hb, behaviourOfByte_code]
  rfl

theorem requestWearPreset_named (hi : byteNat p 4 = i.val) {sent v : Nat} (hsent : Operand.presetValue p = sent)
    (hv : min sent Config.wearMax = v) : requestWearPreset tag p s =
      if v < (s.lane i).life.wear then refuse .state s
      else (rewear tag .preset i (fun l => { l with wear := v }) s, doneOr (v != sent),
        presetFields ((rewear tag .preset i (fun l => { l with wear := v }) s).lane i).life) := by
  subst hsent hv
  simp only [requestWearPreset, Operand.lane, laneOfByte_eq hi]

theorem requestBitChange_named (hi : byteNat p 4 = i.val) : requestBitChange p s =
    if (s.lane i).spindle ≠ .stopped ∨ (s.lane i).state = .cutting then refuse .state s
    else (setLane i ((s.lane i).freshBit (Operand.bitId p)) s,
      .done, halfBytes (s.lane i).life.bitId ++ leBytes 3 (s.lane i).life.wear ++ halfBytes (Operand.bitId p)) := by
  simp only [requestBitChange, Operand.lane, laneOfByte_eq hi]

/-- R110, R105: a fresh bit ends the park hold, and with it a stand in PARKED. -/
theorem Lane.freshBit_eq (l : Lane) (bit : Half) : l.freshBit bit = { l with
    bitChangeDue := false,
    state := if l.life.reached && decide (l.life.behaviour = .park) && decide (l.state = .parked) then .ready else l.state,
    life := { l.life with bitId := bit, wear := 0, warned := false, reached := false } } := by
  unfold Lane.freshBit Lane.withLife Life.parkHold
  simp only [Bool.false_and, Bool.and_false, Bool.not_false, Bool.and_true, Bool.false_eq_true, if_false]
  split <;> rfl

end Life

/-- Settles O31: the names, then the lock on the clamped levels, then the answer from the judged record. -/
theorem lifeSetStoresClampedLevels : Obligations.LifeSetStoresClampedLevels := by
  intro w s f rest more h p
  refine ⟨fun hbad => h.next (requestLifeSet_unnamed hbad), fun i b hi hb => ?_⟩
  intro limit warn l forbidden s' l' bit
  have hreq := requestLifeSet_named (s := s) (tag := w.tag) hi hb (limit := limit) (warn := warn) (clampTo_wearNat p 9)
    (by rw [clampTo_wearNat p 6])
  have hforbids : (s.line.limitLock = true ∧ (s.lane i).life.lockForbids warn limit b = true) ↔ forbidden := by
    rw [Life.lockForbids_iff]
  have hl' : l' = { l with
      warn := warn, limit := limit, behaviour := b, warned := decide (warn ≤ l.wear), reached := decide (limit ≤ l.wear) } :=
    life_rewear .limitWrite _
  refine ⟨fun hf => h.next (?_ : requestLifeSet w.tag p s = _), fun hf => h.next (?_ : requestLifeSet w.tag p s = _)⟩
  · rw [hreq, if_pos (hforbids.mpr hf)]
    rfl
  · rw [hreq, if_neg (mt hforbids.mp hf), doneOr_bne_or]
    change (s', _, lifeSetFields i l') = _
    rw [hl']
    rfl

/-- Settles O32: WEAR-PRESET by the value it carries, BIT-CHANGE by what a fresh bit makes of the lane. -/
theorem wearPresetAndBitChange : Obligations.WearPresetAndBitChange := by
  refine ⟨fun w s f rest more h => ⟨fun hbad => h.next ?noPreset, fun i hi => ?preset⟩,
    fun w s f rest more h => ⟨fun hbad => h.next ?noChange, fun i hi => ?change⟩⟩
  case noPreset =>
    rw [requestWearPreset, Operand.lane, laneOfByte_of_le hbad]
    rfl
  case noChange =>
    rw [requestBitChange, Operand.lane, laneOfByte_of_le hbad]
    rfl
  case preset =>
    intro sent v s' l'
    have hreq := requestWearPreset_named (s := s) (tag := w.tag) hi (sent := sent) (v := v) (presetValue_eq w.payload) rfl
    have hl' : l' = { (s.lane i).life with
        wear := v, warned := decide ((s.lane i).life.warn ≤ v), reached := decide ((s.lane i).life.limit ≤ v) } := life_rewear .preset _
    refine ⟨fun hlow => h.next (?_ : requestWearPreset w.tag w.payload s = _), fun hup => h.next (?_ : requestWearPreset w.tag w.payload s = _)⟩
    · rw [hreq, if_pos hlow]
      rfl
    · rw [hreq, if_neg (Nat.not_lt.mpr hup), doneOr_bne]
      change (s', _, presetFields l') = _
      rw [hl']
      rfl
  case change =>
    intro l freed l'
    refine ⟨fun hbusy => h.next (?_ : requestBitChange w.payload s = _), fun hstop hcut => h.next (?_ : requestBitChange w.payload s = _)⟩
    · rw [requestBitChange_named hi, if_pos hbusy]
      rfl
    · rw [requestBitChange_named hi, if_neg (not_or.mpr ⟨not_not.mpr hstop, hcut⟩), Lane.freshBit_eq]
      rfl

end Sys2Proof.Machine

/-! The requests on lanes (R127, R129 to R131): LANE-CONFIG, LANE-CLEAR, GOVERNOR-SET and LANE-READ. -/

namespace Sys2Proof.Machine

section Config
variable {s : State} {p : Payload} {i : LaneId}

/-! ### LANE-CONFIG (R129) -/

theorem requestLaneConfig_unnamed (h : 4 ≤ byteNat p 4 ∨ 2 ≤ byteNat p 5 ∨ 2 ≤ byteNat p 6) : requestLaneConfig p s = refuse .badArgument s := by
  unfold requestLaneConfig
  split
  next i active mode h1 h2 h3 =>
    rcases h with h | h | h
    · rw [Operand.lane, laneOfByte_of_le h] at h1
      cases h1
    · rw [Operand.activation, boolOfByte_of_one_lt h] at h2
      cases h2
    · rw [Operand.recoveryMode, recoveryOfByte_of_le h] at h3
      cases h3
  next => rfl

theorem Lane.keepsActive_iff (l : Lane) :
    l.keepsActive = true ↔ ¬(l.state = .inactive ∨ ((l.state = .ready ∨ l.state = .parked) ∧ l.spindle = .stopped)) := by
  rw [Lane.keepsActive, Bool.not_eq_true', Bool.eq_false_iff, ne_eq, Bool.or_eq_true, Bool.and_eq_true, Bool.or_eq_true,
    decide_eq_true_eq, decide_eq_true_eq, decide_eq_true_eq, decide_eq_true_eq]

theorem requestLaneConfig_named {active : Bool} {mode : RecoveryMode} (hi : byteNat p 4 = i.val)
    (ha : payloadByte p 5 = if active then 1 else 0) (hm : payloadByte p 6 = mode.code) {cut spin wait : Nat}
    (hcut : within 100 60000 (halfNat p 7) = cut) (hspin : within 500 20000 (halfNat p 9) = spin)
    (hwait : within 100 60000 (halfNat p 11) = wait) :
    requestLaneConfig p s =
      if s.line.limitLock = true ∧ mode ≠ (s.lane i).recoveryMode then refuse .locked s
      else if active = false ∧ (s.lane i).keepsActive = true then refuse .state s
      else (setLane i ((s.lane i).configured s.now active cut spin wait mode) s,
        doneOr (cut != halfNat p 7 || spin != halfNat p 9 || wait != halfNat p 11),
        ((s.lane i).configured s.now active cut spin wait mode).configFields) := by
  subst hcut hspin hwait
  simp only [requestLaneConfig, Operand.lane, laneOfByte_eq hi, Operand.activation, ha, boolOfByte_code, Operand.recoveryMode, hm,
    recoveryOfByte_code, Operand.cutTimeout, Operand.spinDownTimeout, Operand.autoWait,
    clampTo_eq_within (show 100 ≤ 60000 by omega), clampTo_eq_within (show 500 ≤ 20000 by omega)]

/-- R129, steps 1 to 3: what LANE-CONFIG makes of a lane that may take its activation. -/
def Lane.settled (l : Lane) (now : Nat) (active : Bool) (cut spin wait : Nat) (mode : RecoveryMode) : Lane :=
  let l1 : Lane := { l with cutTimeout := cut, spinDownTimeout := spin, autoWait := wait, recoveryMode := mode }
  if active = false then { l1 with state := .inactive }
  else if l.state = .inactive ∧ l.life.parkHold = true then
    { l1 with state := .parked, pend := { l.pend with stop := l.pend.stop || decide (l.spindle = .runningUp ∨ l.spindle = .atSpeed) } }
  else if l.state = .inactive then { l1 with state := .ready }
  else if l.state = .error ∧ mode = .auto ∧ l.causes.latching = false then
    { l1 with state := .recovering, recoveryTimer := some (now + wait) }
  else if l.state = .recovering ∧ mode = .latch then { l1 with state := .error, recoveryTimer := none }
  else l1

theorem Lane.configured_eq_settled (l : Lane) (now : Nat) {active : Bool} (cut spin wait : Nat) (mode : RecoveryMode)
    (h : active = true ∨ l.state = .inactive ∨ ((l.state = .ready ∨ l.state = .parked) ∧ l.spindle = .stopped)) :
    l.configured now active cut spin wait mode = l.settled now active cut spin wait mode := by
  cases hst : l.state with
  | inactive =>
    cases active with
    | false => simp [Lane.configured, Lane.settled, hst]
    | true =>
      cases hpark : l.life.parkHold with
      | false => simp [Lane.configured, Lane.settled, hst, Lane.toReady, hpark]
      | true => simp [Lane.configured, Lane.settled, hst, Lane.toReady, hpark, Lane.park_eq]
  | ready | parked => cases active <;> simp [Lane.configured, Lane.settled, hst]
  | cutting =>
    obtain rfl : active = true := by simpa [hst] using h
    simp [Lane.configured, Lane.settled, hst]
  | error | recovering =>
    obtain rfl : active = true := by simpa [hst] using h
    unfold Lane.configured Lane.settled
    simp only [hst, reduceCtorEq, false_and, true_and, if_false, if_true, Bool.true_eq_false]
    split <;> rfl

/-- R129: the answer shows the lane as it stands. -/
theorem Lane.settled_fields (l : Lane) (now : Nat) (active : Bool) (cut spin wait : Nat) (mode : RecoveryMode) :
    (l.settled now active cut spin wait mode).configFields =
      [if (l.settled now active cut spin wait mode).state = .inactive then 0 else 1] ++ leBytes 2 cut ++ leBytes 2 spin ++ [mode.code] ++
        leBytes 2 wait ++ [(l.settled now active cut spin wait mode).state.code] := by
  have hkept : (l.settled now active cut spin wait mode).cutTimeout = cut ∧ (l.settled now active cut spin wait mode).spinDownTimeout = spin ∧
      (l.settled now active cut spin wait mode).autoWait = wait ∧ (l.settled now active cut spin wait mode).recoveryMode = mode := by
    unfold Lane.settled
    dsimp only
    split_ifs <;> exact ⟨rfl, rfl, rfl, rfl⟩
  obtain ⟨h1, h2, h3, h4⟩ := hkept
  rw [Lane.configFields, h1, h2, h3, h4]
  by_cases hst : (l.settled now active cut spin wait mode).state = .inactive
  · simp [hst, boolByte]
  · simp [hst, boolByte]

/-! ### LANE-CLEAR (R127) -/

theorem requestLaneClear_named (hi : byteNat p 4 = i.val) : requestLaneClear p s =
    match (s.lane i).state with
    | .error | .recovering =>
      if (s.lane i).clearable then (setLane i (s.lane i).restored s, (.done, (s.lane i).restored.clearFields))
      else (s, (.stillFaulted, (s.lane i).clearFields))
    | .cutting => (s, (.state, (s.lane i).clearFields))
    | _ => (s, (.done, (s.lane i).clearFields)) := by
  simp only [requestLaneClear, Operand.lane, laneOfByte_eq hi] <;> rfl

theorem Lane.clearable_iff (l : Lane) : l.clearable = true ↔
    l.lastFault ≠ some true ∧ l.lastLoad.getD 0 ≤ l.gov.effectiveLimit - 10 ∧ l.spindle = .stopped := by
  rw [Lane.clearable, Bool.and_eq_true, Bool.and_eq_true, bne_iff_ne, Governor.backDown, decide_eq_true_eq, decide_eq_true_eq, and_assoc]

/-- R126, R105: a lane at rest is restored to READY, or to PARKED without a pending stop. -/
theorem Lane.restored_stopped {l : Lane} (h : l.spindle = .stopped) : l.restored =
    { l with causes := Causes.none, recoveryTimer := none, state := if l.life.parkHold then .parked else .ready } := by
  unfold Lane.restored Lane.toReady
  split
  next => simp [Lane.park_eq, h]
  next => rfl

theorem requestLaneClear_faulted (hi : byteNat p 4 = i.val) (hst : (s.lane i).state = .error ∨ (s.lane i).state = .recovering) :
    requestLaneClear p s = if (s.lane i).clearable then (setLane i (s.lane i).restored s, .done, (s.lane i).restored.clearFields)
      else (s, .stillFaulted, (s.lane i).clearFields) := by
  rw [requestLaneClear_named hi]
  rcases hst with hst | hst <;> rw [hst]

theorem requestLaneClear_unfaulted (hi : byteNat p 4 = i.val)
    (hst : (s.lane i).state = .ready ∨ (s.lane i).state = .parked ∨ (s.lane i).state = .inactive) :
    requestLaneClear p s = (s, .done, (s.lane i).clearFields) := by
  rw [requestLaneClear_named hi]
  rcases hst with hst | hst | hst <;> rw [hst]

/-! ### GOVERNOR-SET (R130) -/

theorem requestGovernorSet_unnamed (h : 4 ≤ byteNat p 4 ∨ 2 ≤ byteNat p 5 ∨ 7 < byteNat p 6) :
    requestGovernorSet p s = refuse .badArgument s := by
  unfold requestGovernorSet
  split
  next i mode h1 h2 =>
    rcases h with h | h | h
    · rw [Operand.lane, laneOfByte_of_le h] at h1
      cases h1
    · rw [Operand.govMode, govModeOfByte_of_le h] at h2
      cases h2
    · exact if_pos h
  next => rfl

theorem requestGovernorSet_named {mode : GovMode} (hi : byteNat p 4 = i.val) (hm : payloadByte p 5 = mode.code) (hl : byteNat p 6 ≤ 7)
    {mask cool restore : Nat} (hmask : within 5 500 (halfNat p 7) = mask) (hcool : within 100 10000 (halfNat p 9) = cool)
    (hrestore : within 500 60000 (halfNat p 11) = restore) :
    requestGovernorSet p s =
      if s.line.limitLock = true ∧ (mode ≠ (s.lane i).gov.mode ∨ (s.lane i).gov.level < byteNat p 6) then refuse .locked s
      else (setLane i ((s.lane i).withGov ((s.lane i).gov.configured mode (byteNat p 6) mask cool restore)) s,
        doneOr (mask != halfNat p 7 || cool != halfNat p 9 || restore != halfNat p 11),
        ((s.lane i).gov.configured mode (byteNat p 6) mask cool restore).configFields) := by
  subst hmask hcool hrestore
  simp only [requestGovernorSet, Operand.lane, laneOfByte_eq hi, Operand.govMode, hm, govModeOfByte_code, Operand.govLevel,
    if_neg (Nat.not_lt.mpr hl), Operand.loadMask, Operand.coolDown, Operand.restore,
    clampTo_eq_within (show 5 ≤ 500 by omega), clampTo_eq_within (show 100 ≤ 10000 by omega),
    clampTo_eq_within (show 500 ≤ 60000 by omega)]
  rfl

/-- R123: a governor whose override changes gives a lane that is CUTTING a pending FEED. -/
theorem Lane.withGov_eq (l : Lane) (g : Governor) : l.withGov g = { l with
    gov := g,
    pend := { l.pend with
      feed := if g.override ≠ l.gov.override ∧ l.state = .cutting then some g.override else l.pend.feed } } := by
  unfold Lane.withGov
  by_cases h : g.override ≠ l.gov.override ∧ l.state = .cutting
  · rw [if_pos h, if_pos h]
  · rw [if_neg h, if_neg h]

theorem Governor.configured_fields (g : Governor) (mode : GovMode) (level mask cool restore : Nat) :
    (g.configured mode level mask cool restore).configFields =
      [mode.code] ++ leBytes 1 level ++ leBytes 2 mask ++ leBytes 2 cool ++ leBytes 2 restore ++
        [(g.configured mode level mask cool restore).state.code] ++ leBytes 1 (g.configured mode level mask cool restore).override ++
        leBytes 1 (g.configured mode level mask cool restore).effectiveLimit := by
  unfold Governor.configFields Governor.configured
  dsimp only
  split <;> rfl

/-! ### LANE-READ (R131) -/

theorem requestLaneRead_unnamed (h : 4 ≤ byteNat p 4 ∨ 4 ≤ byteNat p 5) : requestLaneRead p s = refuse .badArgument s := by
  unfold requestLaneRead
  split
  next => rfl
  next i hlane =>
    have hpart : 4 ≤ (Operand.part p).toNat := h.resolve_left fun h4 => by
      rw [Operand.lane, laneOfByte_of_le h4] at hlane
      cases hlane
    dsimp only
    split
    case h_5 => rfl
    all_goals omega

theorem requestLaneRead_named (hi : byteNat p 4 = i.val) : requestLaneRead p s =
    match byteNat p 5 with
    | 0 => (s, (.done, runtimeFields s (s.lane i)))
    | 1 => (s, (.done, governorFields s (s.lane i).gov))
    | 2 => (s, (.done, cutFields s (s.lane i)))
    | 3 => (s, (.done, lifeFields (s.lane i).life))
    | _ => refuse .badArgument s := by
  simp only [requestLaneRead, Operand.lane, laneOfByte_eq hi] <;> rfl

theorem State.timeLeft_eq (timer : Option Nat) : s.timeLeft timer = timer.getD s.now - s.now := by
  cases timer with
  | none => simp [State.timeLeft]
  | some ends => rfl

end Config

/-- Settles O37: the checks of `requestLaneConfig` in their order, and LANE-CLEAR by the state of the lane. -/
theorem laneConfigAndLaneClear : Obligations.LaneConfigAndLaneClear := by
  refine ⟨?config, ?clear⟩
  case config =>
    intro w s f rest more h p answer
    refine ⟨fun hbad => h.next (requestLaneConfig_unnamed hbad), fun i active mode hi ha hm => ?_⟩
    intro l atRest cut spin wait l1 turns l2
    have hreq := requestLaneConfig_named (s := s) (p := p) hi ha hm (cut := cut) (spin := spin) (wait := wait) rfl rfl rfl
    have hl2 : l2 = l.settled s.now active cut spin wait mode := rfl
    have hlocked (hfree : s.line.limitLock = false ∨ mode = l.recoveryMode) : ¬(s.line.limitLock = true ∧ mode ≠ l.recoveryMode) := by
      rintro ⟨h1, h2⟩
      exact hfree.elim (fun h3 => by simp [h1] at h3) h2
    refine ⟨fun hlock hmode => h.next (?_ : requestLaneConfig p s = _),
      fun hfree hoff hrest => h.next (?_ : requestLaneConfig p s = _), fun hfree hon => h.next (?_ : requestLaneConfig p s = _)⟩
    · rw [hreq, if_pos ⟨hlock, hmode⟩]
      rfl
    · rw [hreq, if_neg (hlocked hfree), if_pos ⟨hoff, (Lane.keepsActive_iff l).mpr hrest⟩]
      rfl
    · have hmay : ¬(active = false ∧ l.keepsActive = true) := by
        rintro ⟨hoff, hkeep⟩
        exact hon.elim (fun h1 => by simp [hoff] at h1) ((Lane.keepsActive_iff l).mp hkeep)
      have hset : l.configured s.now active cut spin wait mode = l2 := hl2 ▸ l.configured_eq_settled s.now cut spin wait mode hon
      rw [hreq, if_neg (hlocked hfree), if_neg hmay, doneOr_bne_or_or, hset]
      exact congrArg (fun fs => (setLane i l2 s, _, fs)) (hl2 ▸ l.settled_fields s.now active cut spin wait mode)
  case clear =>
    intro w s f rest more h
    refine ⟨fun hbad => h.next ?unnamed, fun i hi => ?_⟩
    case unnamed =>
      rw [requestLaneClear, Operand.lane, laneOfByte_of_le hbad]
      rfl
    intro l clears state fields
    refine ⟨fun hst hc => h.next (?_ : requestLaneClear w.payload s = _), fun hst hc => h.next (?_ : requestLaneClear w.payload s = _),
      fun hst => h.next (?_ : requestLaneClear w.payload s = _), fun hst => h.next (requestLaneClear_unfaulted hi hst)⟩
    · have ⟨_, _, hstop⟩ := hc
      rw [requestLaneClear_faulted hi hst, if_pos (l.clearable_iff.mpr hc), Lane.restored_stopped hstop]
      rfl
    · rw [requestLaneClear_faulted hi hst, if_neg (mt l.clearable_iff.mp hc)]
      rfl
    · rw [requestLaneClear_named hi, hst]
      rfl

/-- Settles O38: GOVERNOR-SET by its checks in order, LANE-READ part by part. -/
theorem governorSetAndLaneRead : Obligations.GovernorSetAndLaneRead := by
  refine ⟨?set, ?read⟩
  case set =>
    intro w s f rest more h p answer
    refine ⟨fun hbad => h.next (requestGovernorSet_unnamed hbad), fun i mode hi hm hlevel => ?_⟩
    intro l g level forbidden mask cool restore g1 g' l'
    have hreq := requestGovernorSet_named (s := s) (p := p) hi hm hlevel (mask := mask) (cool := cool) (restore := restore) rfl rfl rfl
    have hg' : g.configured mode level mask cool restore = g' := rfl
    refine ⟨fun hf => h.next (?_ : requestGovernorSet p s = _), fun hf => h.next (?_ : requestGovernorSet p s = _)⟩
    · rw [hreq, if_pos hf]
      rfl
    · have hl' : l.withGov g' = l' := l.withGov_eq g'
      rw [hreq, if_neg hf, doneOr_bne_or_or, Governor.configured_fields]
      change (setLane i (l.withGov g') s, _) = _
      rw [hl']
      rfl
  case read =>
    intro w s f rest more h
    refine ⟨fun hbad => h.next (requestLaneRead_unnamed hbad), fun i hi => ?_⟩
    intro l g bit maybe left done
    have hmaybe (k : Nat) (v : Option Nat) : optBytes k v = maybe k v := optBytes_eq k v
    have hleft (timer : Option Nat) : s.timeLeft timer = left timer := State.timeLeft_eq timer
    refine ⟨fun hn => h.next (?_ : requestLaneRead w.payload s = _), fun hn => h.next (?_ : requestLaneRead w.payload s = _),
      fun hn => h.next (?_ : requestLaneRead w.payload s = _), fun hn => h.next (?_ : requestLaneRead w.payload s = _)⟩
    · rw [requestLaneRead_named hi, hn]
      simp only [runtimeFields, hmaybe, hleft]
      rfl
    · have hor : g.coolTimer.or g.restoreTimer = if g.coolTimer.isSome then g.coolTimer else g.restoreTimer := by
        cases g.coolTimer <;> rfl
      rw [requestLaneRead_named hi, hn]
      simp only [governorFields, hleft]
      rw [hor, apply_ite left]
      rfl
    · rw [requestLaneRead_named hi, hn]
      simp only [cutFields, hleft]
      cases hb : l.binding <;> rfl
    · rw [requestLaneRead_named hi, hn]
      rfl

end Sys2Proof.Machine

/-! The reads of the nest records (section 2.9), the jaw timer and PICKER-CLEAR (sections 4.8, 4.9), and the cut timer (section 3.6). -/

namespace Sys2Proof.Machine

/-! ### NEST-READ, BOARD-READ and TAB-READ (R33, R34) -/

section NestReads
variable {s : State} {p : Payload} {n : Nest}

theorem optHalfBytes_eq (v : Option Half) :
    optHalfBytes v = (if v.isSome then 1 else 0) :: leBytes 2 ((v.map BitVec.toNat).getD 0) := by cases v <;> rfl

/-- The entries of a list that satisfy a test, counted by their indexes. -/
theorem length_filter_range {α : Type} (l : List α) (P : Option α → Bool) :
    ((List.range l.length).filter fun k => P l[k]?).length = l.countP fun x => P (some x) := by
  have hmap : (List.range l.length).map (fun k => l[k]?) = l.map some := by
    refine List.ext_getElem (by simp) fun k h1 h2 => ?_
    simp_all
  calc ((List.range l.length).filter fun k => P l[k]?).length
      = ((List.range l.length).map fun k => l[k]?).countP P := by rw [List.countP_map, List.countP_eq_length_filter]; rfl
    _ = l.countP fun x => P (some x) := by rw [hmap, List.countP_map]; rfl

theorem NestRec.countP_tabs (r : NestRec) (st : TabState) :
    (r.tabs.countP fun t => decide (t.state = st)) =
      ((List.range r.tabs.length).filter fun t => decide ((r.tabs[t]?).map TabRec.state = some st)).length := by
  rw [length_filter_range r.tabs fun o => decide (o.map TabRec.state = some st)]
  simp

theorem BoardState.terminal_eq (b : BoardState) : b.terminal = decide (b = .stacked ∨ b = .rejected ∨ b = .lost) := by
  cases b <;> rfl

theorem requestNestRead_named (hn : payloadByte p 4 = nestCode n) : requestNestRead p s = (s, .done, nestFields s n) := by
  rw [requestNestRead, Operand.nestNamed, hn, nestOfByte_code]

theorem requestBoardRead_unnamed (h : 2 ≤ byteNat p 4 ∨ 2 ≤ byteNat p 6) : requestBoardRead p s = refuse .badArgument s := by
  unfold requestBoardRead Operand.nestNamed
  rcases h with h | h
  · rw [nestOfByte_of_le h]
  · split
    · rfl
    · exact if_pos h

theorem requestBoardRead_named (hn : payloadByte p 4 = nestCode n) (hp : byteNat p 6 < 2) : requestBoardRead p s =
    if (s.nest n).state = .empty then refuse .state s
    else match (s.nest n).boards[byteNat p 5]? with
      | none => refuse .badArgument s
      | some b => (s, .done, if payloadByte p 6 = 0 then boardStateFields b else boardHistoryFields (s.nest n) b) := by
  have hpart : ¬1 < (Operand.boardPart p).toNat := Nat.not_lt.mpr (Nat.le_of_lt_succ hp)
  simp only [requestBoardRead, Operand.nestNamed, hn, nestOfByte_code, if_neg hpart] <;> rfl

theorem requestTabRead_named (hn : payloadByte p 4 = nestCode n) : requestTabRead p s =
    if (s.nest n).state = .empty then refuse .state s
    else match (s.nest n).tabs[byteNat p 5]? with
      | none => refuse .badArgument s
      | some t => (s, .done, tabFields t) := by
  simp only [requestTabRead, Operand.nestNamed, hn, nestOfByte_code] <;> rfl

end NestReads

/-- Settles O44: each read by the nest it names, its state and the record its index names. -/
theorem nestReadsShowTheRecords : Obligations.NestReadsShowTheRecords := by
  intro w s f rest more p bit maybe tabsIn
  have hmaybe (k : Nat) (v : Option Nat) : optBytes k v = maybe k v := optBytes_eq k v
  have hhalf (v : Option Half) : optHalfBytes v = maybe 2 (v.map BitVec.toNat) := by
    rw [optHalfBytes_eq]
    cases v <;> rfl
  refine ⟨fun h => ⟨fun hbad => h.next ?noNest, fun n hn => h.next ?nest⟩,
    fun h => ⟨fun hbad => h.next (requestBoardRead_unnamed hbad), fun n hn hp => ⟨fun he => h.next ?noPanel, fun he hb => h.next ?noBoard,
      fun he b hb => ⟨fun h0 => h.next ?state, fun h1 => h.next ?history⟩⟩⟩,
    fun h => ⟨fun hbad => h.next ?noTabNest, fun n hn => ⟨fun he => h.next ?noTabPanel, fun he ht => h.next ?noTab, fun he t ht => h.next ?tab⟩⟩⟩
  case noNest =>
    rw [requestNestRead, Operand.nestNamed, nestOfByte_of_le hbad]
    rfl
  case nest =>
    rw [requestNestRead_named hn]
    simp only [nestFields, NestRec.countP_tabs, hmaybe]
    simp only [List.countP_eq_length_filter, BoardState.terminal_eq]
    rfl
  case noPanel =>
    rw [requestBoardRead_named hn hp, if_pos he]
    rfl
  case noBoard =>
    rw [requestBoardRead_named hn hp, if_neg he, hb]
    rfl
  case state =>
    have hpart : payloadByte p 6 = 0 := BitVec.eq_of_toNat_eq h0
    rw [requestBoardRead_named hn hp, if_neg he, hb]
    simp only [hpart, boardStateFields, hmaybe]
    rfl
  case history =>
    have hpart : payloadByte p 6 ≠ 0 := fun h0 => by simp [byteNat, h0] at h1
    rw [requestBoardRead_named hn hp, if_neg he, hb]
    simp only [if_neg hpart, boardHistoryFields, hhalf, List.countP_eq_length_filter]
    cases b.dest <;> rfl
  case noTabNest =>
    rw [requestTabRead, Operand.nestNamed, nestOfByte_of_le hbad]
    rfl
  case noTabPanel =>
    rw [requestTabRead_named hn, if_pos he]
    rfl
  case noTab =>
    rw [requestTabRead_named hn, if_neg he, ht]
    rfl
  case tab =>
    rw [requestTabRead_named hn, if_neg he, ht]
    simp only [tabFields, hmaybe, hhalf]

/-! ### The jaw timer and PICKER-CLEAR (R73, R74) -/

section Jaws
variable {s : State} {q : PickerId} {p : Payload}

theorem exec_jawTimerExpiry {ends : Nat} (ht : (s.picker q).jawTimer = some ends) (hr : s.inReset = false) :
    exec (.jawTimerExpiry q) s = .next (jawExpired q (s.runTo ends)) := by
  change Host.Outcome.next (expire (s.picker q).jawTimer (jawExpired q) s) = _
  rw [ht, expire_running hr]

/-- R64, R68: the picker's jaws and its board, given up. -/
theorem emptyPicker_unbind_bound {r : BoardRef} (hb : (s.picker q).board = some r) :
    emptyPicker q (unbind q s) = modBoard r (fun b => { b with picker := none })
      (setPicker q { s.picker q with state := .empty, board := none, sentFor := none, jawTimer := none } s) := by
  rw [unbind_bound hb, modBoard_setPicker, modBoard_setPicker, emptyPicker, modPicker_eq, picker_setPicker_same, setPicker_setPicker]
  rfl

theorem emptyPicker_unbind_unbound (hb : (s.picker q).board = none) :
    emptyPicker q (unbind q s) = setPicker q { s.picker q with state := .empty, board := none, sentFor := none, jawTimer := none } s := by
  rw [unbind_unbound hb, emptyPicker, modPicker_eq, picker_setPicker_same, setPicker_setPicker]
  rfl

theorem jawExpired_closing {r : BoardRef} (hk : (s.picker q).state = .closing) (hr : (s.picker q).sentFor = some r) :
    jawExpired q s = post 0 (.gripFailed q r .timeout none) (emptyPicker q (unbind q s)) := by
  simp only [jawExpired, hk, hr]

theorem jawExpired_opening (hk : (s.picker q).state = .opening) :
    jawExpired q s = post 0 (.pickerJammed q (s.picker q).lastJaws (s.picker q).lastSensed)
      (setPicker q { s.picker q with state := .jammed, sentFor := none, jawTimer := none } s) := by
  simp only [jawExpired, hk]
  rfl

theorem requestPickerClear_named (hq : byteNat p 4 = q.val) : requestPickerClear p s =
    match (s.picker q).state with
    | .jammed => if (s.picker q).lastJaws = some .opened ∧ (s.picker q).lastSensed = some false then
          (setPicker q ((s.picker q).enter .empty) s, .done, ((s.picker q).enter .empty).clearFields)
        else (s, .state, (s.picker q).clearFields)
    | .empty => (s, .done, (s.picker q).clearFields)
    | _ => (s, .state, (s.picker q).clearFields) := by
  simp only [requestPickerClear, Operand.picker, pickerOfByte_eq hq] <;> rfl

/-- R74: the fields of the answer, written out. -/
theorem Picker.clearFields_eq (k : Picker) : k.clearFields = [k.state.code] ++
    (match k.board with | some r => [1, nestCode r.nest] ++ leBytes 1 r.board | none => [0, 0, 0]) ++
    (match k.lastJaws with | some j => [1, BitVec.ofNat 8 j.num] | none => [0, 0]) ++
    (match k.lastSensed with | some x => [1, if x then 1 else 0] | none => [0, 0]) := by
  have hjaws : optBytes 1 (k.lastJaws.map Jaws.num) = match k.lastJaws with | some j => [1, BitVec.ofNat 8 j.num] | none => [0, 0] := by
    cases k.lastJaws <;> rfl
  have hsensed : optBytes 1 (k.lastSensed.map boolNat) = match k.lastSensed with | some x => [1, if x then 1 else 0] | none => [0, 0] := by
    rcases k.lastSensed with - | - | - <;> rfl
  rw [Picker.clearFields, hjaws, hsensed]
  cases k.board <;> rfl

end Jaws

/-- Settles O50: the expiry by what the picker awaits, PICKER-CLEAR by its state. -/
theorem jawTimerAndPickerClear : Obligations.JawTimerAndPickerClear := by
  refine ⟨?expiry, ?clear⟩
  case expiry =>
    intro s q ends ht hr k ended
    rw [exec_jawTimerExpiry ht hr]
    refine ⟨fun hk r hsent hb => ?bound, fun hk r hsent hb => ?unbound, fun hk => congrArg Host.Outcome.next (jawExpired_opening hk)⟩
    case bound => rw [jawExpired_closing (s := s.runTo ends) hk hsent, emptyPicker_unbind_bound (s := s.runTo ends) hb]; rfl
    case unbound => rw [jawExpired_closing (s := s.runTo ends) hk hsent, emptyPicker_unbind_unbound (s := s.runTo ends) hb]; rfl
  case clear =>
    intro w s f rest more h
    refine ⟨fun hbad => h.next (?_ : requestPickerClear w.payload s = _), fun q hq => ?_⟩
    · rw [requestPickerClear, Operand.picker, pickerOfByte_of_le hbad]
      rfl
    intro k fields k' clear
    have hfields (k : Picker) : k.clearFields = fields k := k.clearFields_eq
    have hreq := requestPickerClear_named (s := s) hq
    simp only [hfields] at hreq
    refine ⟨fun hk hc => h.next (hreq.trans ?cleared), fun hk => h.next (hreq.trans ?empty), fun hk => h.next (hreq.trans ?stays)⟩
    case cleared => rw [hk]; exact if_pos hc
    case empty => rw [hk]
    case stays =>
      rcases hk with ⟨hk, hc⟩ | hk | hk | hk
      · rw [hk]; exact if_neg hc
      all_goals rw [hk]

end Sys2Proof.Machine

/-! The end of a cut (sections 3.5 and 3.6): a matched report, and the cut timer. -/

namespace Sys2Proof.Machine

section CutEnds
variable {s : State} {n : Nest} {j : Nat} {t : TabRec} {r : BoardRef} {x : BoardRec} {i : LaneId} {b : Binding} {tag cycle : Half}

/-! ### The tab, its board and its lane -/

/-- A change of a tab is given by what it makes of the record that stands there. -/
theorem modTab_congr (ht : (s.nest n).tabs[j]? = some t) {f g : TabRec → TabRec} (h : f t = g t) : modTab n j f s = modTab n j g s := by
  have htabs : (s.nest n).tabs.modify j f = (s.nest n).tabs.modify j g := by
    refine List.ext_getElem? fun k => ?_
    rw [List.getElem?_modify, List.getElem?_modify]
    split
    next hk =>
      subst hk
      simp only [ht, Option.map_eq_map, Option.map_some, h]
    next => rfl
  rw [modTab_eq, modTab_eq, htabs]

/-- R51: what marking a board comes to, whether it is suspect or not. -/
theorem markSuspect_eq (r : BoardRef) (yes : Bool) (s : State) :
    markSuspect r yes s = modBoard r (fun y => { y with suspect := y.suspect || yes }) s := by
  cases yes with
  | true => simp [markSuspect]
  | false =>
    have hid : (fun y : BoardRec => { y with suspect := y.suspect || false }) = id := by
      funext y
      simp
    rw [hid, modBoard_id]
    rfl

/-- R49 to R51: the tab is FAULTED, and its board counts it again and bears the mark. -/
theorem markSuspect_faultTab (ht : (s.nest n).tabs[j]? = some t) (countIt yes : Bool) :
    markSuspect (s.boardOfTab n j) yes (faultTab n j countIt s) =
      modBoard ⟨n, t.board⟩ (fun y => { y with uncut := y.uncut + 1, suspect := y.suspect || yes })
        (modTab n j (fun u => { u with state := .faulted, lane := none, faults := if countIt then min 255 (t.faults + 1) else t.faults }) s) := by
  rw [markSuspect_eq, faultTab, State.boardOfTab_eq ht, modBoard_modBoard]
  exact congrArg (modBoard _ _) (modTab_congr ht rfl)

/-- R52: the clock a cut ends by. -/
theorem endCut_eq {now : Nat} (h : s.now = now) (matched : Bool) : endCut i matched s = modLane i (fun l => l.endCut now matched) s := by
  rw [endCut, h]

theorem setLane_setLane (i : LaneId) (l l' : Lane) (s : State) : setLane i l' (setLane i l s) = setLane i l' s := by
  simp only [setLane, Vector.set_set]

theorem raiseCause_now (tag : Half) (i : LaneId) (c : Cause) (s : State) : (raiseCause tag i c s).now = s.now :=
  (touches_raiseCause s tag i c).at .now rfl

/-! ### The cut timer (R54) -/

theorem cutTimedOut_bound (hb : (s.lane i).binding = some b) (ht : (s.nest b.nest).tabs[b.tab]? = some t) :
    cutTimedOut i s = modLane i (fun l => Lane.endCut s.now false { l with pend := { l.pend with abort := true } })
      (raiseCause 0 i .cutTimeout (modBoard ⟨b.nest, t.board⟩ (fun y => { y with uncut := y.uncut + 1, suspect := y.suspect || b.govAbort })
        (modTab b.nest b.tab (fun t => { t with state := .faulted, lane := none }) s))) := by
  have hmarked : markSuspect (s.boardOfTab b.nest b.tab) b.govAbort (faultTab b.nest b.tab false s) =
      modBoard ⟨b.nest, t.board⟩ (fun y => { y with uncut := y.uncut + 1, suspect := y.suspect || b.govAbort })
        (modTab b.nest b.tab (fun t => { t with state := .faulted, lane := none }) s) :=
    (markSuspect_faultTab ht false b.govAbort).trans (congrArg (modBoard _ _) (modTab_congr ht rfl))
  simp only [cutTimedOut, hb, hmarked]
  refine (endCut_eq (now := s.now) ?clock false).trans ?lane
  case clock => exact (raiseCause_now 0 i .cutTimeout _).trans rfl
  case lane => simp only [giveAbort, modLane_eq, lane_setLane_same, setLane_setLane]

/-! ### A matched report (R46 to R52) -/

/-- R46: the records the wear step leaves as they are. -/
theorem worn_keeps (s : State) (i : LaneId) (w : Wire) :
    (s.worn i w).now = s.now ∧ (s.worn i w).nests = s.nests ∧ (s.worn i w).pickers = s.pickers :=
  have h := touches_rewear s w.tag .report i (fun l => { l with
    wear := min 16777215 (l.wear + (halfNat w.payload 8 * (64 + min (byteNat w.payload 7) 200) + 64) / 128) })
  ⟨h.at .now rfl, h.at .nests rfl, h.at .pickers rfl⟩

/-- R46: a matched report is worn, and ends its cut by its outcome. -/
theorem takeCutDone_matched {w : Wire} {o : CutOutcome} (h : s.CutReported i w.payload b t x) (ho : outcomeOfByte (payloadByte w.payload 6) = some o)
    (cycle : Half) : takeCutDone w i cycle s =
      match o with
      | .complete => cutComplete w.tag cycle i b (s.worn i w)
      | .aborted => cutAborted i b (s.worn i w)
      | .bitBroken => cutBroke w.tag i b (s.worn i w) := by
  obtain ⟨hst, hb, hn, htab, -, -⟩ := h
  have hmatch : matchCut (s.lane i) w.payload = some (b, o) := matchCut_eq_some.mpr ⟨hst, hb, ho, hn, htab⟩
  simp only [takeCutDone, wearStep_eq_worn, matchCut_worn, hmatch]
  cases o <;> rfl

theorem cutAborted_eq {now : Nat} (hnow : s.now = now) (ht : (s.nest b.nest).tabs[b.tab]? = some t) : cutAborted i b s =
    modLane i (fun l => l.endCut now true)
      (modBoard ⟨b.nest, t.board⟩ (fun y => { y with uncut := y.uncut + 1, suspect := y.suspect || b.govAbort })
        (modTab b.nest b.tab (fun u => { u with state := .faulted, lane := none, faults := min 255 (t.faults + 1) }) s)) := by
  rw [cutAborted, markSuspect_faultTab ht]
  exact endCut_eq (by exact hnow) true

theorem cutBroke_eq {now : Nat} (hnow : s.now = now) (ht : (s.nest b.nest).tabs[b.tab]? = some t) : cutBroke tag i b s =
    modLane i (fun l => l.endCut now true) (raiseCause tag i .bitBroken
      (modBoard ⟨b.nest, t.board⟩ (fun y => { y with uncut := y.uncut + 1, suspect := y.suspect || true })
        (modTab b.nest b.tab (fun u => { u with state := .faulted, lane := none, faults := t.faults }) s))) := by
  rw [cutBroke, markSuspect_faultTab ht]
  exact endCut_eq (by exact (raiseCause_now tag i .bitBroken _).trans hnow) true

/-- R47: the tab becomes CUT, and its board bears the governor's mark. -/
def State.tabCut (s : State) (b : Binding) (t : TabRec) (cycle : Half) : State :=
  modBoard ⟨b.nest, t.board⟩ (fun y => { y with suspect := y.suspect || b.govAbort })
    (modTab b.nest b.tab (fun t => { t with state := .cut, lane := none, cutAt := some cycle }) s)

theorem State.boardAt_tabCut (hx : (s.nest b.nest).boards[t.board]? = some x) :
    (s.tabCut b t cycle).boardAt ⟨b.nest, t.board⟩ = some { x with suspect := x.suspect || b.govAbort } := by
  have hx' : s.boardAt ⟨b.nest, t.board⟩ = some x := hx
  rw [State.tabCut, State.boardAt_modBoard_same, State.boardAt_modTab, hx', Option.map_some]

/-- R47: the cut tab is the last of its board. -/
theorem State.allCut_tabCut_iff (ht : (s.nest b.nest).tabs[b.tab]? = some t) (y : BoardRec) :
    ((s.tabCut b t cycle).nest b.nest).allCut y = true ↔
      ∀ j ∈ y.tabs, j = b.tab ∨ ((s.nest b.nest).tabs[j]?).map TabRec.state = some .cut := by
  rw [NestRec.allCut, List.all_eq_true]
  refine forall₂_congr fun j _ => ?_
  rw [State.tabCut, State.tabs_modBoard, State.tabs_modTab, if_pos rfl, List.getElem?_modify, decide_eq_true_eq]
  by_cases hj : b.tab = j
  · subst hj
    simp [ht]
  · simp [hj, Ne.symm hj]

theorem cutComplete_eq {now : Nat} (hnow : s.now = now) (ht : (s.nest b.nest).tabs[b.tab]? = some t) (hx : (s.nest b.nest).boards[t.board]? = some x) :
    cutComplete tag cycle i b s = modLane i (fun l => l.endCut now true)
      (if ((s.tabCut b t cycle).nest b.nest).allCut { x with suspect := x.suspect || b.govAbort } then
        freeBoard tag ⟨b.nest, t.board⟩ b.tab i cycle { x with suspect := x.suspect || b.govAbort } (s.tabCut b t cycle)
      else s.tabCut b t cycle) := by
  have hcut : markSuspect ⟨b.nest, t.board⟩ b.govAbort
      (modTab b.nest b.tab (fun t => { t with state := .cut, lane := none, cutAt := some cycle }) s) = s.tabCut b t cycle :=
    markSuspect_eq ..
  simp only [cutComplete, State.boardOfTab_eq ht, hcut, State.boardAt_tabCut hx]
  refine endCut_eq ?_ true
  split
  · exact Eq.trans ((touches_freeBoard ..).at .now rfl) hnow
  · exact hnow

theorem freeBoard_held (h : x.state = .held) (tab : Nat) : freeBoard tag r tab i cycle x s =
    modBoard r (fun y => { y with state := .freed, freedAt := some cycle }) s := by
  simp only [freeBoard, h]

theorem freeBoard_attached (h : x.state = .attached) (tab : Nat) : freeBoard tag r tab i cycle x s =
    settleNest tag r.nest (post tag (.boardDropped r tab i cycle)
      (modBoard r (fun y => { y with state := .lost, freedAt := some cycle }) (dropClosing x s))) := by
  simp only [freeBoard, h]

theorem dropClosing_closing {q : PickerId} (hq : x.picker = some q) (hk : (s.picker q).state = .closing) : dropClosing x s = unbind q s := by
  simp only [dropClosing, hq, if_pos hk]

theorem dropClosing_none (h : ∀ q, x.picker = some q → (s.picker q).state ≠ .closing) : dropClosing x s = s := by
  unfold dropClosing
  split
  next q hq => exact if_neg (h q hq)
  next => rfl

end CutEnds

/-- Settles O28: the tab and its board, then the cause, then the lane with its pending ABORT. -/
theorem cutTimerEndsTheCut : Obligations.CutTimerEndsTheCut := by
  intro s i ends b t ht hr hb htab s1 s2 s3
  have hexec : exec (.cutTimerExpiry i) s = .next (cutTimedOut i (s.runTo ends)) := by
    change Host.Outcome.next (expire (s.lane i).cutTimer (cutTimedOut i) s) = _
    rw [ht, expire_running hr]
  rw [hexec, cutTimedOut_bound (s := s.runTo ends) hb htab]
  rfl

/-- Settles O27: a COMPLETE by what is left of its board's tabs and by where the board is, the others by `markSuspect_faultTab`. -/
theorem matchedReportEndsTheCut : Obligations.MatchedReportEndsTheCut := by
  refine ⟨?complete, ?faulted⟩
  case complete =>
    intro w s f rest more i b t x h hr hc ho r s1 s2 last ended dropped
    obtain ⟨hnow, hnests, hpickers⟩ := worn_keeps s i w
    have ⟨_, _, _, _, ht, hx⟩ := hc
    have hnest : (s.worn i w).nest b.nest = s.nest b.nest := congrArg (PerNest.get · b.nest) hnests
    have hpicker (q : PickerId) : s2.picker q = s.picker q := congrArg (·[q]) hpickers
    have hlast : (s2.nest b.nest).allCut { x with suspect := x.suspect || b.govAbort } = true ↔ last := by
      have := State.allCut_tabCut_iff (s := s.worn i w) (cycle := f.cycle) (hnest ▸ ht) { x with suspect := x.suspect || b.govAbort }
      rwa [hnest] at this
    have hexec : exec (.cutDone w) s = .next (ended (if (s2.nest b.nest).allCut { x with suspect := x.suspect || b.govAbort } then
        freeBoard w.tag r b.tab i f.cycle { x with suspect := x.suspect || b.govAbort } s2 else s2)) := by
      rw [exec_cutDone h hr, takeCutDone_matched (o := .complete) hc (by rw [show payloadByte w.payload 6 = 1 from ho]; rfl)]
      dsimp only
      rw [cutComplete_eq hnow (hnest ▸ ht) (hnest ▸ hx)]
      rfl
    rw [hexec]
    refine ⟨fun hl => ?more, fun hl hst => ?freed, fun hl hst hq => ?dropped, fun hl hst q hq hk => ?unbound⟩
    case more => rw [if_neg (mt hlast.mp hl)]
    case freed => rw [if_pos (hlast.mpr hl), freeBoard_held (by exact hst)]
    case dropped =>
      rw [if_pos (hlast.mpr hl), freeBoard_attached (by exact hst), dropClosing_none fun q hb => hpicker q ▸ hq q hb]
    case unbound =>
      rw [if_pos (hlast.mpr hl), freeBoard_attached (by exact hst), dropClosing_closing (q := q) (by exact hq) (by rw [hpicker]; exact hk)]
  case faulted =>
    intro w s f rest more i b t x h hr hc faulted ended
    obtain ⟨hnow, hnests, -⟩ := worn_keeps s i w
    have ⟨_, _, _, _, ht, _⟩ := hc
    have hnest : (s.worn i w).nest b.nest = s.nest b.nest := congrArg (PerNest.get · b.nest) hnests
    rw [exec_cutDone h hr]
    refine ⟨fun ho => ?aborted, fun ho => ?broke⟩
    case aborted =>
      rw [takeCutDone_matched (o := .aborted) hc (by rw [show payloadByte w.payload 6 = 2 from ho]; rfl)]
      dsimp only
      rw [cutAborted_eq hnow (hnest ▸ ht)]
    case broke =>
      rw [takeCutDone_matched (o := .bitBroken) hc (by rw [show payloadByte w.payload 6 = 3 from ho]; rfl)]
      dsimp only
      rw [cutBroke_eq hnow (hnest ▸ ht)]

end Sys2Proof.Machine

/-! The hold law (section 3.2): an admitted CUT leaves enough tabs on its board, or the board HELD. -/

namespace Sys2Proof.Machine

section HoldLaw
variable {s : State} {i : LaneId} {w : Wire} {t : CutTarget}

/-- R43: the tabs of the nest once the CUT is admitted. -/
theorem admitCut_tabs (tab feed : Nat) (path cycle : Half) :
    ((admitCut i t tab feed path cycle s).nest t.nest).tabs =
      (s.nest t.nest).tabs.modify tab fun r => { r with state := .cutting, lane := some i } := by
  change ((modBoard { nest := t.nest, board := t.tab.board } (fun b => { b with uncut := b.uncut - 1 })
    (modTab t.nest tab (fun r => { r with state := .cutting, lane := some i }) s)).nest t.nest).tabs = _
  rw [State.tabs_modBoard, State.tabs_modTab, if_pos rfl]

/-- R43: the board of the nest once the CUT is admitted. -/
theorem admitCut_board (hb : (s.nest t.nest).boards[t.tab.board]? = some t.board) (tab feed : Nat) (path cycle : Half) :
    ((admitCut i t tab feed path cycle s).nest t.nest).boards[t.tab.board]? = some { t.board with uncut := t.board.uncut - 1 } := by
  have hb' : s.boardAt ⟨t.nest, t.tab.board⟩ = some t.board := hb
  change (modBoard ⟨t.nest, t.tab.board⟩ (fun b => { b with uncut := b.uncut - 1 })
    (modTab t.nest tab (fun r => { r with state := .cutting, lane := some i }) s)).boardAt ⟨t.nest, t.tab.board⟩ = _
  rw [State.boardAt_modBoard_same, State.boardAt_modTab, hb', Option.map_some]

/-- R41, R43: with the uncut counts true, the board of an admitted CUT is held by as many tabs as it needs, or HELD. -/
theorem admitCut_holds (h : s.CutInv) (hc : checkCut s i w.payload = .ok t) (feed : Nat) (path cycle : Half) :
    let u := admitCut i t (byteNat w.payload 5) feed path cycle s
    ∃ x b, (u.nest t.nest).tabs[byteNat w.payload 5]? = some x ∧ x.state = .cutting ∧
      (u.nest t.nest).boards[x.board]? = some b ∧
      (b.hold ≤ b.tabs.countP (fun j => ((u.nest t.nest).tabs[j]?).any TabRec.holds) ∨ b.state = .held) := by
  intro u
  obtain ⟨-, -, hcheck⟩ := checkCut_admits hc
  obtain ⟨-, htab, hst, hb, hbst, hrule⟩ := checkTab_admits hcheck
  have htabs := admitCut_tabs (s := s) (i := i) (t := t) (byteNat w.payload 5) feed path cycle
  have hholds : t.tab.holds = true := by rcases hst with hst | hst <;> simp [TabRec.holds, hst]
  have hbefore : (s.nest t.nest).BoardCount t.tab.board t.board := (State.cutsAgree_iff.mpr h).boards ⟨t.nest, t.tab.board⟩ _ hb
  have hafter : (u.nest t.nest).BoardCount t.tab.board { t.board with uncut := t.board.uncut - 1 } := by
    refine hbefore.modifyTab htab (g := fun r => { r with state := .cutting, lane := some i }) (fun _ => rfl) htabs rfl (fun _ => ?_) (fun hne => absurd rfl hne) fun hoff => ?_
    · have hpos := hbefore.uncut_pos htab rfl hholds
      change t.board.uncut - 1 + t.tab.holds.toNat = t.board.uncut + 0
      rw [hholds, Bool.toNat_true]
      omega
    · exact absurd hbst (not_or.mpr hoff)
  refine ⟨{ t.tab with state := .cutting, lane := some i }, _, ?_, rfl, admitCut_board hb .., ?_⟩
  · rw [htabs, List.getElem?_modify_eq, show (s.nest t.nest).tabs[byteNat w.payload 5]? = _ from htab]
    rfl
  · have hcount := hafter.2.1
    rw [holdRule, Bool.or_eq_true, decide_eq_true_eq, decide_eq_true_eq] at hrule
    exact hrule.imp_left fun hle => hle.trans hcount.le

end HoldLaw

/-- Settles O24: a refused CUT leaves voided, and an admitted one has passed the hold rule on a true count. -/
theorem unvoidedCutKeepsTheHoldLaw : Obligations.UnvoidedCutKeepsTheHoldLaw := by
  intro w s t f rest more i hinv h hr hexec hout
  cases hc : checkCut s i w.payload with
  | error code =>
    rw [exec_cut_refused h hr hc] at hexec
    cases hexec
    obtain ⟨it, hdown, hkind⟩ := hout
    have hvoid : it = voidItem (itemOf 0x10 w) code := by simpa [State.voidedOn, State.walkedOn] using hdown.symm
    rw [hvoid] at hkind
    exact absurd hkind (by change ¬(Kind.void = 0x10); decide)
  | ok target =>
    obtain ⟨hnest, -⟩ := checkCut_ok hc
    rw [exec_cut_admitted h hr hc] at hexec
    cases hexec
    obtain ⟨x, b, hx, hst, hb, hlaw⟩ := admitCut_holds hinv hc
      (appliedFeed (halfNat w.payload 6) (s.lane i).gov.override (s.feedCap target.nest (byteNat w.payload 5)))
      (payloadHalf w.payload 8) f.cycle
    exact ⟨target.nest, x, b, hnest, hx, hst, hb, hlaw⟩

end Sys2Proof.Machine

/-! Wear and what it sets off (sections 6.2 to 6.5), and the spindle and feed orders (sections 7.3 to 7.5). -/

namespace Sys2Proof.Machine

section Wear
variable {s : State} {i : LaneId} {tag : Half} {l : Lane} {life : Life}

/-- R101: the greatest increment is that of the longest cut at the load at which the rule saturates. -/
theorem wearIncrement_le {length load : Nat} (hl : length ≤ 65535) (hload : load ≤ 200) : (length * (64 + load) + 64) / 128 ≤ 135166 := by
  have : length * (64 + load) ≤ 65535 * 264 := Nat.mul_le_mul hl (by omega)
  omega

theorem rewear_lane_ne {cause : LimitCause} {f : Life → Life} {j : LaneId} (hj : j ≠ i) : (rewear tag cause i f s).lane j = s.lane j := by
  obtain ⟨r, h⟩ := rewear_frame s tag cause i f
  rw [h]
  exact lane_setLane_ne s hj.symm _

/-- R105: where a lane stands after its life record has changed, by the park hold before and after. -/
theorem Lane.withLife_eq (l : Lane) (life : Life) : l.withLife life =
    if life.parkHold = true ∧ l.life.parkHold = false ∧ l.state = .ready then
      { l with life := life, state := .parked,
               pend := { l.pend with stop := l.pend.stop || decide (l.spindle = .runningUp ∨ l.spindle = .atSpeed) } }
    else if life.parkHold = false ∧ l.life.parkHold = true ∧ l.state = .parked then { l with life := life, state := .ready }
    else { l with life := life } := by
  have hpark : Lane.park { l with life := life } = { l with
      life := life, state := .parked,
      pend := { l.pend with stop := l.pend.stop || decide (l.spindle = .runningUp ∨ l.spindle = .atSpeed) } } := Lane.park_eq _
  rw [← hpark]
  unfold Lane.withLife
  cases life.parkHold <;> cases l.life.parkHold <;> simp

/-- Notices are queued one after the other. -/
def State.posted (s : State) (ps : List Posted) : State := { s with ret := s.ret.postAll ps }

theorem State.posted_nil : s.posted [] = s := rfl

theorem State.posted_posted (ps qs : List Posted) : (s.posted ps).posted qs = s.posted (ps ++ qs) := by
  simp only [State.posted, ReturnPath.postAll, List.foldl_append]

theorem post_eq_posted (n : Notice) : post tag n s = s.posted [⟨tag, n⟩] := rfl

end Wear

/-- Settles O30: the judged record from `life_rewear`, the lane from `Lane.withLife_eq`, the notices one test after the other. -/
theorem wearStepsAndLifeChanges : Obligations.WearStepsAndLifeChanges := by
  refine ⟨?wear, ?change⟩
  case wear =>
    intro s i w length load increment a
    have hinc : (length * (64 + min load 200) + 64) / 128 = increment := by
      change _ = (length * (64 + if 200 < load then 200 else load) + 64) / 128
      congr 4
      split <;> omega
    have ha : min 16777215 ((s.lane i).life.wear + increment) = a := by
      change _ = if 16777215 < (s.lane i).life.wear + increment then 16777215 else (s.lane i).life.wear + increment
      split <;> omega
    have hlife : ((s.worn i w).lane i).life = { (s.lane i).life with
        wear := a, warned := decide ((s.lane i).life.warn ≤ a), reached := decide ((s.lane i).life.limit ≤ a) } := by
      rw [State.worn, life_rewear]
      dsimp only
      rw [hinc, ha]
    refine ⟨congrArg Life.wear hlife, ?_, congrArg Life.warned hlife, congrArg Life.reached hlife, fun j hj => rewear_lane_ne hj⟩
    have hlength : length ≤ 65535 := Nat.le_of_lt_succ (BitVec.isLt _)
    exact hinc ▸ wearIncrement_le hlength (Nat.min_le_right _ _)
  case change =>
    intro tag cause i change s l c life parks parked l' warns limit limits
    have hl' : l.withLife life = l' := Lane.withLife_eq l life
    change _ = (setLane i l' s).posted (warns ++ limits)
    have hwarns (u : State) : (if (life.warned && !l.life.warned) = true then
        post tag (.wearWarn i life.bitId life.wear life.warn) u else u) = u.posted warns := by
      by_cases hw : life.warned = true ∧ l.life.warned = false
      · rw [if_pos (by simp [hw]), show warns = _ from if_pos hw]
        rfl
      · rw [if_neg (by simpa using hw), show warns = [] from if_neg hw]
        rfl
    have hlimits (u : State) : (if (life.reached && life.behaviour != .ignore) = true then
        if (!l.life.reached) = true then post tag (.wearLimit i life.bitId life.wear life.limit life.behaviour cause) u
        else if (life.behaviour != l.life.behaviour) = true then
          post tag (.wearLimit i life.bitId life.wear life.limit life.behaviour .behaviour) u
        else u
      else u) = u.posted limits := by
      by_cases hquiet : life.reached = false ∨ life.behaviour = .ignore
      · rw [if_neg (by rcases hquiet with h | h <;> simp [h]), show limits = [] from if_pos hquiet]
        rfl
      · have htold : (life.reached && life.behaviour != .ignore) = true := by simpa using hquiet
        rw [if_pos htold, show limits = _ from if_neg hquiet]
        by_cases hnew : l.life.reached = false
        · rw [if_pos (by simp [hnew]), if_pos hnew]
          rfl
        · rw [if_neg (by simpa using hnew), if_neg hnew]
          by_cases hb : life.behaviour = l.life.behaviour
          · rw [if_neg (by simp [hb]), if_neg (not_not.mpr hb)]
            rfl
          · rw [if_pos (by simpa using hb), if_pos hb]
            rfl
    have hrewear : rewear tag cause i change s = ((setLane i (l.withLife life) s).posted warns).posted limits := by
      rw [← hwarns, ← hlimits]
      rfl
    rw [hrewear, hl', State.posted_posted]

/-! ### SPIN and FEED items (R117, R118, R123) -/

section Orders
variable {s : State} {f : DownFrame} {rest : List DownFrame} {w : Wire} {more : List Item} {i : LaneId}

/-- R117: the checks of a SPIN start, in their order. -/
theorem firstFailing_startChecks (s : State) (l : Lane) : firstFailing
    [(decide (s.line.state = .running), .halted), (decide (l.state ≠ .inactive), .laneInactive),
      (decide (l.state ≠ .error ∧ l.state ≠ .recovering), .laneFault), (decide (l.state ≠ .parked), .laneWithheld),
      (decide (l.state ≠ .cutting), .laneBusy)] = checkStart s l := by
  simp only [firstFailing_cons, decide_eq_true_eq, checkStart, ← not_or, ite_not, ne_eq]
  rfl

/-- R137: a SPIN start at a lane's address is settled as it is judged. -/
theorem exec_spinStart (h : s.Walking f rest (itemOf 0x11 w) more) (hr : s.RoleItem (.lane i) w) (hspeed : 0 < halfNat w.payload 4) :
    exec (.spinStart w) s = .next ((settle (itemOf 0x11 w) (judgeStart f.cycle (itemOf 0x11 w) i s)).1.walkedOn f rest more
      (settle (itemOf 0x11 w) (judgeStart f.cycle (itemOf 0x11 w) i s)).2) := by
  have hexec : exec (.spinStart w) s = .next (walkGated Kind.spin w Role.lane? judgeStart s) :=
    congrArg Host.Outcome.next (if_neg hspeed.ne')
  rw [hexec, walkGated_role (kind := Kind.spin) (belongs := Role.lane?) h hr rfl judgeStart]
  rfl

theorem exec_spinStop (h : s.Walking f rest (itemOf 0x11 w) more) (hr : s.RoleItem (.lane i) w) (hspeed : halfNat w.payload 4 = 0) :
    exec (.spinStop w) s = .next ((stopSpindle i s).walkedOn f rest more (itemOf 0x11 w)) := by
  have hexec : exec (.spinStop w) s = .next (walkGated Kind.spin w Role.lane? judgeStop s) :=
    congrArg Host.Outcome.next (if_pos hspeed)
  rw [hexec, walkGated_role (kind := Kind.spin) (belongs := Role.lane?) h hr rfl judgeStop]
  rfl

theorem exec_feed (h : s.Walking f rest (itemOf 0x12 w) more) (hr : s.RoleItem (.lane i) w) :
    exec (.feed w) s = .next ((modLane i (fun l => { l with pend := { l.pend with feed := none } }) s).walkedOn f rest more
      (withPercent (itemOf 0x12 w) (forwardedPercent (byteNat w.payload 4) (s.lane i).gov.override))) :=
  congrArg Host.Outcome.next (walkGated_role (belongs := Role.lane?) h hr rfl judgeFeed)

/-- R123: the percent a FEED leaves with, from the percent sent. -/
theorem forwardedPercent_eq (sent override : Nat) : forwardedPercent sent override =
    let percent := if sent = 0 then 1 else if 100 < sent then 100 else sent
    if percent * override / 100 = 0 then 1 else percent * override / 100 := by
  have hclamp : clampTo 1 100 sent = if sent = 0 then 1 else if 100 < sent then 100 else sent := by
    unfold clampTo
    split_ifs <;> omega
  rw [forwardedPercent, hclamp]
  dsimp only
  generalize (if sent = 0 then 1 else if 100 < sent then 100 else sent) * override / 100 = n
  split <;> omega

end Orders

/-- Settles O34: a start by its first failed check, the stop and the FEED as they are forwarded. -/
theorem spindleAndFeedOrders : Obligations.SpindleAndFeedOrders := by
  refine ⟨?start, ?others⟩
  case start =>
    intro w s f rest more i h hr hspeed l code sent speed
    have hcode : code = checkStart s l := firstFailing_startChecks s l
    rw [hcode, exec_spinStart h hr hspeed]
    refine ⟨fun c hc => ?void, fun hok => ?starts⟩
    case void =>
      rw [judgeStart, show checkStart s (s.lane i) = _ from hc]
      rfl
    case starts =>
      have hclamp : clampTo 10 600 sent = speed := clampTo_eq_within (by decide) sent
      have hjudge : judgeStart f.cycle (itemOf 0x11 w) i s = .pass (startSpindle i speed s)
          (if speed = sent then itemOf 0x11 w else withSpeed (itemOf 0x11 w) speed) := by
        rw [judgeStart, show checkStart s (s.lane i) = _ from hok, ← hclamp]
        rfl
      rw [hjudge]
      rfl
  case others =>
    intro w s f rest more i hr l stopped sent percent forwarded
    refine ⟨fun h hspeed => exec_spinStop h hr hspeed, fun h => ?feed⟩
    rw [exec_feed h hr, forwardedPercent_eq]
    rfl

end Sys2Proof.Machine

/-! A lane's report and its timers (sections 7.2 to 7.6). -/

namespace Sys2Proof.Machine

section Report
variable {s : State} {i : LaneId} {tag : Half} {w : Wire}

theorem setLane_lane (i : LaneId) (s : State) : setLane i (s.lane i) s = s := by simp [setLane, State.lane]

/-- R124: a cause leaves the governor to itself. -/
theorem raiseCause_gov (tag : Half) (i : LaneId) (c : Cause) (s : State) : ((raiseCause tag i c s).lane i).gov = (s.lane i).gov := by
  rw [lane_raiseCause]
  split
  · rfl
  · split
    · rw [Lane.sameCause_eq]
    · rw [Lane.newCause_eq]

/-- R117, R118: the spindle on a reported speed, by what it is doing. -/
theorem Lane.spindleReport_eq (l : Lane) (speed : Nat) : l.spindleReport speed =
    if l.spindle = .runningUp ∧ l.commanded.getD 0 * 95 ≤ speed * 100 then { l with spindle := .atSpeed }
    else if l.spindle = .spinningDown ∧ speed ≤ 5 then { l with spindle := .stopped, spinDownTimer := none }
    else l := by
  unfold Lane.spindleReport
  cases l.spindle <;> simp

/-- R116: the lane with a report's values recorded. -/
def Lane.heard (l : Lane) (p : Payload) (fault : Bool) : Lane :=
  { l with lastSpeed := some (halfNat p 4), lastLoad := some (byteNat p 6), lastFault := some fault }

theorem takeLaneState_heard {fault : Bool} (hf : payloadByte w.payload 7 = if fault then 1 else 0) (cycle : Half) :
    takeLaneState w i cycle s =
      let l0 := (s.lane i).heard w.payload fault
      let s1 := setLane i (l0.spindleReport (halfNat w.payload 4)) s
      if l0.state = .inactive then setLane i l0 s
      else govern w.tag i (byteNat w.payload 6) (if fault then raiseCause w.tag i .driveFault s1 else s1) := by
  have hfault : Operand.reportFault w.payload = some fault := by
    rw [Operand.reportFault, hf, boolOfByte_code]
  simp only [takeLaneState, hfault, modLane_eq, lane_setLane_same, setLane_setLane]
  rfl

/-! ### The governor on a reported load (R119, R120, R122) -/

section Govern
variable {load : Nat}

theorem govern_stepped (h : (s.lane i).gov.state = .stepped) : govern tag i load s = s := if_pos h

/-- The lane with a new over-run start. -/
def State.overRunFrom (s : State) (i : LaneId) (o : Option Nat) : State :=
  setLane i { s.lane i with gov := { (s.lane i).gov with overRun := o } } s

/-- R119: the governor judges the load, and a lane found over is told. -/
theorem govern_judges (h : (s.lane i).gov.state ≠ .stepped) {o : Option Nat} {yes : Bool}
    (ho : (s.lane i).gov.overRunAfter s.now load = (o, yes)) :
    govern tag i load s = if yes then laneOver tag i (s.overRunFrom i o) else s.overRunFrom i o := by
  simp only [govern, if_neg h, ho]
  rfl

theorem Governor.overRunAfter_within {g : Governor} (h : load ≤ g.effectiveLimit) (now : Nat) : g.overRunAfter now load = (none, false) := if_pos h

theorem Governor.overRunAfter_first {g : Governor} (h : g.effectiveLimit < load) (ho : g.overRun = none) (now : Nat) :
    g.overRunAfter now load = (some now, false) := by
  rw [Governor.overRunAfter, if_neg (Nat.not_le.mpr h), ho]

theorem Governor.overRunAfter_masked {g : Governor} (h : g.effectiveLimit < load) {t now : Nat} (ho : g.overRun = some t)
    (hm : now - t < g.mask) : g.overRunAfter now load = (some t, false) := by
  rw [Governor.overRunAfter, if_neg (Nat.not_le.mpr h), ho]
  exact if_neg (Nat.not_le.mpr hm)

theorem Governor.overRunAfter_exceeded {g : Governor} (h : g.effectiveLimit < load) {t now : Nat} (ho : g.overRun = some t)
    (hm : g.mask ≤ now - t) : g.overRunAfter now load = (none, true) := by
  rw [Governor.overRunAfter, if_neg (Nat.not_le.mpr h), ho]
  exact if_pos hm

/-- R119, step 3: a run that is not masked out yet goes on. -/
theorem govern_masked (h : (s.lane i).gov.state ≠ .stepped) (hl : (s.lane i).gov.effectiveLimit < load) {t : Nat}
    (ho : (s.lane i).gov.overRun = some t) (hm : s.now - t < (s.lane i).gov.mask) : govern tag i load s = s := by
  rw [govern_judges h (Governor.overRunAfter_masked hl ho hm), State.overRunFrom, ← ho]
  exact setLane_lane i s

/-- R120: in YIELD a lane found over steps its override down. -/
theorem govern_yields (hl : (s.lane i).gov.effectiveLimit < load) {t : Nat} (ho : (s.lane i).gov.overRun = some t)
    (hm : (s.lane i).gov.mask ≤ s.now - t) (hst : (s.lane i).gov.state = .normal) (hmode : (s.lane i).gov.mode = .yield) :
    govern tag i load s = setLane i { s.lane i with
      gov := { (s.lane i).gov with
        state := .stepped, override := 85, overRun := none, coolTimer := some (s.now + (s.lane i).gov.coolDown) },
      pend := { (s.lane i).pend with
        feed := if (s.lane i).gov.override ≠ 85 ∧ (s.lane i).state = .cutting then some 85 else (s.lane i).pend.feed } } s := by
  have hlane : (s.overRunFrom i none).lane i = { s.lane i with gov := { (s.lane i).gov with overRun := none } } := lane_setLane_same ..
  rw [govern_judges (by simp [hst]) (Governor.overRunAfter_exceeded hl ho hm), if_pos rfl, laneOver, if_pos (by rw [hlane]; exact ⟨hst, hmode⟩),
    hlane, Lane.withGov_eq, State.overRunFrom, setLane_setLane]
  simp only [ne_comm]
  rfl

/-- R120, R122: in TRIP, and in FALLBACK, it is an OVERLOAD. -/
theorem govern_trips (h : (s.lane i).gov.state ≠ .stepped) (hl : (s.lane i).gov.effectiveLimit < load) {t : Nat}
    (ho : (s.lane i).gov.overRun = some t) (hm : (s.lane i).gov.mask ≤ s.now - t)
    (hw : (s.lane i).gov.state = .fallback ∨ (s.lane i).gov.mode = .trip) :
    govern tag i load s = raiseCause tag i .overload (s.overRunFrom i none) := by
  have hlane : (s.overRunFrom i none).lane i = { s.lane i with gov := { (s.lane i).gov with overRun := none } } := lane_setLane_same ..
  rw [govern_judges h (Governor.overRunAfter_exceeded hl ho hm), if_pos rfl]
  refine if_neg ?_
  rw [hlane]
  rintro ⟨hn, hy⟩
  rcases hw with hw | hw
  · simp [hw] at hn
  · simp [hw] at hy

end Govern

end Report

/-- Settles O35: the report as `takeLaneState_heard` takes it, the load as `govern_judges` judges it. -/
theorem laneReportIsTakenInOrder : Obligations.LaneReportIsTakenInOrder := by
  intro w s f rest more i fault h hr hf speed load l0 l1 s1 l2 g limit starts stepped answer
  have htake : exec (.laneState w) s = .next ((takeLaneState w i f.cycle s).reportedOn f rest more) :=
    congrArg Host.Outcome.next (walkReport_role (belongs := Role.lane?) h hr rfl (takeLaneState w))
  have hl1 : l0.spindleReport speed = l1 := l0.spindleReport_eq speed
  have hs1 : (if fault then raiseCause w.tag i .driveFault (setLane i (l0.spindleReport speed) s) else setLane i (l0.spindleReport speed) s) = s1 := by
    rw [hl1]
  have hgov1 : l1.gov = g := by
    change (if _ then _ else if _ then _ else _ : Lane).gov = _
    split_ifs <;> rfl
  have hgov : (s1.lane i).gov = g := by
    change (State.lane (if fault then _ else _) i).gov = g
    split
    · rw [raiseCause_gov, lane_setLane_same, hgov1]
    · rw [lane_setLane_same, hgov1]
  have hnow : s1.now = s.now := by
    change State.now (if fault then _ else _) = s.now
    split
    · exact raiseCause_now ..
    · rfl
  have hanswer (ha : l0.state ≠ .inactive) {s' : State} (hg : govern w.tag i load s1 = s') : answer s' := by
    have : takeLaneState w i f.cycle s = govern w.tag i load s1 := by
      rw [takeLaneState_heard hf, ← hs1]
      exact if_neg ha
    exact htake.trans (by rw [this, hg])
  have hstarts (o : Option Nat) : s1.overRunFrom i o = starts o := by rw [State.overRunFrom, hgov]
  have hlimit : (s1.lane i).gov.effectiveLimit = limit := by rw [hgov]; rfl
  clear_value s1
  have hjudged {o : Option Nat} (hg : g.state ≠ .stepped) (ho : g.overRunAfter s.now load = (o, false)) :
      govern w.tag i load s1 = starts o := by
    rw [← hgov] at hg ho
    rw [← hnow] at ho
    exact (govern_judges hg ho).trans (hstarts o)
  refine ⟨fun hi => ?inactive, fun ha hg => hanswer ha (govern_stepped (by rwa [hgov])),
    fun ha hg hl => hanswer ha (hjudged hg (Governor.overRunAfter_within hl _)),
    fun ha hg hl ho => hanswer ha (hjudged hg (Governor.overRunAfter_first hl ho _)),
    fun ha hg hl t ho => ?beyond⟩
  case inactive =>
    refine htake.trans ?_
    rw [takeLaneState_heard hf]
    exact congrArg (fun u : State => Host.Outcome.next (u.reportedOn f rest more)) (if_pos hi)
  case beyond =>
    rw [← hlimit] at hl
    rw [← hgov] at hg ho
    refine ⟨fun hm => hanswer ha ?masked, fun hm hst hmode => hanswer ha ?yields, fun hm hw => hanswer ha ?trips⟩
    all_goals rw [← hgov, ← hnow] at hm
    case masked => exact govern_masked hg hl ho hm
    case yields =>
      rw [← hgov] at hst hmode
      rw [govern_yields hl ho hm hst hmode, hgov, hnow]
    case trips =>
      rw [← hgov] at hw
      rw [govern_trips hg hl ho hm hw, hstarts]

/-! ### The lane's timers (R118, R121, R122, R126) -/

section Timers
variable {s : State} {i : LaneId} {ends : Nat}

theorem exec_spinDownTimerExpiry (ht : (s.lane i).spinDownTimer = some ends) (hr : s.inReset = false) :
    exec (.spinDownTimerExpiry i) s = .next (spinDownExpired i (s.runTo ends)) := by
  change Host.Outcome.next (expire (s.lane i).spinDownTimer (spinDownExpired i) s) = _
  rw [ht, expire_running hr]

theorem exec_recoveryTimerExpiry (ht : (s.lane i).recoveryTimer = some ends) (hr : s.inReset = false) :
    exec (.recoveryTimerExpiry i) s = .next (recoveryExpired i (s.runTo ends)) := by
  change Host.Outcome.next (expire (s.lane i).recoveryTimer (recoveryExpired i) s) = _
  rw [ht, expire_running hr]

theorem exec_coolDownTimerExpiry (ht : (s.lane i).gov.coolTimer = some ends) (hr : s.inReset = false) :
    exec (.coolDownTimerExpiry i) s = .next (coolDownExpired i (s.runTo ends)) := by
  change Host.Outcome.next (expire (s.lane i).gov.coolTimer (coolDownExpired i) s) = _
  rw [ht, expire_running hr]

theorem exec_restoreTimerExpiry (ht : (s.lane i).gov.restoreTimer = some ends) (hr : s.inReset = false) :
    exec (.restoreTimerExpiry i) s = .next (restoreExpired i (s.runTo ends)) := by
  change Host.Outcome.next (expire (s.lane i).gov.restoreTimer (restoreExpired i) s) = _
  rw [ht, expire_running hr]

theorem spinDownExpired_spinning (h : (s.lane i).spindle = .spinningDown) :
    spinDownExpired i s = raiseCause 0 i .spindown (setLane i { s.lane i with spinDownTimer := none } s) := by
  refine if_pos ?_
  rw [modLane_eq, lane_setLane_same]
  exact h

theorem recoveryExpired_clear (h : (s.lane i).state = .recovering)
    (hc : (s.lane i).clearable = true ∧ (s.lane i).causes.latching = false) :
    recoveryExpired i s = post 0 (.laneRestored i (s.lane i).restored.state) (setLane i (s.lane i).restored s) := by
  simp only [recoveryExpired, if_pos h, if_pos hc]

theorem recoveryExpired_waits (h : (s.lane i).state = .recovering)
    (hc : ¬((s.lane i).clearable = true ∧ (s.lane i).causes.latching = false)) :
    recoveryExpired i s = setLane i { s.lane i with recoveryTimer := some (s.now + (s.lane i).autoWait) } s := by
  simp only [recoveryExpired, if_pos h, if_neg hc]

theorem coolDownExpired_stepped (h : (s.lane i).gov.state = .stepped) {g : Governor}
    (hg : (s.lane i).gov.cooled s.now (s.lane i).lastLoad = g) : coolDownExpired i s = setLane i ((s.lane i).withGov g) s := by
  subst hg
  exact if_pos h

/-- R122: the override stays as it is in FALLBACK, so no FEED comes of a restore. -/
theorem restoreExpired_fallback (h : (s.lane i).gov.state = .fallback) {g : Governor}
    (hg : (s.lane i).gov.restoredBy s.now (s.lane i).lastLoad = g) : restoreExpired i s = setLane i ((s.lane i).withGov g) s := by
  have hoverride : g.override = (s.lane i).gov.override := by
    rw [← hg, Governor.restoredBy]
    split <;> rfl
  rw [Lane.withGov_eq, if_neg (fun hc => hc.1 hoverride), ← hg]
  exact if_pos h

end Timers

/-! ### The governor at the ends of its timers (R121, R122) -/

section Rungs
variable {g : Governor} {now : Nat} {load : Option Nat}

theorem Governor.effectiveLimit_stepped (h : g.state = .stepped) : g.effectiveLimit = 60 + 10 * g.level :=
  if_neg (by simp [h])

theorem Governor.effectiveLimit_fallback (h : g.state = .fallback) : g.effectiveLimit = 60 + 10 * (g.level - 1) := if_pos h

/-- R121: the ladder of overrides. -/
theorem rungBelow_eq {above below : Nat} (h : (above, below) ∈ [(85, 70), (70, 55), (55, 40), (40, 25)]) :
    above ≠ 25 ∧ rungBelow above = below := by
  simp only [List.mem_cons, Prod.mk.injEq, List.not_mem_nil, or_false] at h
  rcases h with ⟨rfl, rfl⟩ | ⟨rfl, rfl⟩ | ⟨rfl, rfl⟩ | ⟨rfl, rfl⟩ <;> decide

theorem Governor.cooled_rung {above below : Nat} (h : (above, below) ∈ [(85, 70), (70, 55), (55, 40), (40, 25)]) (ho : g.override = above)
    (hl : g.effectiveLimit < load.getD 0) : g.cooled now load = { g with override := below, coolTimer := some (now + g.coolDown) } := by
  obtain ⟨hne, hbelow⟩ := rungBelow_eq h
  rw [Governor.cooled, if_pos hl, ho, if_neg hne, hbelow]

theorem Governor.cooled_fallback (ho : g.override = 25) (hl : g.effectiveLimit < load.getD 0) : g.cooled now load =
    { g with state := .fallback, override := 100, coolTimer := none, restoreTimer := some (now + g.restore), overRun := none } := by
  rw [Governor.cooled, if_pos hl, if_pos ho]

theorem Governor.cooled_normal (hl : load.getD 0 ≤ g.effectiveLimit - 10) : g.cooled now load =
    { g with state := .normal, override := 100, coolTimer := none } := by
  rw [Governor.cooled, if_neg (by omega), Governor.backDown, if_pos (decide_eq_true hl)]

theorem Governor.cooled_stays (hl : g.effectiveLimit - 10 < load.getD 0) (hl' : load.getD 0 ≤ g.effectiveLimit) : g.cooled now load =
    { g with coolTimer := some (now + g.coolDown) } := by
  rw [Governor.cooled, if_neg (Nat.not_lt.mpr hl'), Governor.backDown, if_neg (by simpa using hl)]

theorem Governor.restoredBy_normal (hl : load.getD 0 ≤ g.effectiveLimit - 10) : g.restoredBy now load =
    { g with state := .normal, restoreTimer := none } := if_pos (decide_eq_true hl)

theorem Governor.restoredBy_waits (hl : g.effectiveLimit - 10 < load.getD 0) : g.restoredBy now load =
    { g with restoreTimer := some (now + g.restore) } := if_neg (by simpa [Governor.backDown] using hl)

end Rungs

/-- Settles O36: each timer by its expiry, the governor's two by where the load stands. -/
theorem laneTimersExpire : Obligations.LaneTimersExpire := by
  refine ⟨?lane, ?governor⟩
  case lane =>
    intro s i ends hr l now clears state
    have hclears : ((s.lane i).clearable = true ∧ (s.lane i).causes.latching = false) ↔ clears := by
      rw [Lane.clearable_iff, and_assoc, and_assoc]
    refine ⟨fun ht hs => ?spin, fun ht hs hc => ?clear, fun ht hs hc => ?wait⟩
    case spin =>
      rw [exec_spinDownTimerExpiry ht hr, spinDownExpired_spinning (s := s.runTo ends) hs]
      rfl
    case clear =>
      have ⟨_, _, hstop, _⟩ := hc
      have hrestored : (s.lane i).restored = { l with causes := Causes.none, recoveryTimer := none, state := state } :=
        Lane.restored_stopped hstop
      rw [exec_recoveryTimerExpiry ht hr, recoveryExpired_clear (s := s.runTo ends) hs (hclears.mpr hc)]
      change Host.Outcome.next (post 0 (.laneRestored i (s.lane i).restored.state) (setLane i (s.lane i).restored (s.runTo ends))) = _
      rw [hrestored]
    case wait =>
      rw [exec_recoveryTimerExpiry ht hr, recoveryExpired_waits (s := s.runTo ends) hs (mt hclears.mp hc)]
      rfl
  case governor =>
    intro s i ends hr l g load now takes
    have htakes (g' : Governor) : setLane i (l.withGov g') (s.runTo ends) = takes g' := by rw [Lane.withGov_eq]
    refine ⟨fun ht hg => ?cool, fun ht hg => ?restore⟩
    case cool =>
      intro limit
      have hlimit : g.effectiveLimit = limit := Governor.effectiveLimit_stepped hg
      have hexec {g' : Governor} (h : g.cooled now l.lastLoad = g') : exec (.coolDownTimerExpiry i) s = .next (takes g') := by
        rw [exec_coolDownTimerExpiry ht hr, coolDownExpired_stepped (s := s.runTo ends) hg h]
        exact congrArg Host.Outcome.next (htakes g')
      rw [← hlimit]
      exact ⟨fun above below h ho hl => hexec (Governor.cooled_rung h ho hl), fun ho hl => hexec (Governor.cooled_fallback ho hl),
        fun hl => hexec (Governor.cooled_normal hl), fun hl hl' => hexec (Governor.cooled_stays hl hl')⟩
    case restore =>
      intro limit
      have hlimit : g.effectiveLimit = limit := Governor.effectiveLimit_fallback hg
      have hexec {g' : Governor} (h : g.restoredBy now l.lastLoad = g') : exec (.restoreTimerExpiry i) s = .next (takes g') := by
        rw [exec_restoreTimerExpiry ht hr, restoreExpired_fallback (s := s.runTo ends) hg h]
        exact congrArg Host.Outcome.next (htakes g')
      rw [← hlimit]
      exact ⟨fun hl => hexec (Governor.restoredBy_normal hl), fun hl => hexec (Governor.restoredBy_waits hl)⟩

end Sys2Proof.Machine

/-! The walk of the two paths (sections 8.3 and 8.6): the address tests, requests that are not executed, and reports that are not taken. -/

namespace Sys2Proof.Machine

/-! ### Requests (R137, R147, R170) -/

section Requests
variable {s : State} {f : DownFrame} {rest : List DownFrame} {kind : Byte} {w : Wire} {more : List Item}

/-- R168, R170: every request row walks its item with an act of its own. -/
theorem exec_of_requestItem {c : Instr} (h : requestItem c = some (kind, w)) :
    ∃ act, ∀ s, exec c s = .next (walkRequest kind w act s) := by
  cases c
  case undefinedRequest k w' =>
    by_cases hk : 0x5F ≤ k.toNat ∧ k.toNat ≤ 0x7F
    · rw [requestItem, if_pos hk] at h
      cases h
      exact ⟨refuse .badArgument, fun s => congrArg Host.Outcome.next (if_pos (by simpa [Kind.isUndefinedRequest] using hk))⟩
    · rw [requestItem, if_neg hk] at h
      cases h
  all_goals cases h <;> exact ⟨_, fun _ => rfl⟩

/-- R137: a request at any other address goes on unexecuted. -/
theorem walkRequest_other (h : s.Walking f rest (itemOf kind w) more) (hr : s.route w.addr ≠ .own) (act : State → State × Reply) :
    walkRequest kind w act s = s.walkedOn f rest more (itemOf kind w) := by
  rw [walkRequest, walkItem_next h]
  split
  next ho => exact absurd ho hr
  next => rfl

/-- R147: a request at the own address is lost to a full answer queue. -/
theorem walkRequest_full (h : s.Walking f rest (itemOf kind w) more) (ho : s.OwnItem w) (hq : 16 ≤ s.ret.answers.length)
    (act : State → State × Reply) :
    walkRequest kind w act s = State.walkedOn { s with ret := { s.ret with answerLost := true } } f rest more (itemOf kind w) := by
  rw [walkRequest, walkItem_next h]
  have hfull : Config.answerCap ≤ s.ret.answers.length := hq
  simp only [State.route_own ho, request, if_pos hfull]

theorem State.route_ne_own (h : stationOf w.addr = 63 ∨ stationOf w.addr ≠ s.line.ownAddr) : s.route w.addr ≠ .own := by
  unfold State.route
  dsimp only
  split_ifs with h1 h2 h3
  · exact fun e => nomatch e
  · rcases h with h | h
    · exact absurd h h1
    · exact absurd h2 h
  · exact fun e => nomatch e
  · split <;> exact fun e => nomatch e

end Requests

/-- Settles O8: each request by its row's act, the undefined ones by `refuse`. -/
theorem requestsPassOrAreLostOrUnnamed : Obligations.RequestsPassOrAreLostOrUnnamed := by
  refine ⟨fun c kind w s f rest more hc h => ?named, fun kind w s f rest more hlo hhi h => ?unnamed⟩
  case named =>
    obtain ⟨act, hexec⟩ := exec_of_requestItem hc
    rw [hexec]
    exact ⟨fun hother => congrArg Host.Outcome.next (walkRequest_other h (State.route_ne_own hother) act),
      fun ho hq => congrArg Host.Outcome.next (walkRequest_full h ho hq act)⟩
  case unnamed =>
    have hkind : Kind.isUndefinedRequest kind = true := by simp [Kind.isUndefinedRequest, hlo, hhi]
    exact (congrArg Host.Outcome.next (if_pos hkind)).trans (h.next rfl)

/-! ### Gated items (R137) -/

section Gated
variable {s : State} {f : DownFrame} {rest : List DownFrame} {kind : Byte} {w : Wire} {more : List Item}

theorem Role.lane?_eq_none {r : Role} (h : r ∉ [Role.lane 0, .lane 1, .lane 2, .lane 3]) : r.lane? = none :=
  (show ∀ r ∈ allRoles, r ∉ [Role.lane 0, .lane 1, .lane 2, .lane 3] → r.lane? = none by decide) r (mem_allRoles r) h

theorem Role.picker?_eq_none {r : Role} (h : r ∉ [Role.picker 0, .picker 1]) : r.picker? = none :=
  (show ∀ r ∈ allRoles, r ∉ [Role.picker 0, .picker 1] → r.picker? = none by decide) r (mem_allRoles r) h

theorem Role.table?_eq_none {r : Role} (h : r ∉ [Role.table]) : r.table? = none :=
  (show ∀ r ∈ allRoles, r ∉ [Role.table] → r.table? = none by decide) r (mem_allRoles r) h

theorem Role.elevator?_eq_none {r : Role} (h : r ∉ [Role.elevator]) : r.elevator? = none :=
  (show ∀ r ∈ allRoles, r ∉ [Role.elevator] → r.elevator? = none by decide) r (mem_allRoles r) h

/-- R137: every gated row walks its item with a judge of its own, for the roles its kind belongs to. -/
theorem exec_of_gatedItem {c : Instr} (hw : c.wellFormed = true) (h : gatedItem c = some (kind, w)) :
    ∃ (α : Type) (belongs : Role → Option α) (judge : Half → Item → α → State → Verdict),
      (∀ s, exec c s = .next (walkGated kind w belongs judge s)) ∧ ∀ r, r ∉ gatedRoles kind → belongs r = none := by
  cases c
  case spinStart w' =>
    cases h
    exact ⟨_, Role.lane?, judgeStart, fun s => congrArg Host.Outcome.next (if_neg (of_decide_eq_true hw)), fun _ => Role.lane?_eq_none⟩
  case spinStop w' =>
    cases h
    exact ⟨_, Role.lane?, judgeStop, fun s => congrArg Host.Outcome.next (if_pos (of_decide_eq_true hw)), fun _ => Role.lane?_eq_none⟩
  case cut | feed => cases h; exact ⟨_, Role.lane?, _, fun _ => rfl, fun _ => Role.lane?_eq_none⟩
  case grip | openJaws | lift | place => cases h; exact ⟨_, Role.picker?, _, fun _ => rfl, fun _ => Role.picker?_eq_none⟩
  case shuttle => cases h; exact ⟨_, Role.table?, _, fun _ => rfl, fun _ => Role.table?_eq_none⟩
  all_goals cases h

theorem State.route_pass (h : stationOf w.addr = 63 ∨ stationOf w.addr = s.line.ownAddr ∨
      (stationOf w.addr ≠ 0 ∧ ∀ r, s.addrOf r ≠ some (stationOf w.addr))) :
    s.route w.addr = .through ∨ s.route w.addr = .own ∨ s.route w.addr = .unmapped := by
  unfold State.route
  dsimp only
  split_ifs with h1 h2 h3
  · exact .inl rfl
  · exact .inr (.inl rfl)
  · exact absurd h3 ((h.resolve_left h1).resolve_left h2).1
  · obtain ⟨-, hr⟩ := (h.resolve_left h1).resolve_left h2
    rw [State.roleAt_none hr]
    exact .inr (.inr rfl)

theorem State.route_broadcast (h : stationOf w.addr = 0) (ho : s.line.ownAddr ≠ 0) : s.route w.addr = .broadcast := by
  rw [State.route, h, if_neg (by decide), if_neg ho.symm, if_pos rfl]

variable {α : Type} {belongs : Role → Option α} (judge : Half → Item → α → State → Verdict)

theorem walkGated_pass (h : s.Walking f rest (itemOf kind w) more)
    (hr : s.route w.addr = .through ∨ s.route w.addr = .own ∨ s.route w.addr = .unmapped) :
    walkGated kind w belongs judge s = s.walkedOn f rest more (itemOf kind w) := by
  rw [walkGated, walkItem_next h]
  rcases hr with hr | hr | hr
  all_goals
    have hroute : s.route (itemOf kind w).addr = _ := hr
    simp only [gate, hroute]

theorem walkGated_broadcast (h : s.Walking f rest (itemOf kind w) more) (hr : s.route w.addr = .broadcast) :
    walkGated kind w belongs judge s = s.voidedOn f rest kind w more .badAddress := by
  have hroute : s.route (itemOf kind w).addr = .broadcast := hr
  rw [walkGated, walkItem_next h]
  simp only [gate, hroute]
  rfl

theorem walkGated_wrongRole (h : s.Walking f rest (itemOf kind w) more) {r : Role} (hr : s.RoleItem r w) (hb : belongs r = none) :
    walkGated kind w belongs judge s = s.voidedOn f rest kind w more .wrongRole := by
  have hroute : s.route (itemOf kind w).addr = .role r := State.route_role hr
  rw [walkGated, walkItem_next h]
  simp only [gate, hroute, hb]
  rfl

/-- R137: the items the address tests let through whatever their kind is for. -/
theorem passesUntouched_of (h : stationOf w.addr = 63 ∨
      (stationOf w.addr = s.line.ownAddr ∧ ¬(0x40 ≤ kind.toNat ∧ kind.toNat ≤ 0x7F)) ∨
      (stationOf w.addr ≠ s.line.ownAddr ∧ ¬(0x10 ≤ kind.toNat ∧ kind.toNat ≤ 0x17)) ∨
      (stationOf w.addr ≠ s.line.ownAddr ∧ stationOf w.addr ≠ 0 ∧ ∀ r, s.addrOf r ≠ some (stationOf w.addr))) :
    passesUntouched s (itemOf kind w) = true := by
  change (match s.route w.addr with
    | .through | .unmapped => true
    | .own => !Kind.isRequest kind
    | .broadcast | .role _ => !Kind.isGated kind) = true
  by_cases h63 : stationOf w.addr = 63
  · rw [State.route, if_pos h63]
  rcases h.resolve_left h63 with ⟨ho, hk⟩ | ⟨ho, hk⟩ | ⟨ho, h0, hr⟩
  · rw [State.route, if_neg h63, if_pos ho]
    simpa [Kind.isRequest, imp_iff_not_or] using hk
  · have hgated : (!Kind.isGated kind) = true := by simpa [Kind.isGated, imp_iff_not_or] using hk
    have hown := State.route_ne_own (s := s) (w := w) (.inr ho)
    generalize s.route w.addr = route at hown
    cases route with
    | through | unmapped => rfl
    | own => exact absurd rfl hown
    | broadcast | role => exact hgated
  · rw [State.route, if_neg h63, if_neg ho, if_neg h0, State.roleAt_none hr]

end Gated

/-- Settles O6: each gated row by its judge and roles, the others by `passesUntouched_of`. -/
theorem addressTestsJudgeTheGatedItems : Obligations.AddressTestsJudgeTheGatedItems := by
  refine ⟨fun c kind w s f rest more hw hc h => ?gated, fun kind w s f rest more h => ?pass⟩
  case gated =>
    obtain ⟨α, belongs, judge, hexec, hroles⟩ := exec_of_gatedItem hw hc
    rw [hexec]
    exact ⟨fun hp => congrArg Host.Outcome.next (walkGated_pass judge h (State.route_pass hp)),
      fun h0 ho => congrArg Host.Outcome.next (walkGated_broadcast judge h (State.route_broadcast h0 ho)),
      fun r hr hn => congrArg Host.Outcome.next (walkGated_wrongRole judge h hr (hroles r hn))⟩
  case pass =>
    intro a hp
    have hexec : exec (.itemPass kind w) s = .next (walkItem (itemOf kind w) (fun _ s => (s, itemOf kind w)) s) :=
      congrArg Host.Outcome.next (if_pos (passesUntouched_of hp))
    rw [hexec, walkItem_next h]

/-! ### Reports (R140, R170) -/

theorem jawsOfByte_of_le {b : Byte} (h : 2 ≤ b.toNat) : jawsOfByte b = none := by
  rw [jawsOfByte, if_neg (ne_of_le_toNat h (by decide)), if_neg (ne_of_le_toNat h (by decide))]

theorem workPosOfByte_of_le {b : Byte} (h : 3 ≤ b.toNat) : workPosOfByte b = none := by
  rw [workPosOfByte, if_neg (ne_of_le_toNat h (by decide)), if_neg (ne_of_le_toNat h (by decide)), if_neg (ne_of_le_toNat h (by decide))]

section Reports
variable {s : State} {f : UpFrame} {rest : List UpFrame} {kind : Byte} {w : Wire} {more : List Item}

/-- R140: every report row is taken by a record of a role it belongs to. -/
theorem exec_of_reportItem {c : Instr} {roles : List Role} (h : reportItem c = some (kind, w, roles)) :
    ∃ (α : Type) (belongs : Role → Option α) (take : α → Half → State → State),
      (∀ s, exec c s = .next (walkReport kind w belongs take s)) ∧ ∀ r, r ∉ roles → belongs r = none := by
  cases c
  case cutDone | laneState => cases h; exact ⟨_, Role.lane?, _, fun _ => rfl, fun _ => Role.lane?_eq_none⟩
  case gripState => cases h; exact ⟨_, Role.picker?, _, fun _ => rfl, fun _ => Role.picker?_eq_none⟩
  case tableState => cases h; exact ⟨_, Role.table?, _, fun _ => rfl, fun _ => Role.table?_eq_none⟩
  case bayState | placeDone => cases h; exact ⟨_, Role.elevator?, _, fun _ => rfl, fun _ => Role.elevator?_eq_none⟩
  all_goals cases h

theorem State.roleAt_bind_none {roles : List Role} {α : Type} {belongs : Role → Option α} (hb : ∀ r, r ∉ roles → belongs r = none)
    {a : Station} (h : ∀ r ∈ roles, s.addrOf r ≠ some a) : (s.roleAt a).bind belongs = none := by
  cases hr : s.roleAt a with
  | none => rfl
  | some r => exact hb r fun hmem => h r hmem (State.roleAt_some hr)

end Reports

/-- Settles O12: other stations' reports by the roles, undefined values by the byte that spells none. -/
theorem reportsThatAreNotTaken : Obligations.ReportsThatAreNotTaken := by
  refine ⟨fun c kind w roles s f rest more hc h hroles => ?other, fun w s f rest more => ?bad⟩
  case other =>
    obtain ⟨α, belongs, take, hexec, hb⟩ := exec_of_reportItem hc
    rw [hexec, walkReport_other h (State.roleAt_bind_none hb hroles)]
  case bad =>
    intro bad undefinedFlag
    have htaken {kind : Byte} {s' : State} (h : s' = badReport kind w s) : s'.reportedOn f rest more = bad kind := by rw [h]; rfl
    refine ⟨fun i hr h hf => ?lane, fun q hr h hf => ?grip, fun hr h hf => ?table, fun hr h hf => ?place⟩
    case lane =>
      refine congrArg Host.Outcome.next ((walkReport_role (kind := 0x21) (belongs := Role.lane?) h hr rfl (takeLaneState w)).trans (htaken ?_))
      rw [takeLaneState, Operand.reportFault, boolOfByte_of_one_lt hf]
      rfl
    case grip =>
      refine congrArg Host.Outcome.next ((walkReport_role (kind := 0x22) (belongs := Role.picker?) h hr rfl (takeGripState w)).trans (htaken ?_))
      rw [takeGripState, Operand.gripJaws, Operand.gripSensed]
      rcases hf with hf | hf
      · rw [jawsOfByte_of_le hf]
        rfl
      · rw [boolOfByte_of_one_lt hf]
        split
        · contradiction
        · rfl
    case table =>
      refine congrArg Host.Outcome.next ((walkReport_role (kind := 0x23) (belongs := Role.table?) h hr rfl (takeTableState w)).trans (htaken ?_))
      rw [takeTableState, Operand.position, workPosOfByte_of_le hf]
      rfl
    case place =>
      refine congrArg Host.Outcome.next ((walkReport_role (kind := 0x25) (belongs := Role.elevator?) h hr rfl (takePlaceDone w)).trans (htaken ?_))
      rw [takePlaceDone, Operand.placeSensed, boolOfByte_of_one_lt hf]
      rfl

end Sys2Proof.Machine

/-! The recipe store (chapter 1): opening, dropping and reading a slot, storing templates, and the checks that finish a recipe. -/

namespace Sys2Proof.Machine

section Slots
variable {s : State} {p : Payload} {i : SlotId}

/-! ### RECIPE-OPEN and RECIPE-DROP (R4, R11) -/

theorem openCountsOk_iff (boards tabs : Nat) : openCountsOk boards tabs = true ↔
    1 ≤ boards ∧ boards ≤ 64 ∧ 1 ≤ tabs ∧ tabs ≤ 256 ∧ boards ≤ tabs ∧ tabs ≤ 16 * boards := by
  simp [openCountsOk, and_assoc]

theorem requestRecipeOpen_locked (h : s.line.recipeLock = true) : requestRecipeOpen p s = refuse .locked s := if_pos h

theorem requestRecipeOpen_unnamed (hlock : s.line.recipeLock = false)
    (h : ¬(byteNat p 4 < 8 ∧ byteNat p 8 < 2 ∧ openCountsOk (byteNat p 5) (halfNat p 6) = true)) :
    requestRecipeOpen p s = refuse .badArgument s := by
  unfold requestRecipeOpen Operand.slot Operand.openOption
  rw [if_neg (by simp [hlock])]
  split
  next i suspect hi hs =>
    have hslot : byteNat p 4 < 8 := by
      by_contra hge
      rw [slotOfNat_of_le (Nat.not_lt.mp hge)] at hi
      cases hi
    have hoption : byteNat p 8 < 2 := by
      by_contra hge
      rw [boolOfByte_of_one_lt (Nat.lt_of_succ_le (Nat.not_lt.mp hge))] at hs
      cases hs
    exact if_pos (Bool.eq_false_iff.mpr fun hok => h ⟨hslot, hoption, hok⟩)
  next => rfl

theorem requestRecipeOpen_named (hi : byteNat p 4 = i.val) (hlock : s.line.recipeLock = false) (ho : byteNat p 8 < 2)
    (hok : openCountsOk (byteNat p 5) (halfNat p 6) = true) : requestRecipeOpen p s =
      if 0 < (s.recipe i).useCount then refuse .inUse s
      else if s.freeBoards + (s.recipe i).boards.length < byteNat p 5 ∨ s.freeTabs + (s.recipe i).tabs.length < halfNat p 6 then
        refuse .noSpace s
      else
        let s' := setRecipe i (RecipeSlot.opened (byteNat p 5) (halfNat p 6) (decide (byteNat p 8 = 1))) s
        (s', .done, poolFields s') := by
  have hoption : boolOfByte (payloadByte p 8) = some (decide (byteNat p 8 = 1)) := by
    rw [boolOfByte_of_le_one (Nat.le_of_lt_succ ho)]
    congr 2
    exact propext ⟨fun h => by rw [byteNat, h]; rfl, fun h => BitVec.eq_of_toNat_eq h⟩
  rw [requestRecipeOpen, if_neg (by simp [hlock]), Operand.slot, Operand.openOption, slotOfNat_eq hi, hoption]
  exact if_neg (by simp [Operand.openBoards, Operand.openTabs, hok])

theorem requestRecipeDrop_named (hi : byteNat p 4 = i.val) (hlock : s.line.recipeLock = false) : requestRecipeDrop p s =
    if 0 < (s.recipe i).useCount then refuse .inUse s
    else
      let s' := setRecipe i RecipeSlot.cleared s
      (s', .done, poolFields s') := by
  simp only [requestRecipeDrop, if_neg (by simp [hlock] : ¬s.line.recipeLock = true), Operand.slot, slotOfNat_eq hi]

/-! ### RECIPE-READ (R14) -/

/-- R7: the tabs that name a board, counted by their numbers. -/
theorem RecipeSlot.derivedTabs_eq (r : RecipeSlot) (board : Nat) : r.derivedTabs board = tabsNaming r board := by
  have hcount := length_filter_range r.tabs fun o => decide ((o.getD none).map TabTemplate.board = some board)
  simp only [tabsNaming, List.getD_eq_getElem?_getD, hcount, RecipeSlot.derivedTabs]
  refine List.countP_congr fun t _ => ?_
  cases t <;> simp

theorem requestRecipeRead_unnamed (h : 8 ≤ byteNat p 4 ∨ 3 ≤ byteNat p 5) : requestRecipeRead p s = refuse .badArgument s := by
  unfold requestRecipeRead Operand.slot
  rcases h with h | h
  · rw [slotOfNat_of_le h]
  · have hpart : 3 ≤ (Operand.part p).toNat := h
    split
    · rfl
    · dsimp only
      split
      next h0 => omega
      next h1 => omega
      next h2 => omega
      next => rfl

theorem requestRecipeRead_summary (hi : byteNat p 4 = i.val) (hp : byteNat p 5 = 0) :
    requestRecipeRead p s = (s, .done, recipeSummary s (s.recipe i)) := by
  have hpart : (Operand.part p).toNat = 0 := hp
  simp only [requestRecipeRead, Operand.slot, slotOfNat_eq hi, hpart]

theorem requestRecipeRead_board (hi : byteNat p 4 = i.val) (hp : byteNat p 5 = 1) : requestRecipeRead p s =
    if byteNat p 6 < (s.recipe i).boards.length then (s, .done, recipeBoardFields (s.recipe i) (byteNat p 6)) else refuse .badArgument s := by
  have hpart : (Operand.part p).toNat = 1 := hp
  simp only [requestRecipeRead, Operand.slot, slotOfNat_eq hi, hpart]
  rfl

theorem requestRecipeRead_tab (hi : byteNat p 4 = i.val) (hp : byteNat p 5 = 2) : requestRecipeRead p s =
    if byteNat p 6 < (s.recipe i).tabs.length then (s, .done, recipeTabFields (s.recipe i) (byteNat p 6)) else refuse .badArgument s := by
  have hpart : (Operand.part p).toNat = 2 := hp
  simp only [requestRecipeRead, Operand.slot, slotOfNat_eq hi, hpart]
  rfl

end Slots

/-- Settles O39: the two changes by the slot they name and its uses, the read part by part. -/
theorem recipeOpenDropAndRead : Obligations.RecipeOpenDropAndRead := by
  refine ⟨fun w s f rest more h => ?opening, fun w s f rest more => ?others⟩
  case opening =>
    intro p boards tabs answer allowed
    have hallowed : (byteNat p 4 < 8 ∧ byteNat p 8 < 2 ∧ openCountsOk (byteNat p 5) (halfNat p 6) = true) ↔ allowed := by
      rw [openCountsOk_iff]
    refine ⟨fun hlock => h.next (requestRecipeOpen_locked hlock),
      fun hlock hbad => h.next (requestRecipeOpen_unnamed hlock (mt hallowed.mp hbad)), fun i hi hlock hok => ?_⟩
    intro r fits s'
    obtain ⟨-, ho, hcounts⟩ := hallowed.mpr hok
    have hreq := requestRecipeOpen_named hi hlock ho hcounts
    have hroom : (s.freeBoards + r.boards.length < boards ∨ s.freeTabs + r.tabs.length < tabs) ↔ ¬fits := by
      rw [not_and_or, not_le, not_le]
    refine ⟨fun hu => h.next (hreq.trans (if_pos hu)), fun hu hf => h.next (hreq.trans ?full), fun hu hf => h.next (hreq.trans ?opens)⟩
    case full => rw [if_neg (Nat.not_lt.mpr hu.le)]; exact if_pos (hroom.mpr hf)
    case opens => rw [if_neg (Nat.not_lt.mpr hu.le), if_neg (mt hroom.mp (not_not.mpr hf))]; rfl
  case others =>
    intro p pools
    refine ⟨fun h => ?drop, fun h => ?read⟩
    case drop =>
      refine ⟨fun hlock => h.next (if_pos hlock), fun hlock hbad => h.next ?unnamed, fun i hi hlock => ?named⟩
      case unnamed =>
        rw [requestRecipeDrop, if_neg (by simp [hlock]), Operand.slot, slotOfNat_of_le hbad]
        rfl
      case named =>
        have hreq := requestRecipeDrop_named hi hlock
        exact ⟨fun hu => h.next (hreq.trans (if_pos hu)), fun hu => h.next (hreq.trans (if_neg (Nat.not_lt.mpr hu.le)))⟩
    case read =>
      refine ⟨fun hbad => h.next (requestRecipeRead_unnamed hbad), fun i hi => ?_⟩
      intro r k
      refine ⟨fun hp => h.next ((requestRecipeRead_summary hi hp).trans ?summary),
        fun hp hk => h.next ((requestRecipeRead_board hi hp).trans (if_neg (Nat.not_lt.mpr hk))),
        fun hp hk => h.next ((requestRecipeRead_board hi hp).trans ((if_pos hk).trans ?board)),
        fun hp hk => h.next ((requestRecipeRead_tab hi hp).trans (if_neg (Nat.not_lt.mpr hk))),
        fun hp hk => h.next ((requestRecipeRead_tab hi hp).trans ((if_pos hk).trans ?tab))⟩
      case summary =>
        simp only [recipeSummary, List.countP_eq_length_filter]
        rfl
      case board =>
        rw [recipeBoardFields, RecipeSlot.derivedTabs_eq]
        cases r.boards.getD k none <;> rfl
      case tab =>
        rw [recipeTabFields]
        cases r.tabs.getD k none <;> rfl

end Sys2Proof.Machine

/-! The recipe store (chapter 1): storing templates (sections 1.4 and 1.5), and the checks that finish a recipe (section 1.6). -/

namespace Sys2Proof.Machine

/-! ### Templates stored one after the other (R6, R8) -/

section Stored
variable {α β : Type}

/-- What writes to a list of positions leave at one of them: the last value written there, or what stood there before. -/
def lastWritten (place : α → Nat) (value : α → β) (ts : List α) (l : List (Option β)) (k : Nat) : Option β :=
  ((ts.reverse.find? fun t => place t == k).map fun t => some (value t)).getD (l.getD k none)

theorem foldl_set_eq (place : α → Nat) (value : α → β) (ts : List α) (l : List (Option β)) :
    ts.foldl (fun l t => l.set (place t) (some (value t))) l = (List.range l.length).map (lastWritten place value ts l) := by
  induction ts using List.reverseRecOn with
  | nil =>
    refine List.ext_getElem (by simp) fun k h1 h2 => ?_
    have hk : k < l.length := h1
    simp [lastWritten, List.getD_eq_getElem?_getD, List.getElem?_eq_getElem hk]
  | append_singleton ts t ih =>
    rw [List.foldl_append, ih]
    refine List.ext_getElem (by simp) fun k h1 h2 => ?_
    simp only [List.foldl_cons, List.foldl_nil, List.getElem_set, List.getElem_map, List.getElem_range, lastWritten,
      List.reverse_append, List.reverse_singleton, List.singleton_append, List.find?_cons]
    by_cases hk : place t = k
    · simp [hk]
    · simp [beq_false_of_ne hk, hk]

theorem doneOr_any (ts : List α) (P : α → Bool) (Q : α → Prop) [DecidablePred Q] (h : ∀ t, P t = false ↔ Q t) :
    doneOr (ts.any P) = if ∀ t ∈ ts, Q t then .done else .clamped := by
  by_cases hall : ∀ t ∈ ts, Q t
  · have hnone : ts.any P = false := List.any_eq_false.mpr fun t ht => by simp [(h t).mpr (hall t ht)]
    rw [if_pos hall, hnone]
    rfl
  · have hsome : ts.any P = true := by
      by_contra hno
      refine hall fun t ht => (h t).mp ?_
      simpa using List.any_eq_false.mp (Bool.eq_false_iff.mpr hno) t ht
    rw [if_neg hall, hsome]
    rfl

end Stored

section Packed
variable {s : State} {p : Payload} {i : SlotId} {r : RecipeSlot}

theorem packedSlot_eq (p : Payload) : Operand.packedSlot p = slotOfNat (byteNat p 4 % 16) := by
  simp only [Operand.packedSlot, byteNat, payloadByte, BitVec.extractLsb'_toNat, Nat.shiftRight_zero]
  congr 1
  omega

theorem packedCount_eq (p : Payload) : Operand.packedCount p = byteNat p 4 / 16 % 8 := by
  simp only [Operand.packedCount, byteNat, payloadByte, BitVec.extractLsb'_toNat, Nat.shiftRight_eq_div_pow]
  norm_num
  omega

theorem foldl_putBoard (ts : List RawBoard) (r : RecipeSlot) : ts.foldl RecipeSlot.putBoard r = { r with
    boards := (List.range r.boards.length).map (lastWritten RawBoard.index
      (fun t => { variant := t.variant, height := within 5 400 t.height, hold := t.hold }) ts r.boards) } := by
  rw [← foldl_set_eq]
  induction ts generalizing r with
  | nil => rfl
  | cons t ts ih =>
    rw [List.foldl_cons, ih, List.foldl_cons, ← clampTo_eq_within (by decide)]
    rfl

theorem foldl_putTab (ts : List RawTab) (r : RecipeSlot) : ts.foldl RecipeSlot.putTab r = { r with
    tabs := (List.range r.tabs.length).map (lastWritten RawTab.number
      (fun t => { board := t.board, cap := if t.cap = 0 then none else some (min t.cap 200) }) ts r.tabs) } := by
  rw [← foldl_set_eq]
  induction ts generalizing r with
  | nil => rfl
  | cons t ts ih =>
    rw [List.foldl_cons, ih, List.foldl_cons]
    rfl

/-! ### RECIPE-BOARDS (R5, R6) -/

/-- R5: the variant and the hold threshold of a board template are in range. -/
def RawBoard.Named (t : RawBoard) : Prop := t.variant ≠ 0 ∧ 1 ≤ t.hold ∧ t.hold ≤ 4

theorem boardOk_iff (r : RecipeSlot) (t : RawBoard) : boardOk r t = true ↔ t.Named ∧ (r.state = .building → t.index < r.boards.length) := by
  simp [boardOk, RawBoard.Named, and_assoc, imp_iff_not_or]

theorem rawBoards_eq (h : byteNat p 4 / 16 % 8 ≤ 3) : rawBoards p = (List.range (byteNat p 4 / 16 % 8)).map (rawBoard p) := by
  rw [rawBoards, packedCount_eq, Nat.min_eq_right h]

theorem requestRecipeBoards_named (hi : byteNat p 4 % 16 = i.val) (hlock : s.line.recipeLock = false)
    (h1 : 1 ≤ byteNat p 4 / 16 % 8) (h3 : byteNat p 4 / 16 % 8 ≤ 3) {ts : List RawBoard}
    (hts : (List.range (byteNat p 4 / 16 % 8)).map (rawBoard p) = ts) : requestRecipeBoards p s =
      if ts.all (boardOk (s.recipe i)) = false then refuse .badArgument s
      else if (s.recipe i).state ≠ .building then refuse .state s
      else (setRecipe i (ts.foldl RecipeSlot.putBoard (s.recipe i)) s, doneOr (ts.any fun t => storedHeight t.height != t.height), []) := by
  have hraw : rawBoards p = ts := (rawBoards_eq h3).trans hts
  have hcount : ¬(byteNat p 4 / 16 % 8 < 1) ∧ ¬(3 < byteNat p 4 / 16 % 8) := by omega
  simp only [requestRecipeBoards, if_neg (by simp [hlock] : ¬s.line.recipeLock = true), packedSlot_eq, slotOfNat_eq hi, packedCount_eq,
    hcount, false_or, hraw]

theorem requestRecipeBoards_unnamed (hlock : s.line.recipeLock = false)
    (h : ¬(byteNat p 4 % 16 < 8 ∧ 1 ≤ byteNat p 4 / 16 % 8 ∧ byteNat p 4 / 16 % 8 ≤ 3 ∧
      ∀ t ∈ (List.range (byteNat p 4 / 16 % 8)).map (rawBoard p), t.Named)) :
    requestRecipeBoards p s = refuse .badArgument s := by
  unfold requestRecipeBoards
  rw [if_neg (by simp [hlock]), packedSlot_eq]
  split
  next => rfl
  next i hi =>
    refine if_pos ?_
    rw [packedCount_eq]
    by_contra hok
    simp only [not_or, Nat.not_lt, Bool.not_eq_false] at hok
    obtain ⟨h1, h3, hall⟩ := hok
    have hslot : byteNat p 4 % 16 < 8 := by
      by_contra hge
      rw [slotOfNat_of_le (Nat.not_lt.mp hge)] at hi
      cases hi
    refine h ⟨hslot, h1, h3, fun t ht => ?_⟩
    rw [← rawBoards_eq h3] at ht
    exact ((boardOk_iff _ t).mp (List.all_eq_true.mp hall t ht)).1

/-! ### RECIPE-TABS (R7, R8) -/

theorem tabOk_iff (r : RecipeSlot) (t : RawTab) : tabOk r t = true ↔
    (r.state = .building → t.number < r.tabs.length ∧ t.board < r.boards.length) := by
  simp [tabOk, imp_iff_not_or]

theorem rawTabs_eq (h : byteNat p 4 / 16 % 8 ≤ 4) : rawTabs p = (List.range (byteNat p 4 / 16 % 8)).map (rawTab p) := by
  rw [rawTabs, packedCount_eq, Nat.min_eq_right h]

theorem requestRecipeTabs_named (hi : byteNat p 4 % 16 = i.val) (hlock : s.line.recipeLock = false)
    (h1 : 1 ≤ byteNat p 4 / 16 % 8) (h4 : byteNat p 4 / 16 % 8 ≤ 4) {ts : List RawTab}
    (hts : (List.range (byteNat p 4 / 16 % 8)).map (rawTab p) = ts) : requestRecipeTabs p s =
      if ts.all (tabOk (s.recipe i)) = false then refuse .badArgument s
      else if (s.recipe i).state ≠ .building then refuse .state s
      else (setRecipe i (ts.foldl RecipeSlot.putTab (s.recipe i)) s, doneOr (ts.any fun t => decide (200 < t.cap)), []) := by
  have hraw : rawTabs p = ts := (rawTabs_eq h4).trans hts
  have hcount : ¬(byteNat p 4 / 16 % 8 < 1) ∧ ¬(4 < byteNat p 4 / 16 % 8) := by omega
  simp only [requestRecipeTabs, if_neg (by simp [hlock] : ¬s.line.recipeLock = true), packedSlot_eq, slotOfNat_eq hi, packedCount_eq,
    hcount, false_or, hraw]

theorem requestRecipeTabs_unnamed (hlock : s.line.recipeLock = false)
    (h : ¬(byteNat p 4 % 16 < 8 ∧ 1 ≤ byteNat p 4 / 16 % 8 ∧ byteNat p 4 / 16 % 8 ≤ 4)) :
    requestRecipeTabs p s = refuse .badArgument s := by
  unfold requestRecipeTabs
  rw [if_neg (by simp [hlock]), packedSlot_eq]
  split
  next => rfl
  next i hi =>
    refine if_pos ?_
    rw [packedCount_eq]
    by_contra hok
    simp only [not_or, Nat.not_lt] at hok
    obtain ⟨h1, h4, -⟩ := hok
    have hslot : byteNat p 4 % 16 < 8 := by
      by_contra hge
      rw [slotOfNat_of_le (Nat.not_lt.mp hge)] at hi
      cases hi
    exact h ⟨hslot, h1, h4⟩

end Packed

/-- Settles O40: the slot and the count, then the templates one by one, then what the writes leave (`foldl_set_eq`). -/
theorem recipeTemplatesAreStored : Obligations.RecipeTemplatesAreStored := by
  refine ⟨fun w s f rest more h => ?boards, fun w s f rest more h => ?tabs⟩
  case boards =>
    intro p count ts answer wellNamed
    refine ⟨fun hlock => h.next (if_pos hlock), fun hlock hbad => h.next (requestRecipeBoards_unnamed hlock hbad), fun i hi hlock hok => ?_⟩
    obtain ⟨-, h1, h3, hnamed⟩ := hok
    intro r inside stored
    have hreq := requestRecipeBoards_named hi hlock h1 h3 (ts := ts) rfl
    refine ⟨fun hst => h.next (hreq.trans ?state), fun hst hout => h.next (hreq.trans ?outside), fun hst hin => h.next (hreq.trans ?stores)⟩
    case state =>
      have hall : ts.all (boardOk r) = true := List.all_eq_true.mpr fun t ht =>
        (boardOk_iff r t).mpr ⟨hnamed t ht, fun hb => absurd hb hst⟩
      rw [if_neg (fun hf => Bool.noConfusion (hall.symm.trans hf))]
      exact if_pos hst
    case outside =>
      refine if_pos (Bool.eq_false_iff.mpr fun hall => hout fun t ht => ?_)
      exact ((boardOk_iff r t).mp (List.all_eq_true.mp hall t ht)).2 hst
    case stores =>
      have hall : ts.all (boardOk r) = true := List.all_eq_true.mpr fun t ht =>
        (boardOk_iff r t).mpr ⟨hnamed t ht, fun _ => hin t ht⟩
      have hstored : stored = lastWritten RawBoard.index
          (fun t => { variant := t.variant, height := within 5 400 t.height, hold := t.hold }) ts r.boards := by
        funext k
        simp only [stored, lastWritten]
        cases ts.reverse.find? fun t => t.index == k <;> rfl
      have hclamp (t : RawBoard) : (storedHeight t.height != t.height) = false ↔ 5 ≤ t.height ∧ t.height ≤ 400 := by
        rw [bne_eq_false_iff_eq, storedHeight, clampTo]
        omega
      rw [if_neg (fun hf => Bool.noConfusion (hall.symm.trans hf)), if_neg (not_not.mpr hst), foldl_putBoard, hstored, doneOr_any _ _ _ hclamp]
  case tabs =>
    intro p count ts answer wellNamed
    refine ⟨fun hlock => h.next (if_pos hlock), fun hlock hbad => h.next (requestRecipeTabs_unnamed hlock hbad), fun i hi hlock hok => ?_⟩
    obtain ⟨-, h1, h4⟩ := hok
    intro r inside stored
    have hreq := requestRecipeTabs_named hi hlock h1 h4 (ts := ts) rfl
    refine ⟨fun hst => h.next (hreq.trans ?state), fun hst hout => h.next (hreq.trans ?outside), fun hst hin => h.next (hreq.trans ?stores)⟩
    case state =>
      have hall : ts.all (tabOk r) = true := List.all_eq_true.mpr fun t ht => (tabOk_iff r t).mpr fun hb => absurd hb hst
      rw [if_neg (fun hf => Bool.noConfusion (hall.symm.trans hf))]
      exact if_pos hst
    case outside =>
      refine if_pos (Bool.eq_false_iff.mpr fun hall => hout fun t ht => ?_)
      exact (tabOk_iff r t).mp (List.all_eq_true.mp hall t ht) hst
    case stores =>
      have hall : ts.all (tabOk r) = true := List.all_eq_true.mpr fun t ht => (tabOk_iff r t).mpr fun _ => hin t ht
      have hstored : stored = lastWritten RawTab.number
          (fun t => { board := t.board, cap := if t.cap = 0 then none else some (min t.cap 200) }) ts r.tabs := by
        funext k
        simp only [stored, lastWritten]
        cases ts.reverse.find? fun t => t.number == k <;> rfl
      have hcap (t : RawTab) : decide (200 < t.cap) = false ↔ t.cap ≤ 200 := by
        rw [decide_eq_false_iff_not, Nat.not_lt]
      rw [if_neg (fun hf => Bool.noConfusion (hall.symm.trans hf)), if_neg (not_not.mpr hst), foldl_putTab, hstored, doneOr_any _ _ _ hcap]

end Sys2Proof.Machine

/-! RECIPE-FINISH (section 1.6): the four checks in their order. -/

namespace Sys2Proof.Machine

/-- R9: how many indexes a check judges. -/
def RecipeSlot.judged (r : RecipeSlot) : RecipeCheck → Nat
  | .tabMissing => r.tabs.length
  | _ => r.boards.length

section Finish
variable {r : RecipeSlot} {c : RecipeCheck} {k : Nat}

theorem RecipeSlot.judged_le (r : RecipeSlot) (c : RecipeCheck) : r.judged c ≤ r.boards.length + r.tabs.length := by
  cases c with
  | tabMissing => exact Nat.le_add_left ..
  | boardMissing | tabCount | holdThreshold => exact Nat.le_add_right ..

/-- R9: an index out of range fails no check. -/
theorem failsCheck_of_le (h : r.judged c ≤ k) : failsCheck r c.code.toNat k = false := by
  cases c <;> exact Bool.and_eq_false_iff.mpr (.inl (decide_eq_false (Nat.not_lt.mpr h)))

/-- R9: the index a check reports is the lowest that fails it. -/
theorem RecipeSlot.failing_eq (r : RecipeSlot) (c : RecipeCheck) :
    r.failing c = (List.range (r.judged c)).find? (failsCheck r c.code.toNat) := by
  have hrange {k : Nat} (hk : k ∈ List.range (r.judged c)) : decide (k < r.judged c) = true := decide_eq_true (List.mem_range.mp hk)
  cases c with
  | boardMissing | tabMissing =>
    refine List.find?_congr fun k hk => ?_
    exact (congrArg (· && _) (hrange hk)).symm
  | tabCount =>
    refine List.find?_congr fun k hk => ?_
    have hzero : decide (tabsNaming r k = 0) = decide (tabsNaming r k < 1) := decide_eq_decide.mpr Nat.lt_one_iff.symm
    rw [RecipeSlot.derivedTabs_eq, hzero]
    exact (congrArg (· && _) (hrange hk)).symm
  | holdThreshold =>
    refine List.find?_congr fun k hk => ?_
    rw [RecipeSlot.derivedTabs_eq]
    refine Eq.trans ?_ (congrArg (· && (r.boards.getD k none).any fun t => decide (tabsNaming r k < t.hold)) (hrange hk)).symm
    cases r.boards.getD k none <;> rfl

theorem RecipeSlot.failing_eq_some (hk : failsCheck r c.code.toNat k = true) (hlow : ∀ j < k, failsCheck r c.code.toNat j = false) :
    r.failing c = some k := by
  rw [RecipeSlot.failing_eq, List.find?_range_eq_some]
  refine ⟨hk, List.mem_range.mpr ?_, fun j hj => by simp [hlow j hj]⟩
  by_contra hge
  simp [failsCheck_of_le (Nat.not_lt.mp hge)] at hk

theorem RecipeSlot.failing_eq_none (h : ∀ j < r.boards.length + r.tabs.length, failsCheck r c.code.toNat j = false) : r.failing c = none := by
  rw [RecipeSlot.failing_eq, List.find?_range_eq_none]
  exact fun j hj => by simp [h j (hj.trans_le (r.judged_le c))]

/-- R9: the checks are taken in the order of their codes. -/
theorem RecipeSlot.firstFault_eq_some (hk : r.failing c = some k) (hbefore : ∀ d : RecipeCheck, d.code.toNat < c.code.toNat → r.failing d = none) :
    r.firstFault = some (c, k) := by
  cases c with
  | boardMissing => simp [firstFault, hk]
  | tabMissing => simp [firstFault, hk, hbefore .boardMissing (by decide)]
  | tabCount => simp [firstFault, hk, hbefore .boardMissing (by decide), hbefore .tabMissing (by decide)]
  | holdThreshold =>
    simp [firstFault, hk, hbefore .boardMissing (by decide), hbefore .tabMissing (by decide), hbefore .tabCount (by decide)]

theorem RecipeSlot.firstFault_eq_none (h : ∀ c, r.failing c = none) : r.firstFault = none := by simp [firstFault, h]

theorem RecipeCheck.exists_code {n : Nat} (h : n < 4) : ∃ c : RecipeCheck, c.code.toNat = n := by
  interval_cases n
  exacts [⟨.boardMissing, rfl⟩, ⟨.tabMissing, rfl⟩, ⟨.tabCount, rfl⟩, ⟨.holdThreshold, rfl⟩]

theorem RecipeCheck.code_lt (c : RecipeCheck) : c.code.toNat < 4 := by cases c <;> decide

theorem RecipeSlot.tabListOf_eq (r : RecipeSlot) (b : Nat) : r.tabListOf b = (List.range r.tabs.length).filter fun t =>
    decide ((r.tabs.getD t none).map TabTemplate.board = some b) := by
  refine List.filter_congr fun t _ => ?_
  cases r.tabs.getD t none <;> simp

theorem requestRecipeFinish_named {s : State} {p : Payload} {i : SlotId} (hi : byteNat p 4 = i.val) (hlock : s.line.recipeLock = false) :
    requestRecipeFinish p s =
      if (s.recipe i).state ≠ .building then refuse .state s
      else ((s.recipe i).firstFault.map fun x => (s, (.inconsistent, [x.1.code] ++ leBytes 1 x.2))).getD
        (setRecipe i (s.recipe i).finished s, (.done, [])) := by
  simp only [requestRecipeFinish, if_neg (by simp [hlock] : ¬s.line.recipeLock = true), Operand.slot, slotOfNat_eq hi]
  cases (s.recipe i).firstFault <;> rfl

end Finish

/-- Settles O41: the first check that fails by `RecipeSlot.firstFault_eq_some`, and the finished slot when none does. -/
theorem recipeFinishChecksInOrder : Obligations.RecipeFinishChecksInOrder := by
  intro w s f rest more h p answer
  refine ⟨fun hlock => h.next (if_pos hlock), fun hlock hbad => h.next ?unnamed, fun i hi hlock => ?named⟩
  case unnamed =>
    rw [requestRecipeFinish, if_neg (by simp [hlock]), Operand.slot, slotOfNat_of_le hbad]
    rfl
  case named =>
    intro r last lists
    have hreq := requestRecipeFinish_named hi hlock
    refine ⟨fun hst => h.next (hreq.trans (if_pos hst)), fun hst check hc k hk hfail hlow hbefore => h.next (hreq.trans ?fault),
      fun hst hnone => h.next (hreq.trans ?finish)⟩
    case fault =>
      obtain ⟨c, rfl⟩ := RecipeCheck.exists_code hc
      have hfault : r.firstFault = some (c, k) := RecipeSlot.firstFault_eq_some (RecipeSlot.failing_eq_some hfail hlow)
        fun d hd => RecipeSlot.failing_eq_none (hbefore _ hd)
      rw [if_neg (not_not.mpr hst), hfault]
      simp only [BitVec.ofNat_toNat]
      rfl
    case finish =>
      have hfault : r.firstFault = none := RecipeSlot.firstFault_eq_none fun c => RecipeSlot.failing_eq_none (hnone _ c.code_lt)
      have hlists : (List.range r.boards.length).map r.tabListOf = lists := List.map_congr_left fun b _ => r.tabListOf_eq b
      rw [if_neg (not_not.mpr hst), hfault, ← hlists]
      rfl

end Sys2Proof.Machine

/-! The nest records and the table (chapter 2): loading, unloading, clearing, and the reports of the table. -/

namespace Sys2Proof.Machine

section Loading
variable {s : State} {p : Payload} {n : Nest} {i : SlotId} {r : RecipeSlot}

/-! ### NEST-LOAD (R21, R22) -/

theorem map_some_filterMap {α : Type} {l : List (Option α)} (h : ∀ x ∈ l, x.isSome = true) : (l.filterMap id).map some = l := by
  induction l with
  | nil => rfl
  | cons x l ih =>
    obtain ⟨a, rfl⟩ := Option.isSome_iff_exists.mp (h x (List.mem_cons_self ..))
    rw [List.filterMap_cons_some (by rfl), List.map_cons, ih fun y hy => h y (List.mem_cons_of_mem _ hy)]

/-- R22: a board record for each board template. -/
theorem loadBoards_eq (h : ∀ b ∈ r.boards, b.isSome = true) (marked : Nat → Bool) : loadBoards r marked =
    (r.boards.filterMap id).mapIdx fun k t =>
      { state := .attached, uncut := (r.tabLists.getD k []).length, hold := t.hold, variant := t.variant, height := t.height,
        tabs := r.tabLists.getD k [], bad := marked k, suspect := false, picker := none, dest := none, freedAt := none, placedAt := none } := by
  have hboards := map_some_filterMap h
  generalize r.boards.filterMap id = ts at hboards ⊢
  rw [loadBoards, ← hboards]
  refine List.ext_getElem (by simp) fun k h1 h2 => ?_
  simp only [List.length_map, List.length_range, List.length_mapIdx] at h1 h2
  simp [List.getD_eq_getElem?_getD, h2]

/-- R22: a tab record for each tab template. -/
theorem loadTabs_eq (h : ∀ t ∈ r.tabs, t.isSome = true) : loadTabs r = (r.tabs.filterMap id).map fun t =>
    { board := t.board, state := .intact, lane := none, cutAt := none, faults := 0 } := by
  have htabs := map_some_filterMap h
  generalize r.tabs.filterMap id = ts at htabs ⊢
  rw [loadTabs, ← htabs, List.map_map]
  rfl

theorem loadBoards_bad (r : RecipeSlot) (marked : Nat → Bool) :
    ((loadBoards r marked).countP fun b => b.bad) = ((List.range r.boards.length).filter marked).length := by
  rw [loadBoards, List.countP_map, List.countP_eq_length_filter]
  rfl

theorem loadMarked_eq (p : Payload) : Operand.loadMarked p = fun k => decide (k < 64) && p.getLsbD (32 + k) := by
  funext k
  rw [Operand.loadMarked, BitVec.getLsbD_extractLsb']
  by_cases hk : k < 64 <;> simp [hk]

theorem requestNestLoad_unnamed (h : 2 ≤ byteNat p 4 ∨ 8 ≤ byteNat p 5) : requestNestLoad p s = refuse .badArgument s := by
  unfold requestNestLoad Operand.nestNamed Operand.loadSlot
  rcases h with h | h
  · rw [nestOfByte_of_le h]
  · rw [slotOfNat_of_le h]
    split
    · contradiction
    · rfl

theorem requestNestLoad_named (hn : payloadByte p 4 = nestCode n) (hi : byteNat p 5 = i.val) : requestNestLoad p s =
    if (s.nest n).state ≠ .empty then refuse .state s
    else if (s.recipe i).state ≠ .ready then refuse .state s
    else
      (setRecipe i { s.recipe i with useCount := (s.recipe i).useCount + 1 } (setNest n { s.nest n with
          state := .loaded, vacuumFlag := false, slot := i, serial := payloadHalf p 6,
          boards := loadBoards (s.recipe i) (Operand.loadMarked p), tabs := loadTabs (s.recipe i), lowRun := none } s),
        .done, leBytes 1 (s.recipe i).boards.length ++ leBytes 2 (s.recipe i).tabs.length ++
          leBytes 1 ((loadBoards (s.recipe i) (Operand.loadMarked p)).countP fun b => b.bad)) := by
  simp only [requestNestLoad, Operand.nestNamed, Operand.loadSlot, hn, nestOfByte_code, slotOfNat_eq hi]
  rfl

end Loading

/-- Settles O42: the two names, the two states, then the records by `loadBoards_eq` and `loadTabs_eq`. -/
theorem nestLoadBuildsTheRecords : Obligations.NestLoadBuildsTheRecords := by
  intro w s f rest more h p answer
  refine ⟨fun hbad => h.next (requestNestLoad_unnamed hbad), fun n i hn hi => ?_⟩
  intro r
  have hreq := requestNestLoad_named (s := s) hn hi
  refine ⟨fun hst => h.next (hreq.trans ?refused), fun he hready hboards htabs => ?loads⟩
  case refused =>
    rcases hst with hst | hst
    · exact if_pos hst
    · rw [if_pos hst]
      exact ite_self _
  case loads =>
    intro marked boards tabs s1 s2
    refine h.next (hreq.trans ?_)
    have hnest : { s.nest n with
        state := .loaded, vacuumFlag := false, slot := i, serial := payloadHalf p 6,
        boards := loadBoards (s.recipe i) (Operand.loadMarked p), tabs := loadTabs (s.recipe i), lowRun := none } =
        ({ state := .loaded, vacuumFlag := false, slot := i, serial := payloadHalf p 6, boards := boards, tabs := tabs,
           lastVacuum := (s.nest n).lastVacuum, lowRun := none } : NestRec) := by
      rw [loadBoards_eq hboards, loadTabs_eq htabs, loadMarked_eq]
    rw [if_neg (not_not.mpr he), if_neg (not_not.mpr hready), hnest, loadBoards_bad, loadMarked_eq]

/-! ### NEST-UNLOAD, NEST-CLEAR and the last board (R23 to R25, R32) -/

section Ends
variable {s : State} {p : Payload} {n : Nest} {tag : Half}

theorem NestRec.mayUnload_iff (r : NestRec) : r.mayUnload = true ↔
    (∀ b ∈ r.boards, b.state ≠ .held ∧ b.state ≠ .freed ∧ b.state ≠ .inTransit ∧ b.state ≠ .placing ∧ b.picker = none) ∧
      ∀ t ∈ r.tabs, t.state ≠ .cutting := by
  simp [NestRec.mayUnload, and_assoc]

theorem requestNestUnload_named (hn : payloadByte p 4 = nestCode n) : requestNestUnload p s =
    if (s.nest n).state = .empty then refuse .state s
    else if (s.nest n).state = .loaded ∧ (s.nest n).mayUnload = false then refuse .state s
    else
      (setNest n (s.nest n).unloaded (modRecipe (s.nest n).slot (fun x => { x with useCount := x.useCount - 1 }) s),
        .done, leBytes 1 ((s.nest n).tally .attached)) := by
  simp only [requestNestUnload, Operand.nestNamed, hn, nestOfByte_code]

theorem State.vacuumBack_iff (s : State) (n : Nest) : s.vacuumBack n = true ↔ ∃ v ∈ (s.nest n).lastVacuum, s.timing.vacLimit.get n ≤ v := by
  unfold State.vacuumBack
  cases (s.nest n).lastVacuum <;> simp

theorem requestNestClear_named (hn : payloadByte p 4 = nestCode n) : requestNestClear p s =
    if (s.nest n).vacuumFlag = false then (s, .done, [])
    else if s.vacuumBack n then (modNest n (fun r => { r with vacuumFlag := false }) s, .done, [])
    else refuse .state s := by
  simp only [requestNestClear, Operand.nestNamed, hn, nestOfByte_code]

/-- R23: every board has reached an end, so the three counts are all there are. -/
theorem NestRec.tally_sum {bs : List BoardRec} (h : ∀ b ∈ bs, b.state.terminal = true) :
    (bs.countP fun b => decide (b.state = .stacked)) + (bs.countP fun b => decide (b.state = .rejected)) +
      (bs.countP fun b => decide (b.state = .lost)) = bs.length := by
  induction bs with
  | nil => rfl
  | cons b bs ih =>
    have hrest := ih fun x hx => h x (List.mem_cons_of_mem _ hx)
    have hb := h b (List.mem_cons_self ..)
    rw [BoardState.terminal_eq, decide_eq_true_eq] at hb
    simp only [List.countP_cons, List.length_cons]
    rcases hb with hb | hb | hb <;> simp only [hb, decide_true, decide_false, reduceCtorEq, if_true, if_false, Bool.false_eq_true] <;> omega

theorem NestRec.all_terminal_iff (r : NestRec) : (r.boards.all fun b => b.state.terminal) = true ↔
    ∀ b ∈ r.boards, b.state = .stacked ∨ b.state = .rejected ∨ b.state = .lost := by
  simp [List.all_eq_true, BoardState.terminal_eq]

end Ends

/-- Settles O43: each request by the state of its nest, the clearing by its two conditions. -/
theorem nestsAreGivenUpAndCleared : Obligations.NestsAreGivenUpAndCleared := by
  refine ⟨fun w s f rest more => ⟨fun h => ?unload, fun h => ?clear⟩, fun tag n s => ?settles⟩
  case unload =>
    refine ⟨fun hbad => h.next ?unnamed, fun n hn => ?named⟩
    case unnamed =>
      rw [requestNestUnload, Operand.nestNamed, nestOfByte_of_le hbad]
      rfl
    case named =>
      intro r free s1 s2
      have hreq := requestNestUnload_named (s := s) hn
      have hfree : r.mayUnload = true ↔ free := r.mayUnload_iff
      refine ⟨fun hst => h.next (hreq.trans ?refused), fun hst => h.next (hreq.trans ?unloads)⟩
      case refused =>
        rcases hst with hst | ⟨hst, hno⟩
        · exact if_pos hst
        · rw [if_neg (by simp [r, hst] : ¬(s.nest n).state = .empty)]
          exact if_pos ⟨hst, Bool.eq_false_iff.mpr (mt hfree.mp hno)⟩
      case unloads =>
        have hne : ¬r.state = .empty := by rcases hst with hst | ⟨hst, -⟩ <;> simp [hst]
        have hmay : ¬(r.state = .loaded ∧ r.mayUnload = false) := by
          rcases hst with hst | ⟨-, hok⟩
          · simp [hst]
          · simp [hfree.mpr hok]
        rw [if_neg hne, if_neg hmay, NestRec.tally, List.countP_eq_length_filter]
        rfl
  case clear =>
    refine ⟨fun hbad => h.next ?unnamedClear, fun n hn => ?namedClear⟩
    case unnamedClear =>
      rw [requestNestClear, Operand.nestNamed, nestOfByte_of_le hbad]
      rfl
    case namedClear =>
      intro r back
      have hreq := requestNestClear_named (s := s) hn
      have hback : s.vacuumBack n = true ↔ back := s.vacuumBack_iff n
      refine ⟨fun hf => h.next (hreq.trans (if_pos hf)), fun hf hb => h.next (hreq.trans ?clears), fun hf hb => h.next (hreq.trans ?stays)⟩
      all_goals rw [if_neg (fun hfalse => Bool.noConfusion (hf.symm.trans hfalse))]
      case clears => exact if_pos (hback.mpr hb)
      case stays => exact if_neg (mt hback.mp hb)
  case settles =>
    intro r ended count
    have hall : (r.boards.all fun b => b.state.terminal) = true ↔ ∀ b ∈ r.boards, ended b := r.all_terminal_iff
    have hcount (st : BoardState) : r.tally st = count st := by rw [NestRec.tally, List.countP_eq_length_filter]
    refine ⟨fun hst hends => ⟨?cleared, ?sum⟩, fun hno => if_neg ?keeps⟩
    case cleared =>
      rw [settleNest, if_pos ⟨hst, hall.mpr hends⟩]
      simp only [← hcount]
      rfl
    case sum =>
      simp only [← hcount]
      exact NestRec.tally_sum (List.all_eq_true.mp (hall.mpr hends))
    case keeps =>
      rintro ⟨hst, hends⟩
      rcases hno with hno | ⟨b, hb, hb'⟩
      · exact hno hst
      · exact hb' (hall.mp hends b hb)

end Sys2Proof.Machine

/-! The vacuum keep-out and the reports of the table (sections 2.6 and 2.8). -/

namespace Sys2Proof.Machine

section Table
variable {s : State} {n : Nest} {tag cycle : Half}

/-- R27, R31, R66: a pending ABORT for the lanes bound to the tabs that are picked out, lane by lane. -/
theorem abortBound_eq (pick : Binding → Bool) (s : State) : abortBound pick s = { s with
    lanes := s.lanes.map fun l => { l with pend := { l.pend with abort := l.pend.abort || l.binding.any pick } } } := by
  refine congrArg (fun lanes => { s with lanes := lanes }) (congrArg (Vector.map · s.lanes) (funext fun l => ?_))
  by_cases h : l.binding.any pick = true
  · simp [h]
  · simp [h]

theorem abortBound_nest (n : Nest) (s : State) : abortBound (fun b => decide (b.nest = n)) s = { s with lanes := s.lanesAborted n } := by
  rw [abortBound_eq]
  refine congrArg (fun lanes => { s with lanes := lanes }) (congrArg (Vector.map · s.lanes) (funext fun l => ?_))
  cases l.binding <;> simp

theorem NestRec.watched_iff (r : NestRec) : r.watched = true ↔
    r.state = .loaded ∧ r.vacuumFlag = false ∧ ∃ b ∈ r.boards, b.state = .attached ∨ b.state = .held := by
  simp [NestRec.watched, and_assoc]

/-! ### The vacuum keep-out (R30, R31) -/

theorem setNest_nest (n : Nest) (s : State) : setNest n (s.nest n) s = s := by cases n <;> rfl

section KeepOut
variable {v : Nat} (hv : (s.nest n).lastVacuum = some v)
include hv

theorem keepOut_quiet (h : (s.nest n).watched = false ∨ s.timing.vacLimit.get n ≤ v) :
    keepOut tag n s = setNest n { s.nest n with lowRun := none } s := by
  simp only [keepOut, hv, if_pos h]

theorem keepOut_first (h : ¬((s.nest n).watched = false ∨ s.timing.vacLimit.get n ≤ v)) (hr : (s.nest n).lowRun = none) :
    keepOut tag n s = setNest n { s.nest n with lowRun := some s.now } s := by
  simp only [keepOut, hv, if_neg h, hr]

theorem keepOut_masked (h : ¬((s.nest n).watched = false ∨ s.timing.vacLimit.get n ≤ v)) {t : Nat} (hr : (s.nest n).lowRun = some t)
    (hm : s.now - t < s.timing.vacMask.get n) : keepOut tag n s = s := by
  simp only [keepOut, hv, if_neg h, hr, if_neg (Nat.not_le.mpr hm)]

theorem keepOut_faults (h : ¬((s.nest n).watched = false ∨ s.timing.vacLimit.get n ≤ v)) {t : Nat} (hr : (s.nest n).lowRun = some t)
    (hm : s.timing.vacMask.get n ≤ s.now - t) :
    keepOut tag n s = post tag (.nestFault n v (s.timing.vacLimit.get n))
      { setNest n { s.nest n with vacuumFlag := true, lowRun := none } s with lanes := s.lanesAborted n } := by
  have hflag : keepOut tag n s = takeVacuumFlag tag n v (s.timing.vacLimit.get n) s := by
    simp only [keepOut, hv, if_neg h, hr, if_pos hm]
  rw [hflag, takeVacuumFlag]
  exact congrArg (post tag _) (abortBound_nest n _)

end KeepOut

/-- R30, R31: the keep-out leaves the boards, the tabs and the pickers as they are. -/
theorem keepOut_engaged (tag : Half) (n m : Nest) (s : State) : (keepOut tag n s).engaged m = s.engaged m := by
  have hset (x : NestRec) (hb : x.boards = (s.nest n).boards) (ht : x.tabs = (s.nest n).tabs) : (setNest n x s).engaged m = s.engaged m := by
    unfold State.engaged
    rw [nest_setNest]
    split
    next h => subst h; rw [hb, ht]; rfl
    next => rfl
  unfold keepOut
  dsimp only
  split
  next => rfl
  next v hv =>
    split
    next => exact hset _ rfl rfl
    next =>
      split
      next => exact hset _ rfl rfl
      next =>
        split
        · exact hset { s.nest n with vacuumFlag := true, lowRun := none } rfl rfl
        · rfl

theorem keepOut_table (tag : Half) (n : Nest) (s : State) : (keepOut tag n s).table = s.table := (touches_keepOut s tag n).at .table rfl

/-! ### The reported position (R26, R27) -/

theorem movePosition_stays (pos : WorkPos) (h : ∀ n, ¬(s.table.nest? = some n ∧ pos ≠ s.table ∧ s.engaged n = true)) :
    movePosition tag cycle pos s = { s with table := pos } := by
  unfold movePosition
  dsimp only
  split
  next => rfl
  next n hn => exact if_neg fun hl => h n ⟨hn, hl⟩

theorem movePosition_leaves (pos : WorkPos) (hn : s.table.nest? = some n) (hp : pos ≠ s.table) (he : s.engaged n = true) :
    movePosition tag cycle pos s = post tag (.tableMoved n pos cycle) { s with table := pos, lanes := s.lanesAborted n } := by
  simp only [movePosition, hn]
  rw [if_pos ⟨hp, he⟩, abortBound_nest]
  rfl

theorem workPosOfByte_code {pos : WorkPos} (h : pos ≠ .unknown) : workPosOfByte pos.code = some pos := by
  cases pos with
  | unknown => exact absurd rfl h
  | a | b | moving => rfl

theorem takeTableState_named {w : Wire} {pos : WorkPos} (hp : payloadByte w.payload 6 = pos.code) (hne : pos ≠ .unknown) :
    takeTableState w () cycle s = movePosition w.tag cycle pos (keepOut w.tag .b (keepOut w.tag .a { s with
      nests := ⟨{ s.nests.a with lastVacuum := some (min 100 (byteNat w.payload 4)) },
        { s.nests.b with lastVacuum := some (min 100 (byteNat w.payload 5)) }⟩ })) := by
  simp only [takeTableState, Operand.position, hp, workPosOfByte_code hne]
  rfl

end Table

/-- Settles O46: the keep-out branch by branch, the report as it judges both nests and then the position. -/
theorem tableReportsAndKeepOut : Obligations.TableReportsAndKeepOut := by
  refine ⟨?keepOut, ?report⟩
  case keepOut =>
    intro tag n s v hv r watched limit
    have hwatched : r.watched = true ↔ watched := r.watched_iff
    have hlow (hw : watched) (hl : v < limit) : ¬(r.watched = false ∨ limit ≤ v) := by
      rw [hwatched.mpr hw]
      simpa using hl
    refine ⟨fun h => keepOut_quiet hv (h.imp_left fun hno => ?_), fun hw hl hr => keepOut_first hv (hlow hw hl) hr,
      fun hw hl t hr => ⟨keepOut_masked hv (hlow hw hl) hr, keepOut_faults hv (hlow hw hl) hr⟩⟩
    exact Bool.eq_false_iff.mpr (mt hwatched.mp hno)
  case report =>
    intro w s f rest more pos h hr hp hne low s1 s2 moved leaves
    have hlow (v : Nat) : min 100 v = low v := by
      change _ = if 100 < v then 100 else v
      split <;> omega
    have hexec : exec (.tableState w) s = .next ((movePosition w.tag f.cycle pos s2).reportedOn f rest more) := by
      refine congrArg Host.Outcome.next ((walkReport_role (kind := 0x23) (belongs := Role.table?) h hr rfl (takeTableState w)).trans ?_)
      rw [takeTableState_named hp hne, hlow, hlow]
    have htable : s2.table = s.table := (keepOut_table ..).trans (keepOut_table ..)
    have hengaged (n : Nest) : s2.engaged n = true ↔ s.Engaged n := by
      rw [keepOut_engaged, keepOut_engaged, ← State.engaged_iff]
      cases n <;> rfl
    rw [hexec]
    refine ⟨fun ha hb => ?stays, fun n ⟨hn, hpos, he⟩ => ?leaves⟩
    case stays =>
      have hnone (n : Nest) : ¬(s2.table.nest? = some n ∧ pos ≠ s2.table ∧ s2.engaged n = true) := by
        rw [htable, hengaged]
        cases n
        exacts [ha, hb]
      rw [movePosition_stays pos hnone]
    case leaves => rw [movePosition_leaves pos (htable ▸ hn) (htable ▸ hpos) ((hengaged n).mpr he)]

end Sys2Proof.Machine

/-! GRIP and LIFT items, and the reports of the grippers (sections 4.3 to 4.5 and 4.7). -/

namespace Sys2Proof.Machine

section Judged
variable {s : State} {q : PickerId} {p : Payload} {f : DownFrame} {rest : List DownFrame} {w : Wire} {more : List Item}

/-! ### The checks of a GRIP and of a LIFT (R62, R71) -/

/-- R62: the checks of a GRIP, each beside the code its failure gives. -/
def gripChecks (s : State) (q : PickerId) (p : Payload) : List (Bool × RefusalCode) :=
  let n? := nestOfByte (payloadByte p 4)
  let b? := n?.bind fun n => (s.nest n).boards[byteNat p 5]?
  [(decide ((s.picker q).state ≠ .jammed), .pickerFault), (decide ((s.picker q).state = .empty), .pickerBusy),
    (n?.any fun n => decide ((s.nest n).state = .loaded), .noNest), (n?.any fun n => decide (s.table.nest? = some n), .nestNotAtWork),
    (b?.isSome, .noBoard), (b?.any fun b => decide (b.state = .attached ∧ b.picker = none), .boardState)]

theorem firstFailing_gripChecks : firstFailing (gripChecks s q p) = refusalIn (checkGrip s q (payloadByte p 4) (byteNat p 5)) := by
  simp only [gripChecks, firstFailing_cons, decide_eq_true_eq]
  cases hk : (s.picker q).state with
  | jammed | closing | holding | opening => simp [checkGrip, hk, refusalIn]
  | empty =>
    cases hn : nestOfByte (payloadByte p 4) with
    | none => simp [checkGrip, hk, hn, refusalIn]
    | some n =>
      simp only [checkGrip, hk, hn, refusalIn_guard, Option.bind_some, Option.any_some, decide_eq_true_eq, ne_eq, not_not, reduceCtorEq,
        not_false_eq_true, if_true]
      rcases Option.eq_none_or_eq_some (s.nest n).boards[byteNat p 5]? with hb | ⟨b, hb⟩
      · simp [hb, refusalIn]
      · by_cases hfree : b.state = .attached ∧ b.picker = none
        · simp [hb, hfree, refusalIn, firstFailing]
        · simp [hb, hfree, refusalIn]

/-- R62: an admitted GRIP closes on the board its item names. -/
theorem checkGrip_names {nest : Byte} {board : Nat} {r : BoardRef} (h : checkGrip s q nest board = .ok r) :
    nestOfByte nest = some r.nest ∧ r.board = board := by
  unfold checkGrip at h
  split at h
  next => cases h
  next => cases h
  next => cases h
  next => cases h
  next =>
    split at h
    next => cases h
    next n hn =>
      obtain ⟨-, h⟩ := guard_eq_ok.mp h
      obtain ⟨-, h⟩ := guard_eq_ok.mp h
      split at h
      next => cases h
      next =>
        split at h
        · cases h
          exact ⟨hn, rfl⟩
        · cases h

/-- R71: the checks of a LIFT, each beside the code its failure gives. -/
def liftChecks (s : State) (q : PickerId) : List (Bool × RefusalCode) :=
  [(decide (s.line.state = .running), .halted), (decide ((s.picker q).state ≠ .jammed), .pickerFault),
    (decide ((s.picker q).state = .holding), .pickerEmpty),
    (((s.picker q).board.bind s.boardAt).any fun b => decide (b.state = .freed), .notFreed)]

theorem firstFailing_liftChecks : firstFailing (liftChecks s q) = refusalIn (checkLift s q) := by
  simp only [liftChecks, firstFailing_cons, decide_eq_true_eq, checkLift, refusalIn_guard, ne_eq, not_not]
  refine if_congr Iff.rfl ?_ rfl
  cases hk : (s.picker q).state with
  | jammed | empty | closing | opening => simp [refusalIn]
  | holding =>
    cases hr : (s.picker q).board with
    | none => simp [refusalIn]
    | some r =>
      cases hb : s.boardAt r with
      | none => simp [hb, refusalIn]
      | some b =>
        by_cases hst : b.state = .freed
        · simp [hb, hst, refusalIn, firstFailing]
        · simp [hb, hst, refusalIn]

/-! ### The commands (R63, R71) -/

theorem exec_grip (h : s.Walking f rest (itemOf 0x13 w) more) (hr : s.RoleItem (.picker q) w) :
    exec (.grip w) s = .next ((settle (itemOf 0x13 w) (judgeGrip f.cycle (itemOf 0x13 w) q s)).1.walkedOn f rest more
      (settle (itemOf 0x13 w) (judgeGrip f.cycle (itemOf 0x13 w) q s)).2) :=
  congrArg Host.Outcome.next (walkGated_role (belongs := Role.picker?) h hr rfl judgeGrip)

theorem exec_lift (h : s.Walking f rest (itemOf 0x15 w) more) (hr : s.RoleItem (.picker q) w) :
    exec (.lift w) s = .next ((settle (itemOf 0x15 w) (judgeLift f.cycle (itemOf 0x15 w) q s)).1.walkedOn f rest more
      (settle (itemOf 0x15 w) (judgeLift f.cycle (itemOf 0x15 w) q s)).2) :=
  congrArg Host.Outcome.next (walkGated_role (belongs := Role.picker?) h hr rfl judgeLift)

end Judged

/-- Settles O47: both lists of checks refuse as the model does. -/
theorem gripAndLiftAreJudged : Obligations.GripAndLiftAreJudged := by
  intro w s f rest more q hr p k n? b? grip held? lift
  have hgrip : grip = refusalIn (checkGrip s q (payloadByte p 4) (byteNat p 5)) := firstFailing_gripChecks
  have hlift : lift = refusalIn (checkLift s q) := firstFailing_liftChecks
  refine ⟨fun h => ⟨fun c hc => ?gripVoid, fun hok n hn => ?grips⟩, fun h => ⟨fun c hc => ?liftVoid, fun hok r hk => ?lifts⟩⟩
  case gripVoid =>
    have hcheck := refusalIn_eq_some.mp (hgrip.symm.trans hc)
    have hj : judgeGrip f.cycle (itemOf 0x13 w) q s = .void c s [] := by
      rw [judgeGrip, show checkGrip s q (Operand.nest (itemOf 0x13 w).payload) (Operand.index (itemOf 0x13 w).payload) = _ from hcheck]
    rw [exec_grip h hr, hj]
    rfl
  case grips =>
    obtain ⟨r, hcheck⟩ := refusalIn_eq_none.mp (hgrip.symm.trans hok)
    obtain ⟨hnest, hboard⟩ := checkGrip_names hcheck
    obtain rfl : n = r.nest := Option.some.inj (hn.symm.trans hnest)
    have hr' : r = ⟨r.nest, byteNat p 5⟩ := by rw [← hboard]
    have hj : judgeGrip f.cycle (itemOf 0x13 w) q s = .pass (closeJaws q ⟨r.nest, byteNat p 5⟩ s) (itemOf 0x13 w) := by
      rw [judgeGrip, show checkGrip s q (Operand.nest (itemOf 0x13 w).payload) (Operand.index (itemOf 0x13 w).payload) = _ from hcheck, ← hr']
    rw [exec_grip h hr, hj]
    rfl
  case liftVoid =>
    have hcheck := refusalIn_eq_some.mp (hlift.symm.trans hc)
    have hj : judgeLift f.cycle (itemOf 0x15 w) q s = .void c s [] := by rw [judgeLift, hcheck]
    rw [exec_lift h hr, hj]
    rfl
  case lifts =>
    obtain ⟨r', hcheck⟩ := refusalIn_eq_none.mp (hlift.symm.trans hok)
    obtain ⟨-, -, hbound, -⟩ := checkLift_ok hcheck
    obtain rfl : r = r' := Option.some.inj (hk.symm.trans hbound)
    have hj : judgeLift f.cycle (itemOf 0x15 w) q s = .pass (modBoard r (fun b => { b with state := .inTransit }) s) (itemOf 0x15 w) := by
      rw [judgeLift, hcheck]
    rw [exec_lift h hr, hj]
    rfl

/-! ### GRIP-STATE reports (R64 to R68) -/

section Reports
variable {s : State} {q : PickerId} {w : Wire} {jaws : Jaws} {sensed : Bool} {tag cycle : Half} {r : BoardRef} {b : BoardRec}

/-- R64: the picker with the report recorded. -/
def State.gripHeard (s : State) (q : PickerId) (jaws : Jaws) (sensed : Bool) : State :=
  setPicker q { s.picker q with lastJaws := some jaws, lastSensed := some sensed } s

theorem picker_gripHeard : (s.gripHeard q jaws sensed).picker q = { s.picker q with lastJaws := some jaws, lastSensed := some sensed } :=
  picker_setPicker_same ..

theorem emptyPicker_gripHeard : emptyPicker q (s.gripHeard q jaws sensed) = setPicker q { s.picker q with
    state := .empty, sentFor := none, jawTimer := none, lastJaws := some jaws, lastSensed := some sensed } s := by
  rw [emptyPicker, modPicker_eq, picker_gripHeard, State.gripHeard, setPicker_setPicker]
  rfl

section Taken
variable (hj : byteNat w.payload 4 = jaws.num) (hs : payloadByte w.payload 5 = if sensed then 1 else 0)
include hj hs

theorem gripOperands : Operand.gripJaws w.payload = some jaws ∧ Operand.gripSensed w.payload = some sensed := by
  refine ⟨?_, by rw [Operand.gripSensed, hs, boolOfByte_code]⟩
  rw [Operand.gripJaws, jawsOfByte]
  cases jaws with
  | opened =>
    have hzero : payloadByte w.payload 4 = 0 := BitVec.eq_of_toNat_eq hj
    exact if_pos hzero
  | closed =>
    have hone : payloadByte w.payload 4 = 1 := BitVec.eq_of_toNat_eq hj
    rw [hone]
    rfl

theorem takeGripState_empty (h : (s.picker q).state = .empty) : takeGripState w q cycle s =
    if jaws = .closed ∧ sensed = true ∧ ¬((s.picker q).lastJaws = some .closed ∧ (s.picker q).lastSensed = some true) then
      post w.tag (.gripUntracked q cycle) (s.gripHeard q jaws sensed)
    else s.gripHeard q jaws sensed := by
  obtain ⟨hjaws, hsensed⟩ := gripOperands hj hs
  simp only [takeGripState, hjaws, hsensed, h]
  rfl

theorem takeGripState_jammed (h : (s.picker q).state = .jammed) : takeGripState w q cycle s = s.gripHeard q jaws sensed := by
  obtain ⟨hjaws, hsensed⟩ := gripOperands hj hs
  simp only [takeGripState, hjaws, hsensed, h]
  rfl

theorem takeGripState_opening (h : (s.picker q).state = .opening) : takeGripState w q cycle s =
    if jaws = .opened then emptyPicker q (s.gripHeard q jaws sensed) else s.gripHeard q jaws sensed := by
  obtain ⟨hjaws, hsensed⟩ := gripOperands hj hs
  simp only [takeGripState, hjaws, hsensed, h]
  rfl

theorem takeGripState_closing (h : (s.picker q).state = .closing) :
    takeGripState w q cycle s = closingReport w.tag q cycle jaws sensed (s.gripHeard q jaws sensed) := by
  obtain ⟨hjaws, hsensed⟩ := gripOperands hj hs
  simp only [takeGripState, hjaws, hsensed, h]
  rfl

theorem takeGripState_holding (h : (s.picker q).state = .holding) :
    takeGripState w q cycle s = holdingReport w.tag q cycle jaws sensed (s.gripHeard q jaws sensed) := by
  obtain ⟨hjaws, hsensed⟩ := gripOperands hj hs
  simp only [takeGripState, hjaws, hsensed, h]
  rfl

end Taken

/-! ### A report for a picker in CLOSING (R65) -/

theorem closingReport_opened : closingReport tag q cycle .opened sensed s = s := rfl

theorem closingReport_holds (hr : (s.picker q).board = some r) : closingReport tag q cycle .closed true s =
    modBoard r (fun b => { b with state := .held })
      (setPicker q { s.picker q with state := .holding, sentFor := none, jawTimer := none } s) := by
  have hheld : closingReport tag q cycle .closed true s = modBoard r (fun b => { b with state := .held })
      (modPicker q (fun k => { k.enter .holding with jawTimer := none }) s) := by
    simp only [closingReport, hr, if_true]
  exact hheld

theorem closingReport_misses (hr : (s.picker q).board = some r) : closingReport tag q cycle .closed false s =
    post tag (.gripFailed q r .notSensed (some cycle)) (modBoard r (fun b => { b with picker := none })
      (setPicker q { s.picker q with state := .empty, board := none, sentFor := none, jawTimer := none } s)) := by
  rw [← emptyPicker_unbind_bound hr]
  simp only [closingReport, hr, Bool.false_eq_true, if_false]

theorem closingReport_lost (hr : (s.picker q).board = none) (hsent : (s.picker q).sentFor = some r) :
    closingReport tag q cycle .closed sensed s = post tag (.gripFailed q r .boardLost (some cycle)) (emptyPicker q s) := by
  simp only [closingReport, hr, hsent]

/-! ### A report for a picker in HOLDING (R66, R67) -/

theorem holdingReport_lost (hno : jaws = .opened ∨ sensed = false) (hr : (s.picker q).board = some r) (hb : s.boardAt r = some b) :
    holdingReport tag q cycle jaws sensed s = gripLoss tag q cycle r b s := by
  have hnot : ¬(jaws = .closed ∧ sensed = true) := by rcases hno with h | h <;> simp [h]
  simp only [holdingReport, if_neg hnot, hr, hb]

/-- R67: the board is let go where it stands, and the picker is EMPTY. -/
def State.letGo (s : State) (q : PickerId) (r : BoardRef) (st : BoardState) : State :=
  modBoard r (fun b => { b with state := st, picker := none })
    (setPicker q { s.picker q with state := .empty, board := none, sentFor := none, jawTimer := none } s)

theorem State.boardOfTab_letGo (q : PickerId) (r : BoardRef) (st : BoardState) (n : Nest) (j : Nat) :
    (s.letGo q r st).boardOfTab n j = s.boardOfTab n j := by
  simp only [State.boardOfTab, State.letGo, State.tabs_modBoard]
  rfl

/-- R67: a HELD board goes back to the frame, and the cuts that needed the hold are aborted. -/
theorem gripLoss_held (hr : (s.picker q).board = some r) (hst : b.state = .held) : gripLoss tag q cycle r b s =
    post tag (.gripLost q r .attached cycle) { s.letGo q r .attached with
      lanes := s.lanes.map fun l => { l with pend := { l.pend with
        abort := l.pend.abort || (decide (b.uncut < b.hold) && l.binding.any fun x => decide (s.boardOfTab x.nest x.tab = r)) } } } := by
  simp only [gripLoss, hst, emptyPicker_unbind_modBoard hr]
  change post tag _ (if b.uncut < b.hold then
    abortBound (fun x => decide ((s.letGo q r .attached).boardOfTab x.nest x.tab = r)) (s.letGo q r .attached) else s.letGo q r .attached) = _
  refine congrArg (post tag _) ?_
  by_cases hneed : b.uncut < b.hold
  · simp only [abortBound_eq, State.boardOfTab_letGo, hneed, decide_true, Bool.true_and]
    rfl
  · have hsame : (s.lanes.map fun l => { l with pend := { l.pend with
        abort := l.pend.abort || (decide (b.uncut < b.hold) && l.binding.any fun x => decide (s.boardOfTab x.nest x.tab = r)) } }) = s.lanes := by
      refine (congrArg (Vector.map · s.lanes) (funext fun l => ?_)).trans (Vector.map_id _)
      simp [hneed]
    rw [if_neg hneed, hsame]
    rfl

/-- R67, R90: what the loss of a board does to the run reserved for it. -/
theorem gripLoss_lost (hr : (s.picker q).board = some r) (hst : b.state = .freed ∨ b.state = .inTransit) :
    gripLoss tag q cycle r b s =
      settleNest tag r.nest (post tag (.gripLost q r .lost cycle) (dropReservation r (s.letGo q r .lost))) := by
  rcases hst with hst | hst <;> simp only [gripLoss, hst, emptyPicker_unbind_modBoard hr] <;> rfl

theorem exec_gripState {f : UpFrame} {rest : List UpFrame} {more : List Item} (h : s.Reporting f rest (itemOf 0x22 w) more)
    (hr : s.RoleItem (.picker q) w) : exec (.gripState w) s = .next ((takeGripState w q f.cycle s).reportedOn f rest more) :=
  congrArg Host.Outcome.next (walkReport_role (belongs := Role.picker?) h hr rfl (takeGripState w))

end Reports

/-- Settles O49: the report by the picker's state, and a grip lost by the state of its board. -/
theorem gripReportsAreTaken : Obligations.GripReportsAreTaken := by
  refine ⟨?awaiting, ?holding⟩
  case awaiting =>
    intro w s f rest more q jaws sensed h hr hj hs old k s0 takes emptied untracked
    have taken {s' : State} (ht : takeGripState w q f.cycle s = s') : takes s' := by
      rw [← ht]
      exact exec_gripState h hr
    have hk0 : s0.picker q = k := picker_setPicker_same ..
    have hempty (hn : k.board = none) : emptyPicker q (s.gripHeard q jaws sensed) = emptied := by
      rw [emptyPicker_gripHeard]
      exact congrArg (fun o : Option BoardRef => setPicker q { k with state := .empty, board := o, sentFor := none, jawTimer := none } s) hn
    have hset (x : Picker) : setPicker q x s0 = setPicker q x s := setPicker_setPicker ..
    refine ⟨fun hk hno => taken ?known, fun hk hu => taken ?untracked, fun hk => taken (takeGripState_jammed hj hs hk),
      fun hk hc => taken ?stillOpening, fun hk ho hn => taken ?opened, fun hk ho => taken ?stillClosing,
      fun hk hc r hb => ⟨fun hsen => taken ?holds, fun hsen => taken ?misses⟩, fun hk hc hn r hsent => taken ?boardLost⟩
    case known => exact (takeGripState_empty hj hs hk).trans (if_neg hno)
    case untracked => exact (takeGripState_empty hj hs hk).trans (if_pos hu)
    case stillOpening => exact (takeGripState_opening hj hs hk).trans (if_neg (by simp [hc]))
    case opened => rw [takeGripState_opening hj hs hk, if_pos ho, hempty hn]
    case stillClosing =>
      rw [takeGripState_closing hj hs hk]
      subst ho
      rfl
    case holds =>
      rw [takeGripState_closing hj hs hk]
      subst hc hsen
      exact (closingReport_holds (s := s0) (hk0.symm ▸ hb)).trans (by rw [hk0, hset])
    case misses =>
      rw [takeGripState_closing hj hs hk]
      subst hc hsen
      exact (closingReport_misses (s := s0) (hk0.symm ▸ hb)).trans (by rw [hk0, hset])
    case boardLost =>
      rw [takeGripState_closing hj hs hk]
      subst hc
      exact (closingReport_lost (s := s0) (hk0.symm ▸ hn) (hk0.symm ▸ hsent)).trans (congrArg (post w.tag _) (hempty hn))
  case holding =>
    intro w s f rest more q jaws sensed r b h hr hj hs hk hbound hb k takes lost needsHold aborted dropped
    have taken {s' : State} (ht : takeGripState w q f.cycle s = s') : takes s' := by
      rw [← ht]
      exact exec_gripState h hr
    have hheard := takeGripState_holding (cycle := f.cycle) hj hs hk
    have hk0 : (s.gripHeard q jaws sensed).picker q = k := picker_setPicker_same ..
    have hb0 : ((s.gripHeard q jaws sensed).picker q).board = some r := by
      rw [hk0]
      exact hbound
    have hlost (st : BoardState) : (s.gripHeard q jaws sensed).letGo q r st = lost st := by
      rw [State.letGo, hk0]
      exact congrArg (modBoard r _) (setPicker_setPicker ..)
    have hreport (hno : jaws = .opened ∨ sensed = false) := holdingReport_lost (s := s.gripHeard q jaws sensed) (tag := w.tag)
      (cycle := f.cycle) hno hb0 hb
    refine ⟨fun hc hsen => taken ?confirmed, fun hno hst => taken ?held, fun hno hst => taken ?freed⟩
    case confirmed => exact hheard.trans (if_pos ⟨hc, hsen⟩)
    case held =>
      rw [hheard, hreport hno, gripLoss_held hb0 hst, hlost]
      rfl
    case freed =>
      rw [hheard, hreport hno, gripLoss_lost hb0 hst, hlost]
      refine congrArg (fun u => settleNest w.tag r.nest (post w.tag (.gripLost q r .lost f.cycle) u)) ?_
      have hplace : (lost .lost).placementOf r = s.placementOf r := rfl
      simp only [dropped]
      rw [dropReservation, hplace]
      cases s.placementOf r with
      | none => rfl
      | some x =>
        have hfilter : (fun y : Placement => y.ref != r) = fun y => decide (y.ref ≠ r) := by
          funext y
          by_cases hy : y.ref = r
          · simp [hy]
          · rw [decide_eq_true hy]
            exact bne_iff_ne.mpr hy
        dsimp only
        rw [closePlacement, hfilter]
        rfl

end Sys2Proof.Machine

/-! The magazine bays: BAY-STATE, BAY-CONFIG, BAY-PRESET and BAY-READ (sections 5.2 to 5.4 and 5.12). -/

namespace Sys2Proof.Machine

section Reported
variable {s : State} {r : BoardRef}

/-- A change of a board that is not there changes nothing. -/
theorem modBoard_of_none (hb : s.boardAt r = none) (f : BoardRec → BoardRec) : modBoard r f s = s := by
  have hboards : (s.nest r.nest).boards.modify r.board f = (s.nest r.nest).boards := List.modify_eq_self (List.getElem?_eq_none_iff.mp hb)
  rw [modBoard_eq, hboards]
  exact setNest_nest r.nest s

/-- R90: the open placements are those of other boards. -/
theorem closePlacement_eq (r : BoardRef) (s : State) :
    closePlacement r s = { s with placements := s.placements.filter fun y => decide (y.ref ≠ r) } := by
  refine congrArg (fun l => { s with placements := l }) (List.filter_congr fun y _ => ?_)
  rw [bne_eq, beq_eq_decide, decide_not]

/-- R83, step 1, log 24. -/
theorem removePlacement_eq (tag : Half) (s : State) (x : Placement) : removePlacement tag s x = s.stripped tag x := by
  unfold removePlacement State.stripped
  dsimp only
  rw [closePlacement_eq]
  generalize hu : ({ s with placements := s.placements.filter fun y => decide (y.ref ≠ x.ref) } : State) = u
  have hboard : s.boardAt x.ref = u.boardAt x.ref := hu ▸ rfl
  have hstripped (b : BoardRec) : (if b.state = .inTransit then { b with dest := none }
      else if b.state = .placing then { b with state := .lost, dest := none } else b) = b.stripped := by
    unfold BoardRec.stripped
    cases b.state <;> rfl
  rw [hboard, State.boardStateAt, State.boardAt_modBoard_same]
  simp only [hstripped]
  cases hb : u.boardAt x.ref with
  | none => rw [modBoard_of_none hb, modBoard_of_none hb]
  | some b =>
    rw [modBoard_congr hb (g := fun _ => b.stripped) rfl]
    rfl

/-- R83: the placements of the bay end in the order they were opened, then the bay is ABSENT. -/
theorem removeMagazine_eq (tag : Half) (id : BayId) (s : State) : removeMagazine tag id s =
    modBay id (fun b => { b with state := .absent, table := none, reserved := 0 })
      ((s.placements.filter fun x => decide (x.dest.bay = id)).foldl (fun s x => s.stripped tag x) s) := by
  have hin : (fun x : Placement => x.dest.bay == id) = fun x => decide (x.dest.bay = id) := funext fun x => beq_eq_decide ..
  unfold removeMagazine
  rw [hin, List.foldl_ext (removePlacement tag) (fun s x => s.stripped tag x) s fun s x _ => removePlacement_eq tag s x]

/-- R81 to R83: a bay of no kind is left, and the others are judged by what was recorded and what is reported. -/
theorem bayReport_eq (tag : Half) (present : Bool) (id : BayId) (s : State) :
    bayReport tag present id s = s.bayReported tag present id := by
  unfold bayReport State.bayReported
  cases hk : (s.bay id).kind <;> cases hp : (s.bay id).presence <;> cases present <;>
    simp [hk, hp, Bay.inserted, setBay_setBay, removeMagazine_eq]

end Reported

/-- Settles O54: the report is folded over the bays, and each bay is judged as R81 to R83 say. -/
theorem bayReportActsBayByBay : Obligations.BayReportActsBayByBay := by
  intro w s f rest more h hr acted
  refine congrArg Host.Outcome.next ((walkReport_role (kind := 0x24) (belongs := Role.elevator?) h hr rfl (takeBayState w)).trans ?_)
  refine congrArg (fun u : State => u.reportedOn f rest more) ?_
  exact List.foldl_ext _ _ s fun u id _ => bayReport_eq w.tag _ id u

section Configured
variable {s : State} {p : Payload} {id : BayId}

/-! ### BAY-CONFIG (R79, R80) -/

/-- R79: the kind a BAY-CONFIG names, with its values brought into their ranges. -/
def givenKind (p : Payload) : BayKind :=
  if byteNat p 5 = 1 then .normal (byteNat p 6) (within 1 120 (byteNat p 7)) (within 10 200 (byteNat p 8))
    (if byteNat p 9 = 0 then .up else .down)
  else if byteNat p 5 = 2 then .reject (within 1 500 (halfNat p 6)) else .none

/-- R159: a value of a BAY-CONFIG lies out of its range. -/
def GivenClamped (p : Payload) : Prop :=
  (byteNat p 5 = 1 ∧ (within 1 120 (byteNat p 7) ≠ byteNat p 7 ∨ within 10 200 (byteNat p 8) ≠ byteNat p 8)) ∨
    (byteNat p 5 = 2 ∧ within 1 500 (halfNat p 6) ≠ halfNat p 6)

/-- R79, R167: the kind, and for a NORMAL bay the variant and the direction, are named values. -/
def GivenNamed (p : Payload) : Prop := byteNat p 5 < 3 ∧ (byteNat p 5 = 1 → byteNat p 6 ≠ 0 ∧ byteNat p 9 < 2)

theorem bayDir_eq_iff (p : Payload) (c : Byte) : Operand.bayDir p = c ↔ byteNat p 9 = c.toNat := BitVec.toNat_inj.symm

theorem configKind_normal (h : byteNat p 5 = 1) : configKind p =
    if byteNat p 6 ≠ 0 ∧ byteNat p 9 < 2 then
      some (givenKind p, within 1 120 (byteNat p 7) != byteNat p 7 || within 10 200 (byteNat p 8) != byteNat p 8)
    else none := by
  have hslots := clampTo_eq_within (lo := 1) (hi := 120) (by decide) (byteNat p 7)
  have hpitch := clampTo_eq_within (lo := 10) (hi := 200) (by decide) (byteNat p 8)
  have h0 : (0 : Byte).toNat = 0 := rfl
  have h1 : (1 : Byte).toNat = 1 := rfl
  unfold configKind
  rw [show (Operand.bayKind p).toNat = 1 from h]
  simp only [bayDir_eq_iff, h0, h1, givenKind, h, if_true, Operand.bayVariant, Operand.baySlots, Operand.bayPitch, hslots, hpitch]
  by_cases hv : byteNat p 6 = 0
  · rw [if_pos hv, if_neg fun hn => hn.1 hv]
  · rw [if_neg hv]
    by_cases hup : byteNat p 9 = 0
    · rw [if_pos hup, if_pos ⟨hv, by omega⟩, if_pos hup]
    · rw [if_neg hup, if_neg hup]
      by_cases hdown : byteNat p 9 = 1
      · rw [if_pos hdown, if_pos ⟨hv, by omega⟩]
      · rw [if_neg hdown, if_neg (by omega)]

theorem configKind_reject (h : byteNat p 5 = 2) :
    configKind p = some (givenKind p, within 1 500 (halfNat p 6) != halfNat p 6) := by
  unfold configKind
  rw [show (Operand.bayKind p).toNat = 2 from h]
  simp only [givenKind, h, Operand.bayCapacity, clampTo_eq_within (lo := 1) (hi := 500) (by decide)]
  rfl

theorem configKind_none (h : byteNat p 5 = 0) : configKind p = some (givenKind p, false) := by
  unfold configKind
  rw [show (Operand.bayKind p).toNat = 0 from h]
  simp [givenKind, h]

theorem configKind_unnamed (h : ¬GivenNamed p) : configKind p = none := by
  rcases (by omega : byteNat p 5 < 1 ∨ byteNat p 5 = 1 ∨ byteNat p 5 = 2 ∨ 3 ≤ byteNat p 5) with hk | hk | hk | hk
  · exact absurd ⟨by omega, fun h1 => by omega⟩ h
  · rw [configKind_normal hk, if_neg fun hn => h ⟨by omega, fun _ => hn⟩]
  · exact absurd ⟨by omega, fun h1 => by omega⟩ h
  · unfold configKind Operand.bayKind
    split
    next h0 => exact absurd (h0 ▸ hk : 3 ≤ 0) (by decide)
    next h1 => exact absurd (h1 ▸ hk : 3 ≤ 1) (by decide)
    next h2 => exact absurd (h2 ▸ hk : 3 ≤ 2) (by decide)
    next => rfl

theorem configKind_named (h : GivenNamed p) :
    ∃ moved, configKind p = some (givenKind p, moved) ∧ (moved = true ↔ GivenClamped p) := by
  obtain ⟨hkind, hnormal⟩ := h
  rcases (by omega : byteNat p 5 = 0 ∨ byteNat p 5 = 1 ∨ byteNat p 5 = 2) with hk | hk | hk
  · exact ⟨_, configKind_none hk, by simp [GivenClamped, hk]⟩
  · exact ⟨_, (configKind_normal hk).trans (if_pos (hnormal hk)), by simp [GivenClamped, hk]⟩
  · exact ⟨_, configKind_reject hk, by simp [GivenClamped, hk]⟩

theorem givenKind_isReject : (givenKind p).isReject = true ↔ byteNat p 5 = 2 := by
  unfold givenKind
  split
  next h => simp [BayKind.isReject, h]
  next => split <;> simp_all [BayKind.isReject]

theorem givenKind_eq_none (h : GivenNamed p) : givenKind p = .none ↔ byteNat p 5 = 0 := by
  obtain ⟨hkind, -⟩ := h
  unfold givenKind
  split
  next h1 => simp [h1]
  next h1 =>
    split
    next h2 => simp [h2]
    next h2 => simp; omega

/-- R79: some other bay is REJECT. -/
theorem State.otherReject_iff : s.otherReject id = true ↔ ∃ j, j ≠ id ∧ (s.bay j).kind.isReject = true := by
  have hall (j : BayId) : j ∈ allBays := by revert j; decide
  simp [State.otherReject, List.any_eq_true, hall]

theorem Bay.inUse_eq (b : Bay) : b.inUse = b.holdsPlacement := by
  have hslot (x : SlotState) : (match x with | .reserved _ => true | _ => false) = (x.code == 1) := by cases x <;> rfl
  unfold Bay.inUse Bay.holdsPlacement
  cases b.table with
  | none => rfl
  | some t =>
    refine congrArg (decide (0 < b.reserved) || ·) ?_
    exact congrArg (t.slots.any ·) (funext hslot)

theorem requestBayConfig_unnamed (h : ¬(byteNat p 4 < 8 ∧ GivenNamed p)) : requestBayConfig p s = refuse .badArgument s := by
  unfold requestBayConfig
  by_cases hid : byteNat p 4 < 8
  · rw [configKind_unnamed fun hn => h ⟨hid, hn⟩]
    split
    next => contradiction
    next => rfl
  · rw [Operand.bay, bayOfByte_of_le (Nat.le_of_not_lt hid)]

theorem requestBayConfig_named (hid : byteNat p 4 = id.val) {moved : Bool} (h : configKind p = some (givenKind p, moved)) :
    requestBayConfig p s =
      if (givenKind p).isReject = true ∧ s.otherReject id = true then refuse .state s
      else if (s.bay id).inUse then refuse .inUse s
      else (setBay id ((s.bay id).configured (givenKind p)) s, doneOr moved, [((s.bay id).configured (givenKind p)).state.code]) := by
  simp only [requestBayConfig, Operand.bay, bayOfByte_eq hid, h]

/-! ### BAY-PRESET (R84) -/

/-- R84: a slot is one of those the first `c` boards of a magazine take, from the end the bay fills from. -/
def FillDir.fills (dir : FillDir) (slots c j : Nat) : Bool :=
  match dir with
  | .up => decide (j < c)
  | .down => decide (slots - c ≤ j)

theorem mem_presetSlots {slots c j : Nat} (hc : c ≤ slots) (hj : j < slots) (dir : FillDir) :
    j ∈ (List.range c).map (slotAt dir slots) ↔ dir.fills slots c j = true := by
  simp only [List.mem_map, List.mem_range]
  cases dir with
  | up => simp [slotAt, FillDir.fills]
  | down =>
    rw [FillDir.fills, decide_eq_true_iff]
    exact ⟨fun ⟨k, hk, he⟩ => by simp only [slotAt] at he; omega, fun h => ⟨slots - 1 - j, by omega, by simp only [slotAt]; omega⟩⟩

theorem mark_presetSlots {slots c : Nat} (hc : c ≤ slots) (dir : FillDir) :
    SlotTable.mark ⟨List.replicate slots .empty, c⟩ ((List.range c).map (slotAt dir slots)) (.occupied none) =
      ⟨(List.range slots).map fun j => if dir.fills slots c j then .occupied none else .empty, c⟩ := by
  refine congrArg (fun l => (⟨l, c⟩ : SlotTable)) (List.ext_getElem? fun j => ?_)
  refine (SlotTable.getElem?_mark (t := ⟨List.replicate slots .empty, c⟩) (v := .occupied none) _ j).trans ?_
  by_cases hj : j < slots
  · simp only [mem_presetSlots hc hj, List.length_replicate, hj, and_true, List.getElem?_map, List.getElem?_range,
      List.getElem?_replicate, if_true, Option.map_some, apply_ite some]
  · simp [hj]

theorem Bay.preset_normal {b : Bay} {v slots pitch : Nat} {dir : FillDir} (hk : b.kind = .normal v slots pitch dir)
    {c : Nat} (hc : c ≤ slots) : b.preset c = { b with
      state := .ready,
      table := some ⟨(List.range slots).map fun j => if dir.fills slots c j then .occupied none else .empty, c⟩ } := by
  unfold Bay.preset
  rw [hk]
  dsimp only
  rw [mark_presetSlots hc]

theorem Bay.preset_reject {b : Bay} {cap : Nat} (hk : b.kind = .reject cap) (c : Nat) :
    b.preset c = { b with state := .ready, placed := c } := by
  unfold Bay.preset
  rw [hk]

theorem requestBayPreset_unnamed {tag : Half} (h : 8 ≤ byteNat p 4) : requestBayPreset tag p s = refuse .badArgument s := by
  simp only [requestBayPreset, Operand.bay, bayOfByte_of_le h]

theorem requestBayPreset_named {tag : Half} (hid : byteNat p 4 = id.val) : requestBayPreset tag p s =
    let b := s.bay id
    if b.state = .inactive ∨ b.state = .absent then refuse .state s
    else if b.holdsPlacement then refuse .inUse s
    else
      let c := min (halfNat p 5) b.kind.limit
      let s1 := if c = b.kind.limit then becomeFull tag id (modBay id (fun b => b.preset c) s) else modBay id (fun b => b.preset c) s
      (s1, doneOr (c != halfNat p 5), [(s1.bay id).state.code]) := by
  simp only [requestBayPreset, Operand.bay, bayOfByte_eq hid, Operand.fillCount, Bay.inUse_eq]
  rfl

/-- R84: a bay declared filled to a count is READY, or FULL at its limit with its notice. -/
theorem requestBayPreset_fills {tag : Half} (hid : byteNat p 4 = id.val)
    (hst : ¬((s.bay id).state = .inactive ∨ (s.bay id).state = .absent)) (huse : (s.bay id).holdsPlacement = false)
    {limit c : Nat} {b' : Bay}
    (hlimit : (s.bay id).kind.limit = limit) (hc : min (halfNat p 5) limit = c) (hb : (s.bay id).preset c = { b' with state := .ready })
    (hlimits : ({ b' with state := .ready } : Bay).limits = (limit, c)) :
    requestBayPreset tag p s =
      (if c = limit then post tag (.bayFull id limit c) (setBay id { b' with state := .full } s)
        else setBay id { b' with state := .ready } s,
      if c = halfNat p 5 then .done else .clamped, [if c = limit then 3 else 2]) := by
  rw [requestBayPreset_named hid]
  simp only [if_neg hst, huse, hlimit, hc, doneOr_bne]
  have hset : modBay id (fun b => b.preset c) s = setBay id { b' with state := .ready } s := by rw [modBay_eq, hb]
  have hfull : becomeFull tag id (modBay id (fun b => b.preset c) s) =
      post tag (.bayFull id limit c) (setBay id { b' with state := .full } s) := by
    rw [becomeFull_modBay, bay_modBay, if_pos rfl, hb, hlimits, modBay_eq, hb]
  rw [hset] at hfull ⊢
  rw [hfull]
  have hposted (n : Notice) (x : Bay) : ((post tag n (setBay id x s)).bay id) = x := bay_setBay_same s id x
  by_cases h : c = limit
  · simp only [if_pos h, Bool.false_eq_true, if_false, hposted, BayState.code]
  · simp only [if_neg h, Bool.false_eq_true, if_false, bay_setBay_same, BayState.code]

/-! ### BAY-READ (R98) -/

theorem Bay.slotCounts_eq (b : Bay) : b.slotCounts =
    let tally (c : Byte) : List Byte :=
      leBytes 1 (match b.table with | some t => (t.slots.filter fun x => decide (x.code = c)).length | none => 0)
    tally 0 ++ tally 1 ++ tally 2 ++ tally 3 := by
  unfold Bay.slotCounts
  cases b.table with
  | none => rfl
  | some t => simp [SlotTable.tally, List.countP_eq_length_filter]

theorem State.openIn_eq : s.openIn id = (s.placements.filter fun x => decide (x.dest.bay = id)).length := by
  rw [State.openIn, List.countP_eq_length_filter]
  exact congrArg List.length (List.filter_congr fun x _ => beq_eq_decide ..)

theorem requestBayRead_unnamed (h : 8 ≤ byteNat p 4 ∨ 2 ≤ byteNat p 5) : requestBayRead p s = refuse .badArgument s := by
  unfold requestBayRead
  by_cases hid : 8 ≤ byteNat p 4
  · rw [Operand.bay, bayOfByte_of_le hid]
  · have hpart := h.resolve_left hid
    split
    next => rfl
    next =>
      split
      next h0 => exact absurd (h0 ▸ hpart : 2 ≤ 0) (by decide)
      next h1 => exact absurd (h1 ▸ hpart : 2 ≤ 1) (by decide)
      next => rfl

theorem requestBayRead_summary (hid : byteNat p 4 = id.val) (hpart : byteNat p 5 = 0) :
    requestBayRead p s = (s, .done, baySummary s id) := by
  unfold requestBayRead
  rw [Operand.bay, bayOfByte_eq hid]
  dsimp only
  rw [show (Operand.part p).toNat = 0 from hpart]
  rfl

theorem requestBayRead_slot_kind (hid : byteNat p 4 = id.val) (hpart : byteNat p 5 = 1)
    (hk : (s.bay id).kind = .none ∨ (s.bay id).kind.isReject = true) :
    requestBayRead p s = refuse .state s := by
  unfold requestBayRead
  rw [Operand.bay, bayOfByte_eq hid]
  dsimp only
  simp only [show (Operand.part p).toNat = 1 from hpart]
  split
  next v slots pitch dir hn => simp [hn, BayKind.isReject] at hk
  next => rfl

theorem requestBayRead_slot_normal (hid : byteNat p 4 = id.val) (hpart : byteNat p 5 = 1) {v slots pitch : Nat} {dir : FillDir}
    (hk : (s.bay id).kind = .normal v slots pitch dir) : requestBayRead p s =
      if slots ≤ byteNat p 6 then refuse .badArgument s
      else ((s.bay id).table.map fun t => (s, Result.done, slotFields s dir t (byteNat p 6))).getD (refuse .state s) := by
  unfold requestBayRead
  rw [Operand.bay, bayOfByte_eq hid]
  dsimp only
  rw [show (Operand.part p).toNat = 1 from hpart, hk]
  dsimp only
  cases (s.bay id).table <;> rfl

/-- R98: what SLOT shows of the board in a slot, or of the board it is RESERVED for. -/
def State.slotShown (s : State) (x : SlotState) : List Byte :=
  match x with
  | .occupied (some r) => [1, nestCode r.nest] ++ leBytes 1 r.board ++ leBytes 2 r.serial.toNat
  | .reserved r => [1, nestCode r.nest] ++ leBytes 1 r.board ++
      (match s.placements.find? fun y => y.ref == r with
      | some y => leBytes 2 y.cycle.toNat ++ leBytes 2 (y.deadline - s.now)
      | none => [0, 0, 0, 0])
  | _ => [0, 0, 0]

theorem slotFields_eq {dir : FillDir} {t : SlotTable} {slot : Nat} {x : SlotState} (hx : t.slots[slot]? = some x) :
    slotFields s dir t slot = [x.code] ++ leBytes 1 (slotAt dir t.slots.length slot) ++ s.slotShown x := by
  have hget : t.slots.getD slot .empty = x := by simp [hx]
  unfold slotFields State.slotShown
  rw [hget]
  dsimp only [State.placementOf]
  cases x with
  | empty => rfl
  | skipped => rfl
  | occupied o => cases o <;> rfl
  | reserved r => cases s.placements.find? fun y => y.ref == r <;> rfl

theorem baySummary_none (hk : (s.bay id).kind = .none) : baySummary s id =
    [(s.bay id).kind.code, (s.bay id).state.code, (s.bay id).presence.code] ++ leBytes 1 (s.openIn id) := by
  unfold baySummary
  dsimp only
  rw [hk]
  rfl

theorem baySummary_normal {v slots pitch : Nat} {dir : FillDir} (hk : (s.bay id).kind = .normal v slots pitch dir) : baySummary s id =
    [(s.bay id).kind.code, (s.bay id).state.code, (s.bay id).presence.code] ++ leBytes 1 v ++ leBytes 1 slots ++ leBytes 1 pitch ++
      [dir.code] ++ leBytes 1 (((s.bay id).table.map SlotTable.cursor).getD 0) ++ (s.bay id).slotCounts ++ leBytes 1 (s.openIn id) := by
  unfold baySummary
  dsimp only
  rw [hk]
  simp only [List.append_assoc]

theorem baySummary_reject {c : Nat} (hk : (s.bay id).kind = .reject c) : baySummary s id =
    [(s.bay id).kind.code, (s.bay id).state.code, (s.bay id).presence.code] ++ leBytes 2 c ++ leBytes 2 (s.bay id).reserved ++
      leBytes 2 (s.bay id).placed ++ leBytes 1 (s.openIn id) := by
  unfold baySummary
  dsimp only
  rw [hk]
  simp only [List.append_assoc]

end Configured

/-- Settles O55: the kind a BAY-CONFIG gives, the count a BAY-PRESET declares and the fields of a BAY-READ. -/
theorem baysAreConfiguredAndRead : Obligations.BaysAreConfiguredAndRead := by
  refine ⟨?config, ?preset, ?read⟩
  case config =>
    intro w s f rest more h p answer named slots pitch capacity kind clamped
    refine ⟨fun hn => h.next (requestBayConfig_unnamed hn), ?_⟩
    intro id hid hn second b state
    obtain ⟨moved, hconfig, hmoved⟩ := configKind_named hn.2
    have hreq := requestBayConfig_named (s := s) hid hconfig
    have hsecond : (givenKind w.payload).isReject = true ∧ s.otherReject id = true ↔ second :=
      and_congr givenKind_isReject State.otherReject_iff
    have huse : (s.bay id).inUse = b.holdsPlacement := Bay.inUse_eq _
    have hstate : (b.configured (givenKind w.payload)).state = state := if_congr (givenKind_eq_none hn.2) rfl rfl
    refine ⟨fun h2 => h.next (hreq.trans (if_pos (hsecond.mpr h2))), fun h2 hu => ?_, fun h2 hu => ?_⟩
    · exact h.next (hreq.trans ((if_neg (mt hsecond.mp h2)).trans (if_pos (huse.trans hu))))
    · have hset : b.configured (givenKind w.payload) =
          { kind := kind, state := state, presence := b.presence, table := none, reserved := 0, placed := 0 } := by
        rw [← hstate]
        rfl
      have hdone : doneOr moved = if clamped then .clamped else .done := if_congr hmoved rfl rfl
      refine h.next (hreq.trans ((if_neg (mt hsecond.mp h2)).trans ((if_neg ?_).trans ?_)))
      · rw [huse, hu]
        exact Bool.false_ne_true
      · rw [hset, hdone]
  case preset =>
    intro w s f rest more h p answer
    refine ⟨fun hle => h.next (requestBayPreset_unnamed hle), ?_⟩
    intro id hid b done
    refine ⟨fun hst => h.next ?state, fun hi ha hu => h.next ?used, fun hi ha hu =>
      ⟨fun v slots pitch dir hk => h.next ?normal, fun cap hk => h.next ?reject⟩⟩
    case state => exact (requestBayPreset_named hid).trans (if_pos hst)
    case used => exact (requestBayPreset_named hid).trans ((if_neg (not_or.mpr ⟨hi, ha⟩)).trans (if_pos hu))
    case normal =>
      have hle : min (halfNat w.payload 5) slots ≤ slots := Nat.min_le_right ..
      exact requestBayPreset_fills (b' := { b with table := some _ }) hid (not_or.mpr ⟨hi, ha⟩) hu (by rw [hk]; rfl) rfl
        (Bay.preset_normal hk hle) (by simp only [Bay.limits, hk]; rfl)
    case reject =>
      exact requestBayPreset_fills (b' := { b with placed := _ }) hid (not_or.mpr ⟨hi, ha⟩) hu (by rw [hk]; rfl) rfl
        (Bay.preset_reject hk _) (by simp only [Bay.limits, hk])
  case read =>
    intro w s f rest more h p answer
    refine ⟨fun hn => h.next (requestBayRead_unnamed hn), ?_⟩
    intro id hid b slot openHere tally head
    refine ⟨fun h0 => ⟨fun hk => h.next ?none, fun v slots pitch dir hk => h.next ?normal, fun c hk => h.next ?reject⟩,
      fun h1 => ⟨fun hk => h.next (requestBayRead_slot_kind hid h1 hk), fun v slots pitch dir hk =>
        ⟨fun hle => h.next ?beyond, fun hlt ht => h.next ?bare, fun t hlt ht hlen x hx => h.next ?slot⟩⟩⟩
    case none =>
      refine (requestBayRead_summary hid h0).trans (congrArg (fun l => (s, Result.done, l)) ?_)
      rw [baySummary_none hk, State.openIn_eq]
    case normal =>
      refine (requestBayRead_summary hid h0).trans (congrArg (fun l => (s, Result.done, l)) ?_)
      have hcursor : (b.table.map SlotTable.cursor).getD 0 = match b.table with | some t => t.cursor | none => 0 := by
        cases b.table <;> rfl
      have hcounts : b.slotCounts = tally 0 ++ tally 1 ++ tally 2 ++ tally 3 := Bay.slotCounts_eq b
      rw [baySummary_normal hk, State.openIn_eq]
      simp only [b, head, openHere, hcursor, hcounts, List.append_assoc] <;> rfl
    case reject =>
      refine (requestBayRead_summary hid h0).trans (congrArg (fun l => (s, Result.done, l)) ?_)
      rw [baySummary_reject hk, State.openIn_eq]
    case beyond => exact (requestBayRead_slot_normal hid h1 hk).trans (if_pos hle)
    case bare => exact (requestBayRead_slot_normal hid h1 hk).trans ((if_neg (Nat.not_le.mpr hlt)).trans (by rw [ht]; rfl))
    case slot =>
      have hfields : slotFields s dir t slot = _ := slotFields_eq hx
      rw [hlen] at hfields
      refine (requestBayRead_slot_normal hid h1 hk).trans ((if_neg (Nat.not_le.mpr hlt)).trans ?_)
      rw [ht, Option.map_some, Option.getD_some]
      exact congrArg (fun l => (s, Result.done, l)) hfields

end Sys2Proof.Machine

/-! PLACE-DONE and the place timer: placements completed and ended, and stray boards (sections 5.7 to 5.9). -/

namespace Sys2Proof.Machine

section Ends
variable {s : State} {x : Placement} {b : BoardRec}

/-! ### The bay of a placement that ends (R92, R93) -/

/-- R85: the slots of a run, named one by one and told by its first slot and its span. -/
theorem mem_runSlots_iff_covers {d : Destination} {dir : FillDir} (h : dir = .down → d.span ≤ d.first + 1) (j : Nat) :
    j ∈ runSlots dir d.first d.span ↔ d.covers dir j = true := by
  simp only [runSlots, List.mem_map, List.mem_range]
  cases dir with
  | up =>
    rw [Destination.covers, decide_eq_true_iff]
    exact ⟨fun ⟨k, hk, he⟩ => by dsimp only at he; omega, fun hj => ⟨j - d.first, by omega, by dsimp only; omega⟩⟩
  | down =>
    have hspan := h rfl
    rw [Destination.covers, decide_eq_true_iff]
    exact ⟨fun ⟨k, hk, he⟩ => by dsimp only at he; omega, fun hj => ⟨d.first - j, by omega, by dsimp only; omega⟩⟩

theorem SlotTable.runHolds_mark {d : Destination} {dir : FillDir} (h : dir = .down → d.span ≤ d.first + 1)
    (t : SlotTable) (v : SlotState) : t.runHolds (t.mark (runSlots dir d.first d.span) v) dir d v := by
  refine ⟨rfl, SlotTable.length_mark .., fun j => ?_⟩
  simp only [List.getD_eq_getElem?_getD, SlotTable.getElem?_mark, mem_runSlots_iff_covers h, j.isLt, and_true]
  split <;> rfl

theorem Bay.markRun_normal {b : Bay} {v slots pitch : Nat} {dir : FillDir} {t : SlotTable} (hk : b.kind = .normal v slots pitch dir)
    (ht : b.table = some t) (d : Destination) (x : SlotState) :
    b.markRun d x = { b with table := some (t.mark (runSlots dir d.first d.span) x) } := by
  unfold Bay.markRun
  rw [hk, ht]
  rfl

theorem Bay.filled_normal {b : Bay} {v slots pitch : Nat} {dir : FillDir} (hk : b.kind = .normal v slots pitch dir) (d : Destination)
    (x : SlotRef) : b.filled d x = b.markRun d (.occupied (some x)) := by
  unfold Bay.filled
  rw [hk]

theorem Bay.filled_reject {b : Bay} {c : Nat} (hk : b.kind = .reject c) (d : Destination) (x : SlotRef) :
    b.filled d x = { b with reserved := b.reserved - 1, placed := min c (b.placed + 1) } := by
  unfold Bay.filled
  rw [hk]

theorem Bay.releaseRun_normal {b : Bay} {v slots pitch : Nat} {dir : FillDir} (hk : b.kind = .normal v slots pitch dir) (d : Destination) :
    b.releaseRun d = b.markRun d .skipped := by
  unfold Bay.releaseRun
  rw [hk]

theorem Bay.releaseRun_reject {b : Bay} {c : Nat} (hk : b.kind = .reject c) (d : Destination) : b.releaseRun d = b.dropReserved c := by
  unfold Bay.releaseRun
  rw [hk]

/-! ### The board of a placement that ends -/

theorem BoardRec.unplaced_eq (b : BoardRec) : b.unplaced =
    if b.state = .inTransit then { b with dest := none } else if b.state = .placing then { b with state := .lost } else b := by
  unfold BoardRec.unplaced
  cases b.state <;> rfl

theorem boardStateAt_of (hb : s.boardAt r = some b) : s.boardStateAt r = b.state := by
  rw [State.boardStateAt, hb]
  rfl

/-- R93: the board's state that the notice carries is the one it has been given. -/
theorem endPlacement_eq (hb : s.boardAt x.ref = some b) (tag : Half) (reason : PlaceReason) : endPlacement tag x reason s =
    post tag (.placeFailed x.ref x.dest.bay x.dest.first reason b.unplaced.state)
      (settleNest tag x.ref.nest (modBoard x.ref (fun _ => b.unplaced)
        (modBay x.dest.bay (fun b => b.releaseRun x.dest) (closePlacement x.ref s)))) := by
  have hb' : (modBay x.dest.bay (fun b => b.releaseRun x.dest) (closePlacement x.ref s)).boardAt x.ref = some b := hb
  have hboard : (settleNest tag x.ref.nest (modBoard x.ref (fun _ => b.unplaced)
      (modBay x.dest.bay (fun b => b.releaseRun x.dest) (closePlacement x.ref s)))).boardAt x.ref = some b.unplaced := by
    rw [State.boardAt_settleNest, State.boardAt_modBoard_same, hb']
    rfl
  unfold endPlacement
  dsimp only
  rw [modBoard_congr hb' (g := fun _ => b.unplaced) rfl, boardStateAt_of hboard]

/-! ### The placement a report matches (R91) -/

theorem matchPlacement_eq (s : State) (id : BayId) (first : Nat) : matchPlacement s id first = s.matched id first := by
  have hplacing (p : Placement) : decide (s.boardStateAt p.ref = .placing) =
      decide ((s.boardAt p.ref).map BoardRec.state = some .placing) := by
    unfold State.boardStateAt
    cases s.boardAt p.ref <;> simp
  unfold matchPlacement State.matched
  dsimp only
  cases (s.bay id).kind with
  | none => rfl
  | normal v slots pitch dir => simp only [List.find?_filter, beq_eq_decide, Bool.decide_and, Bool.decide_eq_true]
  | reject c =>
    simp only [List.find?_filter, List.head?_filter, beq_eq_decide, hplacing, Bool.decide_and, Bool.decide_eq_true]
    refine if_congr Iff.rfl ?_ rfl
    cases s.placements.find? fun x => decide (x.dest.bay = id) && decide ((s.boardAt x.ref).map BoardRec.state = some .placing) <;> rfl

theorem markSensed_eq (r : BoardRef) (cycle : Half) (s : State) : markSensed r cycle s =
    { s with placements := s.placements.map fun y => { y with sensed := if y.ref = r then some cycle else y.sensed } } := by
  refine congrArg (fun l => { s with placements := l }) (List.map_congr_left fun y _ => ?_)
  split <;> rfl

section Report
variable {w : Wire} {f : UpFrame} {rest : List UpFrame} {more : List Item} {sensed : Bool}

theorem exec_placeDone (h : s.Reporting f rest (itemOf 0x25 w) more) (hr : s.RoleItem .elevator w) :
    exec (.placeDone w) s = .next ((takePlaceDone w () f.cycle s).reportedOn f rest more) :=
  congrArg Host.Outcome.next (walkReport_role (kind := 0x25) (belongs := Role.elevator?) h hr rfl (takePlaceDone w))

/-- R91: a report is taken for the placement it matches, or as a stray. -/
theorem takePlaceDone_eq (hs : payloadByte w.payload 6 = if sensed then 1 else 0) (cycle : Half) : takePlaceDone w () cycle s =
    match (bayOfByte (payloadByte w.payload 4)).bind fun id => s.matched id (byteNat w.payload 5) with
    | some x => takeMatched w.tag cycle x sensed s
    | none => strayPlace w sensed cycle s := by
  have hsensed : Operand.placeSensed w.payload = some sensed := by rw [Operand.placeSensed, hs, boolOfByte_code]
  have hmatch : (fun id => matchPlacement s id (Operand.placeFirst w.payload).toNat) = fun id => s.matched id (byteNat w.payload 5) :=
    funext fun id => matchPlacement_eq s id _
  simp only [takePlaceDone, hsensed, hmatch, Operand.placeBay] <;> rfl

end Report
end Ends

/-- Settles O52: the bay of the placement kind by kind, then the report by what is sensed and where the board stands. -/
theorem placementsComeToAnEnd : Obligations.PlacementsComeToAnEnd := by
  refine ⟨?ends, ?report, ?timer⟩
  case ends =>
    intro tag x cycle reason s b hb bay closed serial kept unplaced given
    have hgiven (bay' : Bay) (h : bay.releaseRun x.dest = bay') : endPlacement tag x reason s = given bay' := by
      rw [endPlacement_eq hb, BoardRec.unplaced_eq, closePlacement_eq, ← h]
      rfl
    have hkept (bay' : Bay) (st : BoardState) (h : bay.filled x.dest ⟨x.ref.nest, x.ref.board, serial⟩ = bay')
        (hst : (if bay.kind.isReject then .rejected else .stacked) = st) : completePlacement tag x cycle s = kept bay' st := by
      rw [completePlacement_eq, closePlacement_eq, ← h, ← hst]
      rfl
    refine ⟨fun v slots pitch dir t hk ht hdown => ⟨⟨_, SlotTable.runHolds_mark hdown t _, hkept _ _ ?_ ?_⟩,
      ⟨_, SlotTable.runHolds_mark hdown t _, hgiven _ ?_⟩⟩,
      fun c hk => ⟨hkept _ _ (Bay.filled_reject hk ..) ?_, hgiven _ (Bay.releaseRun_reject hk _)⟩⟩
    · rw [Bay.filled_normal hk, Bay.markRun_normal hk ht]
    · rw [hk]; rfl
    · rw [Bay.releaseRun_normal hk, Bay.markRun_normal hk ht]
    · rw [hk]; rfl
  case report =>
    intro w s f rest more id sensed x b h hr hid hs hx hb early
    have htake : takePlaceDone w () f.cycle s = takeMatched w.tag f.cycle x sensed s := by
      rw [takePlaceDone_eq hs, bayOfByte_eq hid, Option.bind_some, hx]
    have taken {s' : State} (hs' : takeMatched w.tag f.cycle x sensed s = s') :
        exec (.placeDone w) s = .next (s'.reportedOn f rest more) := by
      rw [exec_placeDone h hr, htake, hs']
    refine ⟨fun hy hp => taken ?_, fun hy hp => taken ?_, fun hn => taken ?_⟩
    · rw [takeMatched, boardStateAt_of hb, if_neg (by simp [hy]), if_pos hp]
    · rw [takeMatched, boardStateAt_of hb, if_neg (by simp [hy]), if_neg hp, markSensed_eq]
    · rw [takeMatched, if_pos hn]
  case timer =>
    intro s x hr hx
    have hplace : s.placementOf { nest := x.ref.nest, board := x.ref.board } = some x := hx
    refine congrArg Host.Outcome.next ?_
    rw [hplace]
    exact expire_running hr _

section Stray
variable {s : State} {id : BayId} {tag : Half}

/-! ### A stray board in a bay (R95) -/

/-- R95: the board stands in a slot, and no record of it is kept. -/
def State.strayIn (s : State) (id : BayId) (slot : Nat) : State :=
  modBay id (fun b => { b with table := b.table.map fun t => { t with slots := t.slots.set slot (.occupied none) } }) s

theorem strayInReject_eq {b : Bay} {c : Nat} (hb : s.bay id = b) (hk : b.kind = .reject c) (hst : b.state = .ready ∨ b.state = .full) :
    strayInReject tag id c s =
      let s2 := setBay id { b with placed := min c (b.placed + 1) } s
      if c ≤ b.reserved + min c (b.placed + 1) ∧ b.state = .ready then
        post tag (.bayFull id c (min c (b.placed + 1))) (modBay id (fun b => { b with state := .full }) s2)
      else s2 := by
  have hne : b.state ≠ .full ↔ b.state = .ready := by rcases hst with h | h <;> simp [h]
  have hlimits : ({ b with placed := min c (b.placed + 1) } : Bay).limits = (c, min c (b.placed + 1)) := by simp only [Bay.limits, hk]
  subst hb
  simp only [strayInReject, modBay_eq, bay_setBay_same, becomeFull, hlimits, hne]

theorem strayInSlot_skipped {slots slot : Nat} {dir : FillDir} {t : SlotTable} (hx : t.slots[slot]? = some .skipped) :
    strayInSlot tag id slots dir t slot s = s.strayIn id slot := by
  unfold strayInSlot
  rw [hx]
  rfl

theorem strayInSlot_reserved {slots slot : Nat} {dir : FillDir} {t : SlotTable} {r : BoardRef} {x : Placement}
    (hx : t.slots[slot]? = some (.reserved r)) (hr : s.placementOf r = some x) :
    strayInSlot tag id slots dir t slot s = (endPlacement tag x .stray s).strayIn id slot := by
  unfold strayInSlot
  rw [hx]
  dsimp only
  rw [hr]
  rfl

theorem strayInSlot_none {slots slot : Nat} {dir : FillDir} {t : SlotTable}
    (h : t.slots[slot]? = none ∨ ∃ ref, t.slots[slot]? = some (.occupied ref)) :
    strayInSlot tag id slots dir t slot s = s := by
  unfold strayInSlot
  rcases h with hx | ⟨ref, hx⟩ <;> rw [hx]

/-- R95: the slots between the cursor and the board are SKIPPED, and the cursor is past it. -/
theorem SlotTable.strayAt_eq {t : SlotTable} {dir : FillDir} {slots slot : Nat} (hlen : t.slots.length = slots) (hslot : slot < slots) :
    t.strayAt dir slots slot = {
      slots := t.slots.mapIdx fun j y => if j = slot then .occupied none
        else if t.cursor ≤ slotAt dir slots j ∧ slotAt dir slots j < slotAt dir slots slot then .skipped else y,
      cursor := slotAt dir slots slot + 1 } := by
  subst hlen
  refine congrArg (fun l => (⟨l, slotAt dir t.slots.length slot + 1⟩ : SlotTable)) (List.ext_getElem? fun j => ?_)
  refine (SlotTable.getElem?_strayAt t dir hslot j).trans ?_
  rw [List.getElem?_mapIdx]
  by_cases hj : j < t.slots.length
  · rw [List.getElem?_eq_getElem hj, Option.map_some]
    simp only [hj, true_and, apply_ite some]
  · have hne : j ≠ slot := by omega
    rw [List.getElem?_eq_none_iff.mpr (Nat.not_lt.mp hj), Option.map_none, if_neg hne, if_neg fun hc => hj hc.1]

theorem strayInSlot_empty {b : Bay} {v slots pitch slot : Nat} {dir : FillDir} {t : SlotTable} (hb : s.bay id = b)
    (hk : b.kind = .normal v slots pitch dir) (hst : b.state = .ready ∨ b.state = .full) (hx : t.slots[slot]? = some .empty) :
    strayInSlot tag id slots dir t slot s =
      let s2 := setBay id { b with table := some (t.strayAt dir slots slot) } s
      if slotAt dir slots slot + 1 = slots ∧ b.state = .ready then
        post tag (.bayFull id slots slots) (modBay id (fun b => { b with state := .full }) s2)
      else s2 := by
  have hne : b.state ≠ .full ↔ b.state = .ready := by rcases hst with h | h <;> simp [h]
  have hcursor : (t.strayAt dir slots slot).cursor = slotAt dir slots slot + 1 := rfl
  have hlimits : ({ b with table := some (t.strayAt dir slots slot) } : Bay).limits = (slots, slotAt dir slots slot + 1) := by
    simp only [Bay.limits, hk]
    rfl
  have hfull : ({ b with table := some (t.strayAt dir slots slot) } : Bay).atLimit = true ↔ slotAt dir slots slot + 1 = slots := by
    simp [Bay.atLimit, hk, hcursor]
  subst hb
  unfold strayInSlot
  rw [hx]
  simp only [modBay_eq, bay_setBay_same, becomeFull, hlimits, hfull, hne]
  refine ite_congr rfl (fun h => ?_) fun _ => rfl
  rw [h.1]

end Stray

/-- Settles O53: a stray report is told first, and a sensed board is accounted for by the state and the kind of its bay. -/
theorem strayPlaceIsAccountedFor : Obligations.StrayPlaceIsAccountedFor := by
  intro w s f rest more sensed h hr hs hnone slot s1 takes
  have htake : takePlaceDone w () f.cycle s = strayPlace w sensed f.cycle s := by
    rw [takePlaceDone_eq hs]
    by_cases hid : byteNat w.payload 4 < 8
    · rw [bayOfByte_eq (i := ⟨byteNat w.payload 4, hid⟩) rfl, Option.bind_some, hnone ⟨_, hid⟩ rfl]
    · rw [bayOfByte_of_le (Nat.le_of_not_lt hid), Option.bind_none]
  have taken {s' : State} (hs' : strayPlace w sensed f.cycle s = s') : takes s' := by
    change exec (.placeDone w) s = _
    rw [exec_placeDone h hr, htake, hs']
  have hbay {id : BayId} (hid : byteNat w.payload 4 = id.val) (hy : sensed = true) :
      strayPlace w sensed f.cycle s = strayInBay w.tag id slot s1 := by
    unfold strayPlace
    rw [Operand.placeBay, bayOfByte_eq hid]
    exact if_pos hy
  refine ⟨fun hno => taken ?unsensed, ?_⟩
  case unsensed =>
    unfold strayPlace
    rcases hno with rfl | hle
    · dsimp only
      split <;> rfl
    · rw [Operand.placeBay, bayOfByte_of_le hle]
      rfl
  intro id hid hy b full
  have hb : s1.bay id = b := rfl
  refine ⟨fun hready hfull => taken ((hbay hid hy).trans (if_neg (not_or.mpr ⟨hready, hfull⟩))), fun hst => ⟨?reject, ?normal⟩⟩
  case reject =>
    intro c hk placed s2
    have hin : strayInBay w.tag id slot s1 = strayInReject w.tag id c s1 := by
      unfold strayInBay
      dsimp only
      rw [hb, if_pos hst, hk]
    exact taken ((hbay hid hy).trans (hin.trans (strayInReject_eq hb hk hst)))
  case normal =>
    intro v slots pitch dir t hk ht hlen pos put
    have hin : strayInBay w.tag id slot s1 = strayInSlot w.tag id slots dir t slot s1 := by
      unfold strayInBay
      dsimp only
      rw [hb, if_pos hst, hk, ht]
    have hslot := (hbay hid hy).trans hin
    refine ⟨fun hle => taken ?beyond, fun ref hx => taken ?occupied, fun hx => taken ?skipped, fun hx hcur => ?empty,
      fun r x hx hx' => taken ?reserved⟩
    case beyond => exact hslot.trans (strayInSlot_none (.inl (List.getElem?_eq_none_iff.mpr (hlen ▸ hle))))
    case occupied => exact hslot.trans (strayInSlot_none (.inr ⟨ref, hx⟩))
    case skipped => exact hslot.trans (strayInSlot_skipped hx)
    case reserved => exact hslot.trans (strayInSlot_reserved hx hx')
    case empty =>
      intro t' s2
      have hlt : slot < slots := hlen ▸ (List.getElem?_eq_some_iff.mp hx).1
      have ht' : t.strayAt dir slots slot = t' := SlotTable.strayAt_eq hlen hlt
      refine taken (hslot.trans ((strayInSlot_empty hb hk hst hx).trans ?_))
      rw [ht']
      rfl

end Sys2Proof.Machine

/-! PLACE: its checks, the search of the bays and the run it reserves (sections 5.5, 5.6 and 5.10). -/

namespace Sys2Proof.Machine

section Search
variable {s u : State} {id : BayId} {variant height : Nat}

/-! ### The search (R85, R87) -/

/-- R85: the span, rounded up. -/
theorem spanOf_eq_ceilDiv {pitch : Nat} (hp : 1 ≤ pitch) (height : Nat) : spanOf height pitch = ceilDiv height pitch := by
  have hdiv := Nat.div_add_mod height pitch
  have hlt := Nat.mod_lt height hp
  unfold spanOf ceilDiv
  split
  next h0 =>
    refine Nat.div_eq_of_lt_le ?_ ?_
    · rw [Nat.mul_comm]; omega
    · rw [Nat.succ_mul, Nat.mul_comm]; omega
  next h0 =>
    refine Nat.div_eq_of_lt_le ?_ ?_
    · rw [Nat.succ_mul, Nat.mul_comm]; omega
    · rw [Nat.succ_mul, Nat.succ_mul, Nat.mul_comm]; omega

/-- R77: a bay's pitch is none of 0. -/
theorem Bay.Ok.pitch {b : Bay} (h : b.Ok) {v slots pitch : Nat} {dir : FillDir}
    (hk : b.kind = .normal v slots pitch dir) : 1 ≤ pitch := by
  obtain ⟨h1, -⟩ := h
  rw [hk] at h1
  simp only [BayKind.Ok] at h1
  omega

/-- R85: a judged bay fits a board as its room and its lack of room say. -/
theorem fitIn_eq (h : (s.bay id).Ok) {slots pitch : Nat} {dir : FillDir} {t : SlotTable}
    (hk : (s.bay id).kind = .normal variant slots pitch dir)
    (hst : (s.bay id).state = .ready) (ht : (s.bay id).table = some t) :
    fitIn id slots pitch dir t.cursor height =
      if s.noRoomIn variant height id then .noRoom else (s.roomIn variant height id).elim .unfittable .room := by
  have hjudged : s.judgedBay variant height id = some (slots, spanOf height pitch, t.cursor, dir) := by
    simp [State.judgedBay, hk, hst, ht, spanOf_eq_ceilDiv (h.pitch hk)]
  unfold fitIn State.noRoomIn State.roomIn
  rw [hjudged]
  dsimp only
  by_cases hfits : slots < spanOf height pitch
  · rw [if_pos hfits]
    cases dir <;> simp [Nat.not_le.mpr hfits]
  · by_cases hroom : t.cursor + spanOf height pitch ≤ slots
    · cases dir <;> simp [hfits, hroom, Nat.not_lt.mp hfits, Nat.not_lt.mpr hroom, slotAt]
    · cases dir <;> simp [hfits, hroom, Nat.not_lt.mp hfits, Nat.not_le.mp hroom]

theorem State.judgedBay_congr (h : u.bay id = s.bay id) : u.judgedBay variant height id = s.judgedBay variant height id := by
  unfold State.judgedBay
  rw [h]

theorem State.roomIn_congr (h : u.bay id = s.bay id) : u.roomIn variant height id = s.roomIn variant height id := by
  unfold State.roomIn
  rw [State.judgedBay_congr h]

theorem State.noRoomIn_congr (h : u.bay id = s.bay id) : u.noRoomIn variant height id = s.noRoomIn variant height id := by
  unfold State.noRoomIn
  rw [State.judgedBay_congr h]

/-- R85: a bay that lacks room has none. -/
theorem State.roomIn_of_noRoomIn (h : s.noRoomIn variant height id = true) : s.roomIn variant height id = none := by
  unfold State.noRoomIn at h
  unfold State.roomIn
  split at h
  next slots k cursor dir hj =>
    have hlack := (decide_eq_true_iff.mp h).2
    rw [hj]
    cases dir <;> exact if_neg fun hc => absurd hc.2 (Nat.not_le.mpr hlack)
  next => cases h

/-- R85: a bay that is not judged has neither room nor a lack of it. -/
theorem State.roomIn_unjudged (h : s.judgedBay variant height id = none) :
    s.roomIn variant height id = none ∧ s.noRoomIn variant height id = false := by
  unfold State.roomIn State.noRoomIn
  rw [h]
  exact ⟨rfl, rfl⟩

/-- R87: one bay of the search. -/
theorem searchVariant_cons (h : (s.bay id).Ok) (tag : Half) (rest : List BayId) : searchVariant tag variant height (id :: rest) s =
    (s.roomIn variant height id).elim
      (searchVariant tag variant height rest (if s.noRoomIn variant height id then becomeFull tag id s else s)) (fun d => (s, some d)) := by
  have hskip (hj : s.judgedBay variant height id = none) : searchVariant tag variant height rest s =
      (s.roomIn variant height id).elim
        (searchVariant tag variant height rest (if s.noRoomIn variant height id then becomeFull tag id s else s))
        (fun d => (s, some d)) := by
    obtain ⟨hroom, hlack⟩ := State.roomIn_unjudged hj
    rw [hroom, hlack]
    rfl
  rw [searchVariant]
  split
  next v slots pitch dir t hk hst ht =>
    by_cases hv : v = variant
    · subst hv
      rw [if_pos rfl, fitIn_eq h hk hst ht]
      cases hlack : s.noRoomIn v height id with
      | true => rw [State.roomIn_of_noRoomIn hlack]; rfl
      | false => cases s.roomIn v height id <;> rfl
    · rw [if_neg hv]
      exact hskip (by simp [State.judgedBay, hk, ht, hv])
  next hno =>
    refine hskip ?_
    unfold State.judgedBay
    split
    next v slots pitch dir t hk ht => exact if_neg fun hc => hno v slots pitch dir t hk hc.2 ht
    next => rfl

/-- R87: the search goes through the bays up to the first with room, and those that lack it become FULL in their order. -/
theorem searchVariant_eq (tag : Half) (l : List BayId) (hl : l.Nodup) (u : State)
    (h : ∀ id ∈ l, u.bay id = s.bay id ∧ (s.bay id).Ok) :
    searchVariant tag variant height l u =
      (((l.takeWhile fun id => (s.roomIn variant height id).isNone).filter (s.noRoomIn variant height)).foldl
        (fun s id => becomeFull tag id s) u, l.findSome? (s.roomIn variant height)) := by
  induction l generalizing u with
  | nil => rfl
  | cons id rest ih =>
    obtain ⟨hid, hrest⟩ := List.nodup_cons.mp hl
    obtain ⟨hbay, hok⟩ := h id (List.mem_cons_self ..)
    have htail := fun j hj => h j (List.mem_cons_of_mem _ hj)
    rw [searchVariant_cons (hbay ▸ hok), State.roomIn_congr hbay, State.noRoomIn_congr hbay]
    cases hroom : s.roomIn variant height id with
    | some d => simp [hroom]
    | none =>
      have hother : ∀ j ∈ rest, (if s.noRoomIn variant height id then becomeFull tag id u else u).bay j = s.bay j ∧ (s.bay j).Ok := by
        intro j hj
        refine ⟨Eq.trans ?_ (htail j hj).1, (htail j hj).2⟩
        split
        · exact (bay_modBay (s := u) id j fun r => { r with state := .full }).trans (if_neg (ne_of_mem_of_not_mem hj hid).symm)
        · rfl
      rw [Option.elim_none, ih hrest _ hother]
      cases hlack : s.noRoomIn variant height id <;> simp [hroom, hlack]

/-- R87 for the whole magazine. -/
theorem searchVariant_allBays (h : s.BayInv) (tag : Half) : searchVariant tag variant height allBays s =
    (s.searched tag variant height, allBays.findSome? (s.roomIn variant height)) :=
  searchVariant_eq tag allBays (by decide) s fun id _ => ⟨rfl, h.1 id⟩

end Search

section Reserved
variable {s : State} {d : Destination} {r : BoardRef} {b : Bay}

/-! ### The run is reserved (R88) -/

theorem SlotTable.withRun_eq {dir : FillDir} (h : dir = .down → d.span ≤ d.first + 1) (t : SlotTable) (r : BoardRef) :
    { t.mark (runSlots dir d.first d.span) (.reserved r) with cursor := t.cursor + d.span } = t.withRun dir d r := by
  refine congrArg (fun l => (⟨l, t.cursor + d.span⟩ : SlotTable)) (List.ext_getElem? fun j => ?_)
  refine (SlotTable.getElem?_mark ..).trans ?_
  rw [List.getElem?_mapIdx]
  by_cases hj : j < t.slots.length
  · rw [List.getElem?_eq_getElem hj, Option.map_some]
    simp only [mem_runSlots_iff_covers h, hj, and_true, apply_ite some]
  · rw [List.getElem?_eq_none_iff.mpr (Nat.not_lt.mp hj), Option.map_none, if_neg fun hc => hj hc.2]

theorem Bay.reserve_normal {v slots pitch : Nat} {dir : FillDir} {t : SlotTable} (hk : b.kind = .normal v slots pitch dir)
    (ht : b.table = some t) (h : dir = .down → d.span ≤ d.first + 1) (r : BoardRef) :
    b.reserve d r = { b with table := some (t.withRun dir d r) } := by
  have hmark : b.reserve d r = { b.markRun d (.reserved r) with
      table := (b.markRun d (.reserved r)).table.map fun t => { t with cursor := t.cursor + d.span } } := by
    unfold Bay.reserve
    rw [hk]
  rw [hmark, Bay.markRun_normal hk ht]
  exact congrArg (fun t => { b with table := some t }) (SlotTable.withRun_eq h t r)

theorem Bay.reserve_reject {c : Nat} (hk : b.kind = .reject c) (d : Destination) (r : BoardRef) :
    b.reserve d r = { b with reserved := b.reserved + 1 } := by
  unfold Bay.reserve
  rw [hk]

/-- R88: the bay a run may be reserved in: REJECT, or NORMAL with a table in which the run goes down no further than slot 0. -/
def Bay.CanReserve (b : Bay) (d : Destination) : Prop :=
  (∃ c, b.kind = .reject c) ∨
    ∃ v slots pitch dir t, b.kind = .normal v slots pitch dir ∧ b.table = some t ∧ (dir = .down → d.span ≤ d.first + 1)

/-- R88: the bay after the run is reserved, by its kind. -/
theorem Bay.CanReserve.reserve_eq (h : b.CanReserve d) (r : BoardRef) : b.reserve d r =
    match b.kind, b.table with
    | .normal _ _ _ dir, some t => { b with table := some (t.withRun dir d r) }
    | .reject _, _ => { b with reserved := b.reserved + 1 }
    | _, _ => b := by
  rcases h with ⟨c, hk⟩ | ⟨v, slots, pitch, dir, t, hk, ht, hdown⟩
  · rw [Bay.reserve_reject hk]
    simp only [hk] <;> rfl
  · rw [Bay.reserve_normal hk ht hdown]
    simp only [hk, ht] <;> rfl

theorem Bay.atLimit_eq (b : Bay) : b.atLimit =
    match b.kind, b.table with
    | .normal _ slots _ _, some t => decide (t.cursor = slots)
    | .reject capacity, _ => decide (b.reserved + b.placed = capacity)
    | _, _ => false := by
  unfold Bay.atLimit
  cases b.kind with
  | none => rfl
  | reject c => rfl
  | normal v slots pitch dir => cases b.table <;> simp <;> rfl

/-- R88, R90: the board takes its destination, and its placement record is opened after others. -/
def State.opened (u : State) (cycle : Half) (r : BoardRef) (d : Destination) (others : List Placement) (deadline : Nat) : State :=
  { modBoard r (fun b => { b with dest := some d }) u with
    placements := others ++ [{ ref := r, dest := d, cycle := cycle, sensed := none, deadline := deadline }] }

theorem reservePlace_eq (h : (s.bay d.bay).CanReserve d) (tag cycle : Half) (r : BoardRef) :
    reservePlace tag cycle r d s = s.reservedFor tag cycle r d := by
  have hopen (c : Prop) [Decidable c] (v : Bay) :
      let u := if c then becomeFull tag d.bay (setBay d.bay v s) else setBay d.bay v s
      u.opened cycle r d u.placements (u.now + u.timing.place) = u.opened cycle r d s.placements (s.now + s.timing.place) := by
    by_cases hc : c
    · rw [if_pos hc]; rfl
    · rw [if_neg hc]; rfl
  unfold reservePlace State.reservedFor
  dsimp only
  rw [modBay_eq, modBay_eq, h.reserve_eq, Bay.atLimit_eq]
  exact hopen _ _

end Reserved
section Judged
variable {s u : State} {q : PickerId} {f : DownFrame} {rest : List DownFrame} {w : Wire} {more : List Item} {r : BoardRef} {b : BoardRec}

/-- R86: the checks of a PLACE, each beside the code its failure gives. -/
def placeChecks (s : State) (q : PickerId) : List (Bool × RefusalCode) :=
  [(decide (s.line.state = .running), .halted), (decide ((s.picker q).state ≠ .jammed), .pickerFault),
    (decide ((s.picker q).state = .holding), .pickerEmpty),
    (((s.picker q).board.bind s.boardAt).any fun b => decide (b.state = .inTransit ∧ b.dest = none), .boardState)]

theorem firstFailing_placeChecks : firstFailing (placeChecks s q) = refusalIn (checkPlace s q) := by
  simp only [placeChecks, firstFailing_cons, decide_eq_true_eq, checkPlace]
  by_cases hrun : s.line.state = .running
  · rw [if_pos hrun, if_neg (not_not_intro hrun)]
    cases hk : (s.picker q).state with
    | jammed | empty | closing | opening => simp [refusalIn]
    | holding =>
      cases hr : (s.picker q).board with
      | none => simp [refusalIn]
      | some r =>
        cases hb : s.boardAt r with
        | none => simp [hb, refusalIn]
        | some b =>
          simp only [Option.bind_some, hb, Option.any_some, decide_eq_true_eq, ne_eq, reduceCtorEq, not_false_eq_true, if_true]
          split <;> rfl
  · rw [if_neg hrun, if_pos hrun]
    rfl

theorem exec_place (h : s.Walking f rest (itemOf 0x16 w) more) (hr : s.RoleItem (.picker q) w) :
    exec (.place w) s = .next ((settle (itemOf 0x16 w) (judgePlace f.cycle (itemOf 0x16 w) q s)).1.walkedOn f rest more
      (settle (itemOf 0x16 w) (judgePlace f.cycle (itemOf 0x16 w) q s)).2) :=
  congrArg Host.Outcome.next (walkGated_role (belongs := Role.picker?) h hr rfl judgePlace)

/-! ### The REJECT route (R87) -/

theorem State.rejectBay_eq_some {id : BayId} (hid : (s.bay id).kind.isReject = true)
    (hone : ∀ j, (s.bay j).kind.isReject = true → j = id) : s.rejectBay = some id := by
  have hall (j : BayId) : j ∈ allBays := by revert j; decide
  have hfinds : s.rejectBay = allBays.find? fun j => (s.bay j).kind.isReject := by
    refine congrArg (allBays.find? ·) (funext fun j => ?_)
    cases (s.bay j).kind <;> rfl
  rw [hfinds]
  cases hfind : allBays.find? fun j => (s.bay j).kind.isReject with
  | none => exact absurd hid (List.find?_eq_none.mp hfind id (hall id))
  | some j => rw [hone j (List.find?_some (p := fun j => (s.bay j).kind.isReject) hfind)]

theorem State.rejectBay_eq_none (h : ∀ j, (s.bay j).kind.isReject = false) : s.rejectBay = none := by
  refine List.find?_eq_none.mpr fun j _ => ?_
  have hj := h j
  cases hk : (s.bay j).kind <;> simp [hk, BayKind.isReject] at hj ⊢

theorem searchReject_eq {id : BayId} (h : s.rejectBay = some id) :
    searchReject s = if (s.bay id).state = .ready then some ⟨id, 0, 1⟩ else none := by
  unfold searchReject
  rw [h]

/-! ### The verdict by the route (R87 to R89) -/

theorem judgePlace_reject (hc : checkPlace s q = .ok (r, b)) (hroute : goesToReject s r.nest b = true) (cycle : Half) (it : Item) :
    judgePlace cycle it q s = (searchReject s).elim (.void .noSlot s [.noRoom r s.rejectBay])
      fun d => .pass (reservePlace it.tag cycle r d s) (withRun it d) := by
  unfold judgePlace
  rw [hc]
  dsimp only
  rw [if_pos hroute]
  cases searchReject s <;> rfl

theorem judgePlace_variant (h : s.BayInv) (hc : checkPlace s q = .ok (r, b)) (hroute : goesToReject s r.nest b = false)
    (cycle : Half) (it : Item) :
    judgePlace cycle it q s =
      let s1 := s.searched it.tag b.variant b.height
      (allBays.findSome? (s.roomIn b.variant b.height)).elim (.void .noSlot { s1 with free := s1.free + 1 } [variantFailure s1 r b])
        fun d => .pass (reservePlace it.tag cycle r d s1) (withRun it d) := by
  unfold judgePlace
  rw [hc]
  dsimp only
  rw [if_neg (Bool.eq_false_iff.mp hroute), searchVariant_allBays h]
  dsimp only
  cases allBays.findSome? (s.roomIn b.variant b.height) <;> rfl

/-- R85: the run the search finds can be reserved. -/
theorem State.searched_canReserve (h : s.BayInv) (tag : Half) {variant height : Nat} {d : Destination}
    (hd : allBays.findSome? (s.roomIn variant height) = some d) : ((s.searched tag variant height).bay d.bay).CanReserve d := by
  have hfound := (searchVariant_keeps (P := fun _ => True) (tag := tag) (variant := variant) (height := height)
    (fun _ _ _ _ _ => trivial) allBays (s := s) trivial).2 d
  rw [searchVariant_allBays h] at hfound
  obtain ⟨slots, pitch, dir, t, hk, -, ht, hfirst, -, hroom⟩ := hfound hd
  refine .inr ⟨_, _, _, _, _, hk, ht, fun hdown => ?_⟩
  subst hdown
  simp only [slotAt] at hfirst
  omega

/-! ### The variant route's failure (R89) -/

/-- R87: the search changes no bay's kind, and uses no free value. -/
theorem State.searched_keeps (tag : Half) (variant height : Nat) : (s.searched tag variant height).free = s.free ∧
    ∀ id, ((s.searched tag variant height).bay id).kind = (s.bay id).kind := by
  refine foldl_keeps (P := fun u : State => u.free = s.free ∧ ∀ id, (u.bay id).kind = (s.bay id).kind)
    (g := fun s id => becomeFull tag id s) (fun u i hu => ⟨hu.1, fun id => ?_⟩) _ ⟨rfl, fun _ => rfl⟩
  refine Eq.trans ?_ (hu.2 id)
  refine (congrArg Bay.kind (bay_modBay (s := u) i id fun r => { r with state := .full })).trans ?_
  split
  next he => rw [he]
  next => rfl

theorem unfittableSpan_eq {spans : List (Nat × Nat)} {n : Nat} (hne : spans ≠ []) (h : ∀ x ∈ spans, x.1 = n) :
    unfittableSpan s spans = BitVec.ofNat 8 n := by
  cases spans with
  | nil => exact absurd rfl hne
  | cons x rest =>
    have hx : x.1 = n := h x (List.mem_cons_self ..)
    have hrest : rest.all (fun y => decide (y.1 = x.1)) = true :=
      List.all_eq_true.mpr fun y hy => decide_eq_true ((h y (List.mem_cons_of_mem _ hy)).trans hx.symm)
    rw [← hx]
    exact if_pos hrest

theorem State.BayInv.spansFor (h : s.BayInv) (hu : ∀ id, (u.bay id).kind = (s.bay id).kind) (variant height : Nat) :
    u.spansFor variant height = allBays.filterMap fun id => match (s.bay id).kind with
      | .normal v slots pitch _ => if v = variant then some (ceilDiv height pitch, slots) else none
      | _ => none := by
  refine List.filterMap_congr fun id _ => ?_
  rw [hu id]
  cases hk : (s.bay id).kind with
  | none => rfl
  | reject c => rfl
  | normal v slots pitch dir => simp only [spanOf_eq_ceilDiv ((h.1 id).pitch hk)]

end Judged

/-- Settles O51: the route of the board decides which bays are judged, and the run found is reserved. -/
theorem placeReservesARun : Obligations.PlaceReservesARun := by
  refine ⟨?place, ?full⟩
  case full =>
    intro tag id s b full
    refine ⟨fun v slots pitch dir t hk ht => ?_, fun c hk => ?_⟩
    · have hlimits : b.limits = (slots, t.cursor) := by
        simp only [Bay.limits, hk, ht]
        rfl
      exact congrArg (fun l : Nat × Nat => full l.1 l.2) hlimits
    · have hlimits : b.limits = (c, b.placed) := by simp only [Bay.limits, hk]
      exact congrArg (fun l : Nat × Nat => full l.1 l.2) hlimits
  case place =>
    intro w s f rest more q hbay h hr k held? code
    have hcode : code = refusalIn (checkPlace s q) := firstFailing_placeChecks
    refine ⟨fun c hc => ?void, fun hok r hk b hb => ?route⟩
    case void =>
      have hcheck := refusalIn_eq_some.mp (hcode.symm.trans hc)
      have hj : judgePlace f.cycle (itemOf 0x16 w) q s = .void c s [] := by rw [judgePlace, hcheck]
      rw [exec_place h hr, hj]
      rfl
    case route =>
      intro toReject sent noSlot spans s1 found
      obtain ⟨⟨r', b'⟩, hcheck⟩ := refusalIn_eq_none.mp (hcode.symm.trans hok)
      obtain ⟨-, -, hbound, hboard, -⟩ := checkPlace_ok hcheck
      obtain rfl : r = r' := Option.some.inj (hk.symm.trans hbound)
      obtain rfl : b = b' := Option.some.inj (hb.symm.trans hboard)
      have hpass {s' : State} {d : Destination} (hcan : (s'.bay d.bay).CanReserve d) (hj : judgePlace f.cycle (itemOf 0x16 w) q s =
          .pass (reservePlace w.tag f.cycle r d s') (withRun (itemOf 0x16 w) d)) : sent s' d := by
        change exec (.place w) s = _
        rw [exec_place h hr, hj, reservePlace_eq hcan]
        rfl
      have hvoid {s' : State} {why : Notice} (hj : judgePlace f.cycle (itemOf 0x16 w) q s = .void .noSlot s' [why]) : noSlot s' why := by
        change exec (.place w) s = _
        rw [exec_place h hr, hj]
        rfl
      have hspans : s1.spansFor b.variant b.height = spans := hbay.spansFor (s.searched_keeps ..).2 _ _
      have hfree : s1.free = s.free := (s.searched_keeps ..).1
      have hnone (ht : toReject = false) (hf : found = none) : judgePlace f.cycle (itemOf 0x16 w) q s =
          .void .noSlot { s1 with free := s.free + 1 } [variantFailure s1 r b] := by
        rw [judgePlace_variant hbay hcheck ht, show allBays.findSome? _ = none from hf, ← hfree]
        rfl
      refine ⟨fun ht id c hkind hone => ?reject, fun ht hno => ?noReject, fun ht d hd => ?found, fun ht hf hx => ?noRoom,
        fun ht hf hx => ?unfittable⟩
      case reject =>
        have hid : s.rejectBay = some id := State.rejectBay_eq_some (by rw [hkind]; rfl) hone
        have hj := judgePlace_reject hcheck ht f.cycle (itemOf 0x16 w)
        rw [searchReject_eq hid, hid] at hj
        refine ⟨fun hst => hpass (.inl ⟨c, hkind⟩) (hj.trans ?_), fun hst => hvoid (hj.trans ?_)⟩
        · rw [if_pos hst]; rfl
        · rw [if_neg hst]; rfl
      case noReject =>
        have hid : s.rejectBay = none := State.rejectBay_eq_none hno
        have hsearch : searchReject s = none := by rw [searchReject, hid]
        refine hvoid ((judgePlace_reject hcheck ht f.cycle (itemOf 0x16 w)).trans ?_)
        rw [hsearch, hid]
        rfl
      case found =>
        refine hpass (State.searched_canReserve hbay w.tag hd) ((judgePlace_variant hbay hcheck ht f.cycle (itemOf 0x16 w)).trans ?_)
        rw [show allBays.findSome? _ = some d from hd]
        rfl
      case noRoom =>
        have hsome : ¬spans.all (fun x => decide (x.2 < x.1)) = true := by
          obtain ⟨x, hmem, hle⟩ := hx
          intro hall
          exact absurd (decide_eq_true_iff.mp (List.all_eq_true.mp hall x hmem)) (Nat.not_lt.mpr hle)
        refine hvoid ((hnone ht hf).trans ?_)
        rw [variantFailure, hspans]
        exact congrArg (fun why => Verdict.void .noSlot _ [why]) (if_neg hsome)
      case unfittable =>
        have hall : spans.all (fun x => decide (x.2 < x.1)) = true := List.all_eq_true.mpr fun x hmem => decide_eq_true (hx x hmem)
        refine ⟨unfittableSpan s1 spans, fun n hne hn => unfittableSpan_eq hne hn, hvoid ((hnone ht hf).trans ?_)⟩
        rw [variantFailure, hspans]
        exact congrArg (fun why => Verdict.void .noSlot _ [why]) (if_pos hall)

end Sys2Proof.Machine

/-! The return frame: the answers and the notices that go up in it (section 8.6). -/

namespace Sys2Proof.Machine

section Filled
variable {r : ReturnPath}

theorem length_answerItems (own : Station) (a : Answer) : (answerItems own a).length = answerParts a := by
  rw [answerItems, List.length_map, List.length_range]

theorem partsOf_cons (a : Answer) (l : List Answer) (k : Nat) : partsOf (a :: l) (k + 1) = answerParts a + partsOf l k := by
  rw [partsOf, partsOf, List.take_succ_cons, List.map_cons, List.sum_cons]

theorem length_flatMap_answerItems (own : Station) (l : List Answer) (k : Nat) :
    ((l.take k).flatMap (answerItems own)).length = partsOf l k := by
  rw [List.length_flatMap, partsOf]
  exact congrArg List.sum (List.map_congr_left fun a _ => length_answerItems own a)

/-- R146, R169: the answers taken are those that fit, oldest first and whole. -/
theorem takeAnswers_fill (own : Station) (l : List Answer) (room : Nat) : ∃ k, AnswersFill l room k ∧
    takeAnswers own l room = ((l.take k).flatMap (answerItems own), l.drop k) := by
  induction l generalizing room with
  | nil => exact ⟨0, ⟨Nat.le_refl 0, Nat.zero_le room, fun h => absurd h (Nat.lt_irrefl 0)⟩, rfl⟩
  | cons a as ih =>
    rw [takeAnswers]
    by_cases hfits : answerParts a ≤ room
    · obtain ⟨k, ⟨hle, hparts, hnext⟩, htake⟩ := ih (room - answerParts a)
      refine ⟨k + 1, ⟨Nat.succ_le_succ hle, ?_, fun hk => ?_⟩, ?_⟩
      · rw [partsOf_cons]
        omega
      · have := hnext (Nat.lt_of_succ_lt_succ hk)
        rw [partsOf_cons]
        omega
      · rw [if_pos hfits, htake]
        rfl
    · refine ⟨0, ⟨Nat.zero_le _, Nat.zero_le room, fun _ => ?_⟩, if_neg hfits⟩
      rw [partsOf_cons]
      exact Nat.lt_add_right _ (Nat.not_le.mp hfits)

theorem takeNotices_nil (own : Station) (room : Nat) (h : r.notices = []) :
    takeNotices own room r = ((r.notices.take room).map (noticeItem own), { r with notices := r.notices.drop room }) := by
  obtain ⟨answers, notices, overflow, lost, answerLost⟩ := r
  obtain rfl : notices = [] := h
  cases room <;> simp [takeNotices]

/-- R146: with no OVERFLOW due, the oldest notices go up. -/
theorem takeNotices_of_overflow (own : Station) (room : Nat) (h : r.overflow = false) :
    takeNotices own room r = ((r.notices.take room).map (noticeItem own), { r with notices := r.notices.drop room }) := by
  induction room generalizing r with
  | zero => rfl
  | succ room ih =>
    cases hcons : r.notices with
    | nil => rw [← hcons]; exact takeNotices_nil own _ hcons
    | cons p rest =>
      have hleave : r.leave rest = { r with notices := rest } := by rw [ReturnPath.leave, h]; rfl
      rw [takeNotices, hcons]
      dsimp only
      rw [hleave, ih (r := { r with notices := rest }) h]
      rfl

/-- R146: the notices that go up, an OVERFLOW notice the newest of them once one has made its room. -/
theorem takeNotices_toSend (own : Station) (room : Nat) : takeNotices own room r =
    let cleared := r.overflow = true ∧ 0 < room ∧ r.notices ≠ []
    (((r.toSend room).take room).map (noticeItem own), { r with
      notices := (r.toSend room).drop room,
      overflow := r.overflow && !decide cleared,
      lost := if cleared then 0 else r.lost }) := by
  dsimp only
  by_cases hcleared : r.overflow = true ∧ 0 < room ∧ r.notices ≠ []
  · obtain ⟨hover, hroom, hne⟩ := hcleared
    obtain ⟨n, rfl⟩ := Nat.exists_eq_succ_of_ne_zero (Nat.pos_iff_ne_zero.mp hroom)
    obtain ⟨p, rest, hcons⟩ := List.exists_cons_of_ne_nil hne
    have hleave : r.leave rest = { r with notices := rest ++ [⟨0, .overflow r.lost⟩], overflow := false, lost := 0 } := by
      rw [ReturnPath.leave, hover]; rfl
    have hsend : r.toSend (n + 1) = p :: (rest ++ [⟨0, .overflow r.lost⟩]) := by
      rw [ReturnPath.toSend, if_pos ⟨hover, hroom, hne⟩, hcons]; rfl
    rw [takeNotices, hcons]
    dsimp only
    rw [hleave, takeNotices_of_overflow own n rfl, hsend]
    simp [hover]
  · have hsend : r.toSend room = r.notices := if_neg hcleared
    rw [hsend, if_neg hcleared, decide_eq_false hcleared, Bool.not_false, Bool.and_true]
    by_cases hnil : r.notices = []
    · exact takeNotices_nil own room hnil
    · rcases Nat.eq_zero_or_pos room with rfl | hroom
      · rfl
      · exact takeNotices_of_overflow own room (Bool.eq_false_iff.mpr fun hover => hcleared ⟨hover, hroom, hnil⟩)

/-- R146, R169: a return frame is filled with whole answers and then notices. -/
theorem fillReturn_filled (own : Station) (items : List Item) (r : ReturnPath) : ∃ k, AnswersFill r.answers (24 - items.length) k ∧
    fillReturn own items r = (items ++ (r.filled own (24 - items.length) k).2, (r.filled own (24 - items.length) k).1) := by
  obtain ⟨k, hfill, htake⟩ := takeAnswers_fill own r.answers (24 - items.length)
  refine ⟨k, hfill, ?_⟩
  have hleft : 24 - (items ++ (r.answers.take k).flatMap (answerItems own)).length = 24 - items.length - partsOf r.answers k := by
    rw [List.length_append, length_flatMap_answerItems, Nat.sub_add_eq]
  unfold fillReturn
  simp only [Config.maxItems, htake, hleft, takeNotices_toSend, List.append_assoc]
  rfl

end Filled

/-- Settles O11: the items stay as they stand, and the room left is filled. -/
theorem returnFrameTakesAnswersThenNotices : Obligations.ReturnFrameTakesAnswersThenNotices := by
  intro s f rest hup htodo
  obtain ⟨k, hfill, hr⟩ := fillReturn_filled s.line.ownAddr f.items s.ret
  refine ⟨k, hfill, congrArg Host.Outcome.next ?_⟩
  rw [fillAndSend, hup]
  dsimp only
  rw [if_pos htodo, hr]
  rfl

end Sys2Proof.Machine

/-! The insertion of pending items into a frame that leaves, in closed form (sections 8.4 and 8.6). -/

namespace Sys2Proof.Machine

section Lanes
variable {s : State} {g : LaneId → Lane} {i : LaneId}

/-! ### The lanes, one by one -/

/-- The state with other lane records. -/
def State.withLanes (s : State) (g : LaneId → Lane) : State := { s with lanes := Vector.ofFn g }

@[simp] theorem State.lane_withLanes (i : LaneId) : (s.withLanes g).lane i = g i := Vector.getElem_ofFn i.isLt

theorem State.withLanes_lane (s : State) : s.withLanes s.lane = s := by
  have hlanes : Vector.ofFn s.lane = s.lanes := Vector.ext fun j hj => Vector.getElem_ofFn hj
  rw [State.withLanes, hlanes]

theorem modLane_withLanes (i : LaneId) (f : Lane → Lane) : modLane i f (s.withLanes g) = s.withLanes (Function.update g i (f (g i))) := by
  rw [modLane_eq, State.lane_withLanes]
  refine congrArg (fun v => { s with lanes := v }) (Vector.ext fun j hj => ?_)
  rw [Vector.getElem_ofFn, Function.update_apply]
  change ((Vector.ofFn g).set i.val (f (g i)) i.isLt)[j] = _
  rw [Vector.getElem_set, Vector.getElem_ofFn]
  exact if_congr (by rw [Fin.ext_iff, eq_comm]) rfl rfl

/-- Steps that each change one lane by its own rule change every lane by its rule. -/
theorem foldl_lanes {step : State → LaneId → State} {F : LaneId → Lane → Lane}
    (hstep : ∀ g i, step (s.withLanes g) i = s.withLanes (Function.update g i (F i (g i)))) (l : List LaneId) (hl : l.Nodup)
    (g : LaneId → Lane) : l.foldl step (s.withLanes g) = s.withLanes fun j => if j ∈ l then F j (g j) else g j := by
  induction l generalizing g with
  | nil => rfl
  | cons i rest ih =>
    obtain ⟨hi, hrest⟩ := List.nodup_cons.mp hl
    rw [List.foldl_cons, hstep, ih hrest]
    refine congrArg s.withLanes (funext fun j => ?_)
    by_cases hj : j = i
    · subst hj
      simp [hi]
    · simp [hj]

theorem foldl_allLanes {step : State → LaneId → State} {F : LaneId → Lane → Lane}
    (hstep : ∀ g i, step (s.withLanes g) i = s.withLanes (Function.update g i (F i (g i)))) :
    allLanes.foldl step s = s.withLanes fun j => F j (s.lane j) := by
  have hall : ∀ j : LaneId, j ∈ allLanes := by decide
  have hfold := foldl_lanes hstep allLanes (by decide) s.lane
  rw [State.withLanes_lane] at hfold
  rw [hfold]
  exact congrArg s.withLanes (funext fun j => if_pos (hall j))

theorem stopSpindle_eq (i : LaneId) (s : State) : stopSpindle i s = modLane i (fun l => l.stopped s.now) s := rfl

/-- R118: what a lane's spindle is told leaves its pending items alone. -/
theorem Lane.stopped_pend (l : Lane) (now : Nat) (p : Pend) :
    { l.stopped now with pend := p } = ({ l with pend := p } : Lane).stopped now := by
  unfold Lane.stopped
  dsimp only
  split <;> rfl

theorem Lane.pend_stopped (l : Lane) (now : Nat) : (l.stopped now).pend = l.pend := by
  unfold Lane.stopped
  split <;> rfl

end Lanes

section Insertion
variable {s : State} {g : LaneId → Lane} {items : List Item} {i : LaneId}

/-! ### What the frame carries is delivered (R141, step 1) -/

/-- R141, step 1: a lane once its frame has carried what it carries. -/
def State.credited (s : State) (items : List Item) (i : LaneId) (l : Lane) : Lane :=
  { l with pend := { l.pend with stop := l.pend.stop && !s.carries items i 0x11, abort := l.pend.abort && !s.carries items i 0x18 } }

theorem isStopTo_eq (a : Station) (it : Item) : isStopTo a it =
    (it.kind == 0x11 && stationOf it.addr == a && ((0x11 : Byte) != 0x11 || payloadHalf it.payload 4 == 0)) := by
  have hspeed : Operand.spinSpeed it.payload = 0 ↔ payloadHalf it.payload 4 = 0 := by
    rw [Operand.spinSpeed, halfNat]
    exact ⟨fun h => BitVec.eq_of_toNat_eq h, fun h => by rw [h]; rfl⟩
  simp only [isStopTo, beq_eq_decide, hspeed, bne_self_eq_false, Bool.false_or] <;> rfl

theorem isAbortTo_eq (a : Station) (it : Item) : isAbortTo a it =
    (it.kind == 0x18 && stationOf it.addr == a && ((0x18 : Byte) != 0x11 || payloadHalf it.payload 4 == 0)) := by
  have hkind : ((0x18 : Byte) != 0x11) = true := rfl
  simp only [isAbortTo, beq_eq_decide, hkind, Bool.true_or, Bool.and_true] <;> rfl

theorem creditLane_withLanes (items : List Item) (g : LaneId → Lane) (i : LaneId) :
    creditLane items (s.withLanes g) i = s.withLanes (Function.update g i (s.credited items i (g i))) := by
  have haddr : (s.withLanes g).addrOf (.lane i) = s.addrOf (.lane i) := rfl
  unfold creditLane
  rw [haddr]
  cases ha : s.addrOf (.lane i) with
  | none =>
    have hsame : s.credited items i (g i) = g i := by simp [State.credited, State.carries, ha]
    rw [hsame, Function.update_eq_self]
  | some a =>
    dsimp only
    rw [modLane_withLanes]
    simp only [State.credited, State.carries, ha, funext (isStopTo_eq a), funext (isAbortTo_eq a)] <;> rfl

/-! ### The pending items are inserted (R141, steps 2 and 3) -/

/-- R141: the lane once its pending ABORT, SPIN stop or FEED has been inserted. -/
def Lane.abortSent (l : Lane) : Lane := { l with pend := { l.pend with abort := false } }
def Lane.stopSent (l : Lane) (now : Nat) : Lane := ({ l with pend := { l.pend with stop := false } } : Lane).stopped now
def Lane.feedSent (l : Lane) : Lane := { l with pend := { l.pend with feed := none } }

/-- R141: the lanes named by what was taken, changed. -/
def delivered (f : Lane → Lane) (taken : List Due) (g : LaneId → Lane) (j : LaneId) : Lane :=
  if taken.any fun d => d.lane == j then f (g j) else g j

/-- R141: the lanes and the items once a lane's pending item, if it has one, has gone into the room left. -/
def insertDue (item : Due → Item) (give : LaneId → Lane → Option Due) (f : Lane → Lane)
    (r : (LaneId → Lane) × List Item) (i : LaneId) : (LaneId → Lane) × List Item :=
  match give i (r.1 i) with
  | some d => if r.2.length < 24 then (Function.update r.1 i (f (r.1 i)), r.2 ++ [item d]) else r
  | none => r

/-- R141: the pending items of some lanes go in their order into the room left, and the lanes whose item went in are changed. -/
theorem foldl_insertDue (item : Due → Item) {give : LaneId → Lane → Option Due} (hlane : ∀ i l d, give i l = some d → d.lane = i)
    (f : Lane → Lane) (l : List LaneId) (hl : l.Nodup) (g : LaneId → Lane) (items : List Item) :
    let taken := (l.filterMap fun i => give i (g i)).take (24 - items.length)
    l.foldl (insertDue item give f) (g, items) =
      (delivered f taken g, items ++ taken.map item) := by
  unfold delivered
  dsimp only
  induction l generalizing g items with
  | nil => simp
  | cons i rest ih =>
    obtain ⟨hi, hrest⟩ := List.nodup_cons.mp hl
    have hothers (x : Lane) : (rest.filterMap fun j => give j (Function.update g i x j)) = rest.filterMap fun j => give j (g j) :=
      List.filterMap_congr fun j hj => by rw [Function.update_of_ne (ne_of_mem_of_not_mem hj hi)]
    rw [List.foldl_cons]
    cases hg : give i (g i) with
    | none =>
      have hstep : insertDue item give f (g, items) i = (g, items) := by simp [insertDue, hg]
      rw [hstep, ih hrest, List.filterMap_cons_none (f := fun i => give i (g i)) hg]
    | some d =>
      have hd := hlane i _ d hg
      by_cases hroom : items.length < 24
      · have hstep : insertDue item give f (g, items) i = (Function.update g i (f (g i)), items ++ [item d]) := by
          simp [insertDue, hg, hroom]
        have hleft : 24 - items.length = 24 - (items ++ [item d]).length + 1 := by
          rw [List.length_append, List.length_singleton]
          omega
        rw [hstep, ih hrest, hothers, List.filterMap_cons_some (f := fun i => give i (g i)) hg, hleft, List.take_succ_cons]
        refine Prod.ext (funext fun j => ?_) (by simp)
        by_cases hj : j = i
        · subst hj
          have hnone : ((rest.filterMap fun k => give k (g k)).take (24 - (items ++ [item d]).length)).any
              (fun d => d.lane == j) = false := by
            refine List.any_eq_false.mpr fun x hx => ?_
            obtain ⟨k, hk, hgive⟩ := List.mem_filterMap.mp (List.mem_of_mem_take hx)
            rw [hlane k _ x hgive, beq_iff_eq]
            exact ne_of_mem_of_not_mem hk hi
          simp only [hnone, hd, Bool.false_eq_true, if_false, Function.update_self, List.any_cons, beq_self_eq_true, Bool.true_or, if_true]
        · have hne : ¬d.lane = j := fun he => hj (he.symm.trans hd)
          simp [hj, hne]
      · have hstep : insertDue item give f (g, items) i = (g, items) := by simp [insertDue, hg, hroom]
        have hleft : 24 - items.length = 0 := by omega
        rw [hstep, ih hrest, hleft, List.take_zero, List.take_zero]

/-- R141: the pending ABORT of a lane whose role maps to an address. -/
def State.dueAbort (s : State) (i : LaneId) (l : Lane) : Option Due :=
  if (s.addrOf (.lane i)).isSome = true ∧ l.pend.abort = true then some (.abort i) else none

/-- R141: the pending SPIN stop of a lane whose role maps to an address. -/
def State.dueStop (s : State) (i : LaneId) (l : Lane) : Option Due :=
  if (s.addrOf (.lane i)).isSome = true ∧ l.pend.stop = true then some (.stop i) else none

/-- R141: the pending FEED of a lane whose role maps to an address. -/
def State.dueFeed (s : State) (i : LaneId) (l : Lane) : Option Due :=
  if (s.addrOf (.lane i)).isSome = true then l.pend.feed.map (Due.feed i) else none

theorem dueItem_abort {a : Station} (ha : s.addrOf (.lane i) = some a) : s.dueItem (.abort i) = builtItem a Kind.abort [] := by
  simp only [State.dueItem, Due.lane, ha]
  rfl

theorem dueItem_stop {a : Station} (ha : s.addrOf (.lane i) = some a) : s.dueItem (.stop i) = builtItem a Kind.spin (leBytes 2 0) := by
  simp only [State.dueItem, Due.lane, ha]
  rfl

theorem dueItem_feed {a : Station} (ha : s.addrOf (.lane i) = some a) (v : Nat) :
    s.dueItem (.feed i v) = builtItem a Kind.feed (leBytes 1 v) := by
  have hpayload : payloadOf (leBytes 1 v) = BitVec.ofNat 96 (v % 256) := by simp [payloadOf, leBytes, ofLeBytes]
  simp only [State.dueItem, Due.lane, ha, builtItem, hpayload]
  rfl

theorem insertAbort_withLanes (r : (LaneId → Lane) × List Item) (i : LaneId) : insertAbort (s.withLanes r.1, r.2) i =
    (fun r => (s.withLanes r.1, r.2))
      (insertDue s.dueItem s.dueAbort Lane.abortSent r i) := by
  have haddr : (s.withLanes r.1).addrOf (.lane i) = s.addrOf (.lane i) := rfl
  unfold insertAbort insertDue State.dueAbort
  dsimp only
  rw [haddr, State.lane_withLanes]
  cases ha : s.addrOf (.lane i) with
  | none => simp
  | some a =>
    by_cases hp : (r.1 i).pend.abort = true
    · by_cases hroom : r.2.length < 24 <;>
        simp [hp, hroom, Config.maxItems, modLane_withLanes, dueItem_abort ha, Lane.abortSent, -modLane_eq]
    · simp [hp]

theorem insertStop_withLanes (r : (LaneId → Lane) × List Item) (i : LaneId) : insertStop (s.withLanes r.1, r.2) i =
    (fun r => (s.withLanes r.1, r.2))
      (insertDue s.dueItem s.dueStop (fun l => l.stopSent s.now) r i) := by
  have haddr : (s.withLanes r.1).addrOf (.lane i) = s.addrOf (.lane i) := rfl
  have hstop (l : Lane) : stopSpindle i (s.withLanes (Function.update r.1 i l)) =
      s.withLanes (Function.update r.1 i (l.stopped s.now)) := by
    rw [stopSpindle_eq, modLane_withLanes, Function.update_self, Function.update_idem]
    rfl
  unfold insertStop insertDue State.dueStop
  dsimp only
  rw [haddr, State.lane_withLanes]
  cases ha : s.addrOf (.lane i) with
  | none => simp
  | some a =>
    by_cases hp : (r.1 i).pend.stop = true
    · by_cases hroom : r.2.length < 24 <;>
        simp [hp, hroom, Config.maxItems, modLane_withLanes, hstop, dueItem_stop ha, Lane.stopSent, -modLane_eq]
    · simp [hp]

theorem insertFeed_withLanes (r : (LaneId → Lane) × List Item) (i : LaneId) : insertFeed (s.withLanes r.1, r.2) i =
    (fun r => (s.withLanes r.1, r.2))
      (insertDue s.dueItem s.dueFeed Lane.feedSent r i) := by
  have haddr : (s.withLanes r.1).addrOf (.lane i) = s.addrOf (.lane i) := rfl
  unfold insertFeed insertDue State.dueFeed
  dsimp only
  rw [haddr, State.lane_withLanes]
  cases ha : s.addrOf (.lane i) with
  | none => simp
  | some a =>
    cases hp : (r.1 i).pend.feed with
    | none => simp
    | some v =>
      by_cases hroom : r.2.length < 24 <;>
        simp [hroom, Config.maxItems, modLane_withLanes, dueItem_feed ha, Lane.feedSent, -modLane_eq]

/-! ### The walked frame, topped up (R141) -/

/-- One kind of pending item after another: the lanes change and the items are added as the closed form says. -/
theorem foldl_insert {step : State × List Item → LaneId → State × List Item} {give : LaneId → Lane → Option Due}
    {f : Lane → Lane} (hstep : ∀ (r : (LaneId → Lane) × List Item) i,
      step (s.withLanes r.1, r.2) i = (fun r => (s.withLanes r.1, r.2)) (insertDue s.dueItem give f r i))
    (hlane : ∀ i l d, give i l = some d → d.lane = i) (g : LaneId → Lane) (items : List Item) {taken : List Due}
    (htaken : (allLanes.filterMap fun i => give i (g i)).take (24 - items.length) = taken) :
    allLanes.foldl step (s.withLanes g, items) =
      (s.withLanes (delivered f taken g), items ++ taken.map s.dueItem) := by
  refine (List.foldl_hom (init := (g, items)) (fun r : (LaneId → Lane) × List Item => (s.withLanes r.1, r.2)) hstep).trans ?_
  rw [foldl_insertDue s.dueItem hlane f allLanes (by decide) g items, htaken]

/-- A due item is a FEED of the lane. -/
def Due.feeds (j : LaneId) (d : Due) : Bool :=
  match d with
  | .feed i _ => i == j
  | _ => false

theorem laneDelivered_eq (taken : List Due) (j : LaneId) : s.laneDelivered items taken j =
    let l : Lane := { s.lane j with pend :=
      { abort := (s.lane j).pend.abort && !s.carries items j 0x18 && !taken.contains (.abort j),
        stop := (s.lane j).pend.stop && !s.carries items j 0x11 && !taken.contains (.stop j),
        feed := if taken.any (Due.feeds j) then none else (s.lane j).pend.feed } }
    if taken.contains (.stop j) then l.stopped s.now else l := rfl

section Taken
variable {aborts stops feeds : List Due} (ha : ∀ d ∈ aborts, ∃ i, d = .abort i) (hs : ∀ d ∈ stops, ∃ i, d = .stop i)
  (hf : ∀ d ∈ feeds, ∃ i v, d = .feed i v) (j : LaneId)
include ha hs hf

theorem any_lane_aborts : (aborts.any fun d => d.lane == j) = (aborts ++ stops ++ feeds).contains (.abort j) := by
  rw [Bool.eq_iff_iff, List.any_eq_true, List.contains_iff_mem, List.mem_append, List.mem_append]
  constructor
  · rintro ⟨d, hd, hj⟩
    obtain ⟨i, rfl⟩ := ha d hd
    obtain rfl : i = j := beq_iff_eq.mp hj
    exact .inl (.inl hd)
  · rintro ((h | h) | h)
    · exact ⟨_, h, beq_self_eq_true j⟩
    · obtain ⟨i, hi⟩ := hs _ h
      cases hi
    · obtain ⟨i, v, hi⟩ := hf _ h
      cases hi

theorem any_lane_stops : (stops.any fun d => d.lane == j) = (aborts ++ stops ++ feeds).contains (.stop j) := by
  rw [Bool.eq_iff_iff, List.any_eq_true, List.contains_iff_mem, List.mem_append, List.mem_append]
  constructor
  · rintro ⟨d, hd, hj⟩
    obtain ⟨i, rfl⟩ := hs d hd
    obtain rfl : i = j := beq_iff_eq.mp hj
    exact .inl (.inr hd)
  · rintro ((h | h) | h)
    · obtain ⟨i, hi⟩ := ha _ h
      cases hi
    · exact ⟨_, h, beq_self_eq_true j⟩
    · obtain ⟨i, v, hi⟩ := hf _ h
      cases hi

theorem any_lane_feeds : (feeds.any fun d => d.lane == j) = (aborts ++ stops ++ feeds).any (Due.feeds j) := by
  have hnone {l : List Due} (hl : ∀ d ∈ l, d.feeds j = false) : l.any (Due.feeds j) = false :=
    List.any_eq_false.mpr fun d hd => Bool.eq_false_iff.mp (hl d hd)
  have haborts : aborts.any (Due.feeds j) = false := hnone fun d hd => by obtain ⟨i, rfl⟩ := ha d hd; rfl
  have hstops : stops.any (Due.feeds j) = false := hnone fun d hd => by obtain ⟨i, rfl⟩ := hs d hd; rfl
  rw [List.any_append, List.any_append, haborts, hstops, Bool.or_self, Bool.false_or, Bool.eq_iff_iff, List.any_eq_true, List.any_eq_true]
  refine exists_congr fun d => and_congr_right fun hd => ?_
  obtain ⟨i, v, rfl⟩ := hf d hd
  exact Iff.rfl

end Taken

/-- R141: the pending items of each kind in lane order, with what the frame carries delivered. -/
def State.dueAborts (s : State) (items : List Item) : List Due := allLanes.filterMap fun i => s.dueAbort i (s.credited items i (s.lane i))
def State.dueStops (s : State) (items : List Item) : List Due := allLanes.filterMap fun i => s.dueStop i (s.credited items i (s.lane i))
def State.dueFeeds (s : State) : List Due := allLanes.filterMap fun i => s.dueFeed i (s.lane i)

/-- R141: ABORT items go before SPIN stops, and these before FEED items. -/
theorem dues_eq : s.dues items = s.dueAborts items ++ s.dueStops items ++ s.dueFeeds := by
  have hmapped {P : LaneId → Bool} {Q : LaneId → Bool} (mk : LaneId → Due) (l : List LaneId) :
      ((l.filter P).filter Q).map mk = l.filterMap fun i => if P i = true ∧ Q i = true then some (mk i) else none := by
    induction l with
    | nil => rfl
    | cons i rest ih => by_cases hP : P i = true <;> by_cases hQ : Q i = true <;> simp [hP, hQ, ← ih]
  have hfeeds {P : LaneId → Bool} {give : LaneId → Option Due} (l : List LaneId) :
      (l.filter P).filterMap give = l.filterMap fun i => if P i = true then give i else none := by
    rw [List.filterMap_filter]
  unfold State.dues
  dsimp only
  rw [hmapped, hmapped, hfeeds]
  rfl

/-- R141: the kind of what is due, where its lane gives it. -/
theorem due_kind {i : LaneId} {l : Lane} {d : Due} : (s.dueAbort i l = some d → d = .abort i) ∧
    (s.dueStop i l = some d → d = .stop i) ∧
    (s.dueFeed i l = some d → ∃ v, d = .feed i v) := by
  refine ⟨fun h => ?_, fun h => ?_, fun h => ?_⟩
  · exact (Option.some.inj (Option.ite_none_right_eq_some.mp h).2).symm
  · exact (Option.some.inj (Option.ite_none_right_eq_some.mp h).2).symm
  · obtain ⟨v, -, hv⟩ := Option.map_eq_some_iff.mp (Option.ite_none_right_eq_some.mp h).2
    exact ⟨v, hv.symm⟩

theorem mem_take_filterMap {give : LaneId → Option Due} {n : Nat} {l : List LaneId} {d : Due} (h : d ∈ (l.filterMap give).take n) :
    ∃ i, give i = some d := by
  obtain ⟨i, -, hi⟩ := List.mem_filterMap.mp (List.mem_of_mem_take h)
  exact ⟨i, hi⟩

/-- R118, R141: a SPIN stop and a FEED leave the other pending items. -/
theorem delivered_pend (taken : List Due) (g : LaneId → Lane) (now : Nat) (j : LaneId) :
    (delivered Lane.abortSent taken g j).pend.stop = (g j).pend.stop ∧
      (delivered Lane.abortSent taken g j).pend.feed = (g j).pend.feed ∧
      (delivered (fun l => l.stopSent now) taken g j).pend.feed = (g j).pend.feed := by
  unfold delivered
  split
  · exact ⟨rfl, rfl, (congrArg Pend.feed (Lane.pend_stopped { g j with pend := { (g j).pend with stop := false } } now) :)⟩
  · exact ⟨rfl, rfl, rfl⟩

theorem dueStop_congr {l l' : Lane} (h : l.pend.stop = l'.pend.stop) : s.dueStop i l = s.dueStop i l' := by
  unfold State.dueStop
  rw [h]

theorem dueFeed_congr {l l' : Lane} (h : l.pend.feed = l'.pend.feed) : s.dueFeed i l = s.dueFeed i l' := by
  unfold State.dueFeed
  rw [h]

/-- R141: the three kinds of insertion leave each lane as the closed form says. -/
theorem laneDelivered_of_delivered {aborts stops feeds : List Due} (ha : ∀ d ∈ aborts, ∃ i, d = .abort i)
    (hs : ∀ d ∈ stops, ∃ i, d = .stop i) (hf : ∀ d ∈ feeds, ∃ i v, d = .feed i v) (j : LaneId) :
    delivered Lane.feedSent feeds (delivered (fun l => l.stopSent s.now) stops (delivered Lane.abortSent aborts
      fun j => s.credited items j (s.lane j))) j = s.laneDelivered items (aborts ++ stops ++ feeds) j := by
  rw [laneDelivered_eq]
  unfold delivered
  rw [any_lane_aborts ha hs hf, any_lane_stops ha hs hf, any_lane_feeds ha hs hf]
  generalize (aborts ++ stops ++ feeds).contains (.abort j) = a
  generalize (aborts ++ stops ++ feeds).contains (.stop j) = t
  generalize (aborts ++ stops ++ feeds).any (Due.feeds j) = f
  unfold State.credited
  cases t with
  | false => cases a <;> cases f <;> simp [Lane.abortSent, Lane.feedSent, Bool.and_comm]
  | true => cases a <;> cases f <;> simp [Lane.abortSent, Lane.stopSent, Lane.feedSent, Lane.stopped_pend, Lane.pend_stopped]

/-- R141: inserting the ABORT items leaves the SPIN stops that are due, and inserting both the FEED items. -/
theorem dueStops_delivered (aborts : List Due) : (allLanes.filterMap fun i =>
    s.dueStop i (delivered Lane.abortSent aborts (fun j => s.credited items j (s.lane j)) i)) = s.dueStops items :=
  List.filterMap_congr fun i _ => dueStop_congr (delivered_pend aborts _ s.now i).1

theorem dueFeeds_delivered (aborts stops : List Due) : (allLanes.filterMap fun i => s.dueFeed i (delivered (fun l => l.stopSent s.now) stops
    (delivered Lane.abortSent aborts (fun j => s.credited items j (s.lane j))) i)) = s.dueFeeds :=
  List.filterMap_congr fun i _ => dueFeed_congr ((delivered_pend stops _ s.now i).2.2.trans (delivered_pend aborts _ s.now i).2.1)

section Room
variable {n : Nat} {a b c : List Due}

/-- The room left once the first of a list have been put in. -/
theorem room_left (item : Due → Item) : 24 - (items ++ (a.take (24 - items.length)).map item).length = 24 - items.length - a.length := by
  rw [List.length_append, List.length_map, List.length_take]
  omega

/-- Three lists that go in one after another are cut off where the room ends. -/
theorem take_three : (a ++ b ++ c).take n = a.take n ++ b.take (n - a.length) ++ c.take (n - a.length - b.length) := by
  rw [List.take_append, List.take_append, List.length_append, Nat.sub_add_eq]

end Room

/-- R141: the walked frame is topped up as the closed form says. -/
theorem topUp_eq (s : State) (items : List Item) : topUp s items = s.inserted items := by
  obtain ⟨aborts, haborts⟩ : ∃ l, (s.dueAborts items).take (24 - items.length) = l := ⟨_, rfl⟩
  obtain ⟨stops, hstops⟩ : ∃ l, (s.dueStops items).take (24 - (items ++ aborts.map s.dueItem).length) = l := ⟨_, rfl⟩
  obtain ⟨feeds, hfeeds⟩ : ∃ l,
      s.dueFeeds.take (24 - (items ++ aborts.map s.dueItem ++ stops.map s.dueItem).length) = l := ⟨_, rfl⟩
  have htaken : (s.dues items).take (24 - items.length) = aborts ++ stops ++ feeds := by
    rw [dues_eq, take_three, ← hfeeds, ← hstops, room_left, ← haborts, room_left]
  have hlanes := funext (laneDelivered_of_delivered (s := s) (items := items) (aborts := aborts) (stops := stops) (feeds := feeds)
    (fun d hd => (mem_take_filterMap (haborts ▸ hd)).imp fun i hi => due_kind.1 hi)
    (fun d hd => (mem_take_filterMap (hstops ▸ hd)).imp fun i hi => due_kind.2.1 hi)
    (fun d hd => (mem_take_filterMap (hfeeds ▸ hd)).imp fun i hi => due_kind.2.2 hi))
  have htop : topUp s items =
      (s.withLanes (s.laneDelivered items (aborts ++ stops ++ feeds)),
        items ++ aborts.map s.dueItem ++ stops.map s.dueItem ++ feeds.map s.dueItem) := by
    rw [← hlanes]
    unfold topUp
    dsimp only
    rw [foldl_allLanes (creditLane_withLanes items),
      foldl_insert insertAbort_withLanes (fun i l d h => by rw [due_kind.1 h]; rfl) (fun j => s.credited items j (s.lane j)) items haborts,
      foldl_insert insertStop_withLanes (fun i l d h => by rw [due_kind.2.1 h]; rfl)
        (delivered Lane.abortSent aborts fun j => s.credited items j (s.lane j)) _
        ((congrArg (List.take _) (dueStops_delivered aborts)).trans hstops),
      foldl_insert insertFeed_withLanes (fun i l d h => by obtain ⟨v, rfl⟩ := due_kind.2.2 h; rfl)
        (delivered (fun l => l.stopSent s.now) stops (delivered Lane.abortSent aborts fun j => s.credited items j (s.lane j))) _
        ((congrArg (List.take _) (dueFeeds_delivered aborts stops)).trans hfeeds)]
  rw [htop]
  unfold State.inserted
  dsimp only
  rw [htaken]
  simp only [List.map_append, List.append_assoc] <;> rfl

end Insertion
/-- R148: the return frame built for an order frame. -/
theorem buildReturn_eq {s : State} {cycle : Half} {items : List Item} {ret : ReturnPath}
    (h : fillReturn s.line.ownAddr [] s.ret = (items, ret)) :
    buildReturn cycle s = { s with
      ret := ret
      sentU := s.sentU ++ [frameBytes { kind := 0x02, cycle := cycle, items := items }] } := by
  unfold buildReturn
  rw [h]
  rfl

/-- Settles O9: the walked frame is topped up and sent, and with Port D DOWN a return frame is filled for it. -/
theorem insertionFillsTheRoom : Obligations.InsertionFillsTheRoom := by
  intro s f rest hdown hhalt htodo r sent
  have hsend : insertAndSend s =
      if s.portD.state = .down then buildReturn f.cycle { r.1 with sentD := sent, lastOrder := f.cycle }
      else { r.1 with sentD := sent, lastOrder := f.cycle } := by
    rw [insertAndSend, hdown]
    dsimp only
    rw [if_pos ⟨hhalt, htodo⟩, topUp_eq]
    rfl
  refine ⟨fun hup => congrArg Host.Outcome.next ?_, fun hport => ?_⟩
  · rw [hsend, if_neg (by rw [hup]; decide)]
  · obtain ⟨k, hfill, hr⟩ := fillReturn_filled s.line.ownAddr [] s.ret
    refine ⟨k, hfill, congrArg Host.Outcome.next ?_⟩
    rw [hsend, if_pos hport]
    exact buildReturn_eq hr

end Sys2Proof.Machine

/-! Halt frames: the cell master's, judged item by item, and the one the watchdog sends (section 8.5). -/

namespace Sys2Proof.Machine

section Halt
variable {s : State} {it : Item} {i : LaneId} {c : RefusalCode}

/-! ### One item of a halt frame (R144) -/

/-- R144: the state once items of a halt frame have been judged: the void ones told, the stopped lanes running down. -/
def State.haltedBy (s : State) (l : List Item) : State :=
  { s with
    ret := s.ret.postAll (l.filterMap fun it => (haltVoid s it).map fun c => (⟨it.tag, .refused it.kind c it.tag⟩ : Posted))
    lanes := Vector.ofFn fun i => if l.any (haltStops s i) then (s.lane i).stopped s.now else s.lane i }

/-- R144: an item as it goes on in the halt frame. -/
def State.haltedItem (s : State) (it : Item) : Item :=
  match haltVoid s it with
  | some c => voidItem it c
  | none => it

theorem haltStops_iff : haltStops s i it = true ↔ it.kind = 0x11 ∧ payloadHalf it.payload 4 = 0 ∧ stationOf it.addr ≠ 63 ∧
    stationOf it.addr ≠ s.line.ownAddr ∧ stationOf it.addr ≠ 0 ∧ s.roleAt (stationOf it.addr) = some (.lane i) := by
  simp [haltStops, and_assoc]

theorem haltedBy_untouched (hv : haltVoid s it = none) (hs : ∀ i, haltStops s i it = false) :
    (s.haltedBy [it], s.haltedItem it) = (s, it) := by
  have hlanes : s.haltedBy [it] = s.withLanes s.lane := by
    simp [State.haltedBy, State.withLanes, hv, hs, ReturnPath.postAll]
  rw [hlanes, State.withLanes_lane, State.haltedItem, hv]

theorem haltedBy_voided (hv : haltVoid s it = some c) (hs : ∀ i, haltStops s i it = false) :
    (s.haltedBy [it], s.haltedItem it) = settle it (.void c s []) := by
  have hlanes : s.haltedBy [it] = post it.tag (.refused it.kind c it.tag) (s.withLanes s.lane) := by
    simp [State.haltedBy, State.withLanes, hv, hs, ReturnPath.postAll, post]
  rw [hlanes, State.withLanes_lane, State.haltedItem, hv]
  rfl

theorem haltedBy_stopped (hv : haltVoid s it = none) (hs : ∀ j, haltStops s j it = true ↔ j = i) :
    (s.haltedBy [it], s.haltedItem it) = (stopSpindle i s, it) := by
  have hstop : stopSpindle i s = s.withLanes (Function.update s.lane i ((s.lane i).stopped s.now)) := by
    rw [stopSpindle_eq, ← modLane_withLanes i (fun l => l.stopped s.now), State.withLanes_lane]
  have hlanes : s.haltedBy [it] = s.withLanes (Function.update s.lane i ((s.lane i).stopped s.now)) := by
    simp only [State.haltedBy, State.withLanes, hv, ReturnPath.postAll, List.any_cons, List.any_nil, Bool.or_false, hs,
      List.filterMap_cons, List.filterMap_nil, Option.map_none, List.foldl_nil]
    refine congrArg (fun g => { s with lanes := Vector.ofFn g }) (funext fun j => ?_)
    by_cases hj : j = i
    · subst hj; simp
    · simp [hj]
  rw [hlanes, hstop, State.haltedItem, hv]

/-- R137: a gated kind belongs to the roles the table gives it. -/
theorem kindBelongs_iff {k : Byte} (hk : Kind.isGated k = true) (r : Role) : kindBelongs k r = true ↔ r ∈ gatedRoles k := by
  have hcases : k = 0x10 ∨ k = 0x11 ∨ k = 0x12 ∨ k = 0x13 ∨ k = 0x14 ∨ k = 0x15 ∨ k = 0x16 ∨ k = 0x17 := by
    simp only [Kind.isGated, Bool.and_eq_true, decide_eq_true_eq] at hk
    bv_omega
  have hlane : ∀ i : LaneId, i = 0 ∨ i = 1 ∨ i = 2 ∨ i = 3 := by decide
  have hpicker : ∀ q : PickerId, q = 0 ∨ q = 1 := by decide
  rcases hcases with rfl | rfl | rfl | rfl | rfl | rfl | rfl | rfl <;>
    cases r <;> simp [kindBelongs, gatedRoles, Kind.cut, Kind.spin, Kind.feed, Kind.grip, Kind.openJaws, Kind.lift, Kind.place,
      Kind.shuttle, hlane, hpicker]

/-- R137: a SPIN belongs to the lanes. -/
theorem mem_gatedRoles_spin {r : Role} : r ∈ gatedRoles 0x11 ↔ ∃ i, r = .lane i := by
  have hall : ∀ i : LaneId, Role.lane i ∈ gatedRoles 0x11 := by decide
  refine ⟨fun h => ?_, fun ⟨i, hi⟩ => hi ▸ hall i⟩
  cases r with
  | lane i => exact ⟨i, rfl⟩
  | picker q => simp [gatedRoles] at h
  | elevator => simp [gatedRoles] at h
  | table => simp [gatedRoles] at h

/-- R137, R144: the items a halt frame's judge passes without a look. -/
theorem haltVoid_untouched (h : Kind.isGated it.kind = false ∨ stationOf it.addr = 63 ∨ stationOf it.addr = s.line.ownAddr) :
    haltVoid s it = none ∧ ∀ i, haltStops s i it = false := by
  refine ⟨if_pos (h.imp_left fun hk => ?_), fun i => Bool.eq_false_iff.mpr fun hstops => ?_⟩
  · simpa [Kind.isGated] using hk
  · obtain ⟨hkind, -, h63, hown, -⟩ := haltStops_iff.mp hstops
    rcases h with hk | h | h
    · rw [hkind] at hk
      cases hk
    · exact h63 h
    · exact hown h

theorem haltItem_untouched (h : Kind.isGated it.kind = false ∨ stationOf it.addr = 63 ∨ stationOf it.addr = s.line.ownAddr) :
    haltItem s it = (s, it) := by
  unfold haltItem
  by_cases hk : Kind.isGated it.kind = false
  · exact if_pos hk
  · rw [if_neg hk, State.route]
    rcases h.resolve_left hk with h | h
    · rw [if_pos h]
    · by_cases h63 : stationOf it.addr = 63
      · rw [if_pos h63]
      · rw [if_neg h63, if_pos h]

section Judged
variable (hk : Kind.isGated it.kind = true) (h63 : stationOf it.addr ≠ 63) (hown : stationOf it.addr ≠ s.line.ownAddr)
include hk h63 hown

theorem haltVoid_judged : haltVoid s it =
    if stationOf it.addr = 0 then some .badAddress
    else (s.roleAt (stationOf it.addr)).bind fun r =>
      if r ∉ gatedRoles it.kind then some .wrongRole
      else if it.kind = 0x11 ∧ payloadHalf it.payload 4 = 0 then none else some .halted := by
  have hno : ¬(¬(0x10 ≤ it.kind.toNat ∧ it.kind.toNat ≤ 0x17) ∨ stationOf it.addr = 63 ∨
      stationOf it.addr = s.line.ownAddr) := by
    have hgated : 0x10 ≤ it.kind.toNat ∧ it.kind.toNat ≤ 0x17 := by simpa [Kind.isGated] using hk
    tauto
  unfold haltVoid
  dsimp only
  rw [if_neg hno]
  refine if_congr Iff.rfl rfl ?_
  cases s.roleAt (stationOf it.addr) <;> rfl

theorem haltItem_judged : haltItem s it =
    if stationOf it.addr = 0 then settle it (.void .badAddress s [])
    else (s.roleAt (stationOf it.addr)).elim (s, it) fun r =>
      if r ∉ gatedRoles it.kind then settle it (.void .wrongRole s [])
      else match r with
        | .lane i => if it.kind = 0x11 ∧ payloadHalf it.payload 4 = 0 then (stopSpindle i s, it) else settle it (.void .halted s [])
        | _ => settle it (.void .halted s []) := by
  have hspeed : Operand.spinSpeed it.payload = 0 ↔ payloadHalf it.payload 4 = 0 := by
    rw [Operand.spinSpeed, halfNat]
    exact ⟨fun h => BitVec.eq_of_toNat_eq h, fun h => by rw [h]; rfl⟩
  have hbelongs (r : Role) : kindBelongs it.kind r = false ↔ r ∉ gatedRoles it.kind := by
    rw [← kindBelongs_iff hk, Bool.not_eq_true]
  unfold haltItem
  rw [if_neg (by rw [hk]; exact Bool.noConfusion), State.route, if_neg h63, if_neg hown]
  by_cases h0 : stationOf it.addr = 0
  · rw [if_pos h0, if_pos h0]
  · rw [if_neg h0, if_neg h0]
    cases s.roleAt (stationOf it.addr) with
    | none => rfl
    | some r => simp only [hbelongs, hspeed, Kind.spin, Option.elim_some] <;> rfl

end Judged

/-- R144: one item, judged. -/
theorem haltItem_eq (s : State) (it : Item) : haltItem s it = (s.haltedBy [it], s.haltedItem it) := by
  by_cases hpass : Kind.isGated it.kind = false ∨ stationOf it.addr = 63 ∨ stationOf it.addr = s.line.ownAddr
  · obtain ⟨hv, hs⟩ := haltVoid_untouched hpass
    rw [haltItem_untouched hpass, haltedBy_untouched hv hs]
  · obtain ⟨hk, h63, hown⟩ := not_or.mp hpass |>.imp_right not_or.mp
    have hk := Bool.eq_true_of_not_eq_false hk
    have hvoid := haltVoid_judged hk h63 hown
    have hitem := haltItem_judged hk h63 hown
    have hnone (h : ∀ i, ¬(it.kind = 0x11 ∧ payloadHalf it.payload 4 = 0 ∧ stationOf it.addr ≠ 0 ∧
        s.roleAt (stationOf it.addr) = some (.lane i))) (i : LaneId) : haltStops s i it = false := by
      refine Bool.eq_false_iff.mpr fun hstops => ?_
      obtain ⟨hkind, hspeed, -, -, h0, hr⟩ := haltStops_iff.mp hstops
      exact h i ⟨hkind, hspeed, h0, hr⟩
    by_cases h0 : stationOf it.addr = 0
    · rw [if_pos h0] at hvoid hitem
      rw [hitem, haltedBy_voided hvoid (hnone fun i ⟨_, _, h, _⟩ => h h0)]
    · rw [if_neg h0] at hvoid hitem
      cases hr : s.roleAt (stationOf it.addr) with
      | none =>
        rw [hr] at hvoid hitem
        rw [hitem, haltedBy_untouched hvoid (hnone fun i ⟨_, _, _, h⟩ => by rw [hr] at h; cases h)]
        rfl
      | some r =>
        rw [hr, Option.bind_some] at hvoid
        rw [hr, Option.elim_some] at hitem
        by_cases hrole : r ∉ gatedRoles it.kind
        · rw [if_pos hrole] at hvoid hitem
          rw [hitem, haltedBy_voided hvoid (hnone fun i ⟨hkind, _, _, h⟩ => hrole ?_)]
          obtain rfl : r = .lane i := Option.some.inj (hr.symm.trans h)
          rw [hkind]
          exact mem_gatedRoles_spin.mpr ⟨i, rfl⟩
        · rw [if_neg hrole] at hvoid hitem
          by_cases hstop : it.kind = 0x11 ∧ payloadHalf it.payload 4 = 0
          · rw [if_pos hstop] at hvoid
            obtain ⟨i, rfl⟩ : ∃ i, r = .lane i := by
              have hmem := not_not.mp hrole
              rw [hstop.1] at hmem
              exact mem_gatedRoles_spin.mp hmem
            dsimp only at hitem
            rw [if_pos hstop] at hitem
            rw [hitem, haltedBy_stopped hvoid fun j => haltStops_iff.trans ⟨fun h => ?_, fun h => ?_⟩]
            · obtain ⟨-, -, -, -, -, hj⟩ := h
              exact (Role.lane.inj (Option.some.inj (hr.symm.trans hj))).symm
            · exact ⟨hstop.1, hstop.2, h63, hown, h0, h ▸ hr⟩
          · rw [if_neg hstop] at hvoid
            have hsettle : haltItem s it = settle it (.void .halted s []) := by
              rw [hitem]
              cases r with
              | lane i => exact if_neg hstop
              | picker q => rfl
              | elevator => rfl
              | table => rfl
            rw [hsettle, haltedBy_voided hvoid (hnone fun i ⟨hkind, hspeed, _⟩ => hstop ⟨hkind, hspeed⟩)]

/-! ### The cell master's halt frame (R144) -/

/-- R118: a spindle already told to stop is told nothing new. -/
theorem Lane.stopped_stopped (l : Lane) (now : Nat) : (l.stopped now).stopped now = l.stopped now := by
  unfold Lane.stopped
  split
  · rw [if_neg (by simp)]
  next => rfl

/-- R144: items judged one after another. -/
theorem haltedBy_haltedBy (it : Item) (rest : List Item) : (s.haltedBy [it]).haltedBy rest = s.haltedBy (it :: rest) := by
  have hlane (i : LaneId) : (s.haltedBy [it]).lane i = if haltStops s i it then (s.lane i).stopped s.now else s.lane i := by
    refine (Vector.getElem_ofFn i.isLt).trans ?_
    rw [List.any_cons, List.any_nil, Bool.or_false]
  have hlanes : (fun i => if rest.any (haltStops s i) then ((s.haltedBy [it]).lane i).stopped s.now else (s.haltedBy [it]).lane i) =
      fun i => if (it :: rest).any (haltStops s i) then (s.lane i).stopped s.now else s.lane i := by
    funext i
    rw [hlane, List.any_cons]
    cases haltStops s i it <;> cases rest.any (haltStops s i) <;> simp [Lane.stopped_stopped]
  have hnotes : ([it].filterMap fun it => (haltVoid s it).map fun c => (⟨it.tag, .refused it.kind c it.tag⟩ : Posted)) ++
      (rest.filterMap fun it => (haltVoid s it).map fun c => ⟨it.tag, .refused it.kind c it.tag⟩) =
        (it :: rest).filterMap fun it => (haltVoid s it).map fun c => ⟨it.tag, .refused it.kind c it.tag⟩ :=
    List.filterMap_append.symm
  have hret : (s.haltedBy [it]).ret.postAll
      (rest.filterMap fun it => (haltVoid s it).map fun c => ⟨it.tag, .refused it.kind c it.tag⟩) =
      s.ret.postAll ((it :: rest).filterMap fun it => (haltVoid s it).map fun c => ⟨it.tag, .refused it.kind c it.tag⟩) :=
    List.foldl_append.symm.trans (congrArg s.ret.postAll hnotes)
  exact congrArg₂ (fun r v => ({ s with ret := r, lanes := v } : State)) hret (congrArg Vector.ofFn hlanes)

theorem haltItems_eq (l : List Item) (s : State) : haltItems l s = (s.haltedBy l, l.map s.haltedItem) := by
  induction l generalizing s with
  | nil =>
    have hnone : s.haltedBy [] = s.withLanes s.lane := rfl
    rw [hnone, State.withLanes_lane]
    rfl
  | cons it rest ih =>
    have hsame : (s.haltedBy [it]).haltedItem = s.haltedItem := rfl
    rw [haltItems, haltItem_eq, ih, haltedBy_haltedBy, hsame]
    rfl

end Halt

section Watchdog
variable {s : State}

/-! ### The watchdog's halt frame (R143) -/

theorem filterMap_mapped {mk : Station → Item} {item : LaneId → Item} (h : ∀ i a, s.addrOf (.lane i) = some a → item i = mk a)
    (P : LaneId → Prop) [DecidablePred P] (l : List LaneId) :
    (l.filterMap fun i => if P i then (s.addrOf (.lane i)).map mk else none) =
      ((l.filter fun i => (s.addrOf (.lane i)).isSome).filter fun i => decide (P i)).map item := by
  induction l with
  | nil => rfl
  | cons i rest ih =>
    cases ha : s.addrOf (.lane i) with
    | none => simpa [ha] using ih
    | some a => by_cases hP : P i <;> simpa [ha, hP, h i a ha] using ih

/-- R143: the lanes whose role maps to an address. -/
def State.mappedLanes (s : State) : List LaneId := allLanes.filter fun i => (s.addrOf (.lane i)).isSome

theorem watchdogItems_eq (s : State) : watchdogItems s =
    (s.mappedLanes.filter fun i => decide ((s.lane i).state = .cutting)).map (fun i => s.dueItem (.abort i)) ++
      (s.mappedLanes.filter fun i => decide ((s.lane i).spindle ≠ .stopped)).map fun i => s.dueItem (.stop i) :=
  congrArg₂ (· ++ ·) (filterMap_mapped (fun _ _ ha => dueItem_abort ha) _ allLanes)
    (filterMap_mapped (fun _ _ ha => dueItem_stop ha) _ allLanes)

theorem contains_mappedLanes_filter (P : LaneId → Prop) [DecidablePred P] (i : LaneId) :
    (s.mappedLanes.filter fun i => decide (P i)).contains i = ((s.addrOf (.lane i)).isSome && decide (P i)) := by
  have hall : ∀ i : LaneId, i ∈ allLanes := by decide
  rw [Bool.eq_iff_iff, List.contains_iff_mem, List.mem_filter, State.mappedLanes, List.mem_filter, Bool.and_eq_true]
  simp only [hall, true_and]

/-- R143: a lane once the watchdog's halt frame has left. -/
def State.watchdogged (s : State) (i : LaneId) (l : Lane) : Lane :=
  if (s.addrOf (.lane i)).isSome then
    let l' := if l.state = .cutting then l.abortSent else l
    if l'.spindle ≠ .stopped then l'.stopSent s.now else l'
  else l

theorem watchdogDeliver_withLanes (g : LaneId → Lane) (i : LaneId) :
    watchdogDeliver (s.withLanes g) i = s.withLanes (Function.update g i (s.watchdogged i (g i))) := by
  have haddr : (s.withLanes g).addrOf (.lane i) = s.addrOf (.lane i) := rfl
  have habort : modLane i (fun l => { l with pend := { l.pend with abort := false } }) (s.withLanes g) =
      s.withLanes (Function.update g i (g i).abortSent) := modLane_withLanes ..
  have hstop (g : LaneId → Lane) : stopSpindle i (modLane i (fun l => { l with pend := { l.pend with stop := false } }) (s.withLanes g)) =
      s.withLanes (Function.update g i ((g i).stopSent s.now)) := by
    rw [stopSpindle_eq, modLane_withLanes, modLane_withLanes, Function.update_self, Function.update_idem]
    rfl
  have hjudged : (if ((s.withLanes g).lane i).state = .cutting then
      modLane i (fun l => { l with pend := { l.pend with abort := false } }) (s.withLanes g) else s.withLanes g) =
      s.withLanes (Function.update g i (if (g i).state = .cutting then (g i).abortSent else g i)) := by
    rw [State.lane_withLanes]
    by_cases hcut : (g i).state = .cutting
    · rw [if_pos hcut, if_pos hcut, habort]
    · rw [if_neg hcut, if_neg hcut, Function.update_eq_self]
  unfold watchdogDeliver State.watchdogged
  rw [haddr]
  by_cases ha : (s.addrOf (.lane i)).isSome = true
  · rw [if_pos ha, if_pos ha]
    dsimp only
    rw [hjudged, State.lane_withLanes, Function.update_self, hstop, Function.update_self, Function.update_idem]
    exact (apply_ite (fun l => s.withLanes (Function.update g i l)) _ _ _).symm
  · rw [if_neg ha, if_neg ha, Function.update_eq_self]

/-- R143: the frame carries an ABORT where the lane cuts and a SPIN stop where its spindle turns. -/
theorem watchdogged_eq (i : LaneId) (l : Lane) {aborted stopped : Bool}
    (ha : aborted = ((s.addrOf (.lane i)).isSome && decide (l.state = .cutting)))
    (ht : stopped = ((s.addrOf (.lane i)).isSome && decide (l.spindle ≠ .stopped))) :
    s.watchdogged i l =
      let l' : Lane := { l with pend := { l.pend with abort := l.pend.abort && !aborted, stop := l.pend.stop && !stopped } }
      if stopped then l'.stopped s.now else l' := by
  have hspindle : (if l.state = .cutting then l.abortSent else l).spindle = l.spindle := by split <;> rfl
  unfold State.watchdogged
  dsimp only
  rw [hspindle]
  cases hm : (s.addrOf (.lane i)).isSome with
  | false => simp [ha, ht, hm]
  | true =>
    rw [hm, Bool.true_and] at ha ht
    by_cases hc : l.state = .cutting
    · rw [if_pos hc, ha, decide_eq_true hc]
      by_cases hsp : l.spindle ≠ .stopped
      · rw [if_pos hsp, ht, decide_eq_true hsp]; simp [Lane.abortSent, Lane.stopSent]
      · rw [if_neg hsp, ht, decide_eq_false hsp]; simp [Lane.abortSent]
    · rw [if_neg hc, ha, decide_eq_false hc]
      by_cases hsp : l.spindle ≠ .stopped
      · rw [if_pos hsp, ht, decide_eq_true hsp]; simp [Lane.stopSent]
      · rw [if_neg hsp, ht, decide_eq_false hsp]; simp

end Watchdog

/-- Settles O10: the cell master's frame is judged item by item and topped up; the watchdog's carries what it delivers. -/
theorem haltFramesStopTheCell : Obligations.HaltFramesStopTheCell := by
  refine ⟨?frame, ?watchdog⟩
  case frame =>
    intro s f rest hdown hhalt items notes s1 r
    have hitems : haltItems f.todo { s with down := rest } = (s1, items) := haltItems_eq f.todo { s with down := rest }
    refine congrArg Host.Outcome.next ?_
    rw [walkHaltFrame, hdown]
    dsimp only
    rw [if_pos hhalt, hitems, topUp_eq]
    rfl
  case watchdog =>
    intro s ends hends hreset s1 mapped aborts stops items
    have hjudge : judgeLine (s.runTo ends).holdSet
        { s.runTo ends with line := { (s.runTo ends).line with watchdogHold := true, watchdog := none } } = s1 := judgeLine_eq _
    have hitems : watchdogItems s1 = items := watchdogItems_eq s1
    have hlane (i : LaneId) : s1.watchdogged i (s.lane i) = _ := watchdogged_eq i (s.lane i)
      (contains_mappedLanes_filter (s := s) (fun i => (s.lane i).state = .cutting) i)
      (contains_mappedLanes_filter (s := s) (fun i => (s.lane i).spindle ≠ .stopped) i)
    have hexpired : watchdogExpired (s.runTo ends) =
        (sendDown { kind := FrameKind.halt, cycle := s.lastOrder, items := items } s1).withLanes
        fun i => s1.watchdogged i (s.lane i) := by
      unfold watchdogExpired
      dsimp only
      rw [hjudge, hitems]
      exact foldl_allLanes watchdogDeliver_withLanes
    refine congrArg Host.Outcome.next ?_
    rw [hends, expire_running hreset, hexpired, funext hlane]
    rfl

end Sys2Proof.Machine
